-- ==== Sys2Proof/Word.lean ====
section
/-! DEFINITION. The byte and the numbered things of the WT-448 (spec 0.5.3): ports, channels, printers,
slots, job numbers, pages, grades, containers, and the plainest arithmetic over them. -/

namespace Sys2Proof

/-- One byte of a station line, a scale feed, a printer link or the spool. -/
abbrev Byte := BitVec 8

/-- A text: the characters of a seller ID, plate, name, date or printed line, in order (0.5.2). -/
abbrev Text := List Byte

/-- Station port SP0..SP3. -/
abbrev Port := Fin 4

/-- Scale channel SC0..SC2. -/
abbrev Chan := Fin 3

/-- A weighbridge, the number of its channel: SC0 or SC1 (1.6). -/
abbrev Bridge := Fin 2

/-- Printer, and Printer Engine, PE0..PE2. -/
abbrev Printer := Fin 3

/-- Ticket slot 0..47 (R21). -/
abbrev Slot := Fin 48

/-- Job number 0..31 (R134). -/
abbrev JobNo := Fin 32

/-- Spool page 0..95 (R132). -/
abbrev Page := Fin 96

/-- Grade: index 0 is grade 1, index 63 is grade 64 (R63). -/
abbrev GradeIx := Fin 64

/-- Container 0..15 (R64). -/
abbrev Container := Fin 16

/-- The channel that serves a weighbridge. -/
def Bridge.chan (b : Bridge) : Chan := b.castLE (by decide)

/-- The number of a grade as the spec counts them, 1..64. -/
def GradeIx.number (g : GradeIx) : Nat := g.val + 1

/-- The quotient rounded up: the pages of `n` lines at `d` lines a page (R119). -/
def ceilDiv (n d : Nat) : Nat := (n + d - 1) / d

/-- The characters of a piece of fixed wording, in ASCII (0.5.2). -/
def ascii (w : String) : Text := w.toList.map fun c => BitVec.ofNat 8 c.toNat

/-- A printable character is 0x20..0x7E (0.5.2). -/
def printable (b : Byte) : Bool := 0x20 ≤ b.toNat && b.toNat ≤ 0x7E

/-- Folding to upper case takes a small letter to the capital 0x20 below it (0.5.2). -/
def foldUpper (b : Byte) : Byte := if 0x61 ≤ b.toNat && b.toNat ≤ 0x7A then b - 0x20 else b

/-- A table of `n` entries, each formed anew from its number and its present value. -/
def mapEntries {α β : Type} {n : Nat} (f : Fin n → α → β) (v : Vector α n) : Vector β n :=
  Vector.ofFn fun i => f i v[i]

end Sys2Proof
end

