-- ==== Sys2Proof/Config.lean ====
section
/-! DEFINITION. The fixed constants of the part, the shape of the working settings (R180, 11.6), and the
free values the spec leaves open. -/

namespace Sys2Proof

/-- The role of a station port (0.2, R166). -/
inductive Role where
  | scale
  | payout
  | office
  | off
deriving DecidableEq, Repr

/-- The settings of one scale channel (1.2). -/
structure ChannelSettings where
  capacity : Nat
  division : Nat
  motionBand : Nat
  stableCount : Nat
  captureWindow : Nat
  minimum : Nat
  freshness : Nat
  errorThreshold : Nat
deriving DecidableEq, Repr

/-- One entry of a grade bank (R63). An absent price is a grade that is not priced. -/
structure GradeEntry where
  name : Text
  price : Option Nat
  rate : Nat
  restricted : Bool
  disabled : Bool
deriving DecidableEq, Repr

/-- The working settings: every item of the settings image (R180, 11.6), with the ACTIVE bank, the epoch,
the container tares and the alias tables. -/
structure Settings where
  channels : Vector ChannelSettings 3
  holdTime : Nat
  cashStep : Nat
  cashLimit : Nat
  anonThreshold : Nat
  receiptCopies : Nat
  headers : Vector (Option Text) 4
  footers : Vector (Option Text) 2
  stallTime : Nat
  inhibitLimit : Nat
  refusalLimit : Nat
  drawerOn : Nat
  drawerOff : Nat
  drawerCount : Nat
  enables : Vector Bool 3
  roles : Vector Role 4
  printersOf : Vector (Vector (Option Printer) 4) 4
  active : Vector GradeEntry 64
  epoch : Nat
  tares : Vector Nat 16
deriving DecidableEq, Repr

namespace Config

/-- FREE VALUE (assumption 1). GET_TICKET reports the hold time remaining (R41); the commands of the table
carry no measure of elapsed time, so the model leaves the figure open. Applied to a counter of State it
gives a fresh value at each reading; the reader bounds it by the hold time the timer was given (R27). -/
opaque freeHoldRemaining : Nat → Nat

/-- The largest amount, 9 999 999 999 minor units (0.5.1). -/
def maxAmount : Nat := 9999999999

/-- The largest ticket number (0.5.1). -/
def maxTicketNumber : Nat := 99999999

/-- The largest money or weight total of a day (R108). -/
def maxSum : Nat := 999999999999

/-- The largest count total of a day (R108). -/
def maxCount : Nat := 999999

/-- Records a full journal holds (R101). -/
def journalRoom : Nat := 128

/-- Records at which JOURNAL_HIGH is present (R107). -/
def journalHigh : Nat := 112

/-- Lines a ticket can hold (R25). -/
def maxLines : Nat := 8

/-- Line slots of a page, and the bytes of a slot and of a page (R132). -/
def slotsPerPage : Nat := 8

def slotBytes : Nat := 32

def pageBytes : Nat := 256

/-- Debounce time of a beam, ms (R13). -/
def debounceMs : Nat := 50

/-- Backoff before a refused byte is sent again, ms (R154). -/
def backoffMs : Nat := 5

/-- SYNC of a station frame (10.9.1). -/
def sync : Byte := 0xC3

/-- Start and end mark of a scale message (10.9.5). -/
def startMark : Byte := 0x02

def endMark : Byte := 0x0D

/-- Control codes of the printer link (10.9.6). -/
def codeLF : Byte := 0x0A

def codeCut : Byte := 0x0C

def codeBoldOn : Byte := 0x0E

def codeBoldOff : Byte := 0x0F

/-- What a byte of spool memory that nothing has written reads as. DESIGN CHOICE (assumption 6): the spec
gives page memory no contents at a start; such a byte lies in no written line and is never sent (R132). -/
def unwrittenByte : Byte := 0

end Config

end Sys2Proof
end

