-- ==== Sys2Proof/Syntax.lean ====
section
/-! DEFINITION. The commands of the WT-448: one constructor per row of spec/opcode_table.json.

The first fifty are the granted requests. What such a request names (its ticket number, grade, plate ...)
stands in the pending request of the port the arbiter has granted (R172, R179), TAG and data bytes as the
console sent them, so its row has no operand. The rest are the events at the part's lines and timers, with
the port, channel, slot, job or printer they happen at and what the outside brings. -/

namespace Sys2Proof

/-- The two beam heads of a weighbridge (1.6). -/
inductive BeamEnd where
  | entry
  | exit
deriving DecidableEq, Repr

/-- The level of a beam input, and the debounced state (R13). -/
inductive BeamLevel where
  | clear
  | broken
deriving DecidableEq, Repr

/-- A printer's answer in the thirteenth period of a frame (R153). -/
inductive Answer where
  | accepted
  | refused
deriving DecidableEq, Repr

/-- One command per row of the table. -/
inductive Instr where
  -- granted requests
  | getEvents
  | ackEvents
  | setMask
  | setAlias
  | openTruck
  | dump
  | openWalkin
  | addBin
  | closeWeighing
  | deduct
  | setSeller
  | setPlate
  | void
  | getTicket
  | listTickets
  | readScale
  | clearScaleFault
  | setGrade
  | switchPrices
  | getGrade
  | setContainer
  | reprice
  | review
  | release
  | pay
  | drawerKick
  | getTally
  | journalPeek
  | journalPop
  | getTotals
  | dayClose
  | reprint
  | jobOpen
  | jobWrite
  | jobSubmit
  | jobClose
  | jobCancel
  | jobStatus
  | jobRelease
  | printerResume
  | printerFlush
  | printerRedirect
  | printerStatus
  | setParam
  | getParam
  | saveSettings
  | setNextNumber
  | setClock
  | restart
  | coldClear
  -- events at the lines and timers
  | portByteReceived (port : Port) (byte : Byte)
  | portGapExpiry (port : Port)
  | responseSent (port : Port)
  | scaleByteReceived (channel : Chan) (byte : Byte)
  | scaleGapExpiry (channel : Chan)
  | freshnessExpiry (channel : Chan)
  | beamLevelChange (bridge : Bridge) (beam : BeamEnd) (level : BeamLevel)
  | debounceExpiry (bridge : Bridge) (beam : BeamEnd)
  | captureWindowExpiry (channel : Chan)
  | holdTimerExpiry (slot : Slot)
  | stallTimerExpiry (job : JobNo)
  | printerFrameEnd (printer : Printer) (answer : Answer)
  | backoffExpiry (printer : Printer)
  /-- `period` is the period, 1..13, that the frame on the link has reached when the printer pulls the clock
  low (R156); it has no meaning when no frame is in progress. -/
  | clockLineLow (printer : Printer) (period : Nat)
  | clockLineRelease (printer : Printer)
  | inhibitTimerExpiry (printer : Printer)
  | drawerPhaseExpiry (printer : Printer)
  /-- `readBack` is what the non-volatile store returns when the written image is read back (R183). -/
  | saveCompletion (readBack : Settings)
  | clockSecond
  | powerOn
  | resetLine
  | restartWarmStart
  | coldClearColdStart
  | resetLineRelease
  /-- `batteryHolds`: the battery keeps retained memory and the clock until power returns (R186). `wordCut`:
  a write of the number word is in flight and is cut off (R184). -/
  | lossOfPower (batteryHolds : Bool) (wordCut : Bool)
deriving DecidableEq, Repr

end Sys2Proof
end

