-- ==== Sys2Proof/Decode.lean ====
section
/-! DEFINITION. Commands and words. The block fetches nothing, and spec/opcode_table.json gives no row any bits, so
no word of the table spells a command. What names a request on the line is the CODE byte of its frame (10.9.2). -/

namespace Sys2Proof

/-- The command a word spells by the table's bits: none, since no row has bits. -/
def decodeTableWord (_nbits _w : Nat) : Option Instr := none

/-- The CODE of the request a command carries out; `none` for an event at the lines or timers (10.9.2). -/
def requestCode : Instr → Option (Byte)
  | .getEvents => some 0x01
  | .ackEvents => some 0x02
  | .setMask => some 0x03
  | .setAlias => some 0x04
  | .openTruck => some 0x10
  | .dump => some 0x11
  | .openWalkin => some 0x12
  | .addBin => some 0x13
  | .closeWeighing => some 0x14
  | .deduct => some 0x15
  | .setSeller => some 0x16
  | .setPlate => some 0x17
  | .void => some 0x18
  | .getTicket => some 0x19
  | .listTickets => some 0x1A
  | .readScale => some 0x20
  | .clearScaleFault => some 0x21
  | .setGrade => some 0x28
  | .switchPrices => some 0x29
  | .getGrade => some 0x2A
  | .setContainer => some 0x2B
  | .reprice => some 0x2C
  | .review => some 0x30
  | .release => some 0x31
  | .pay => some 0x32
  | .drawerKick => some 0x33
  | .getTally => some 0x34
  | .journalPeek => some 0x38
  | .journalPop => some 0x39
  | .getTotals => some 0x3A
  | .dayClose => some 0x3B
  | .reprint => some 0x3C
  | .jobOpen => some 0x40
  | .jobWrite => some 0x41
  | .jobSubmit => some 0x42
  | .jobClose => some 0x43
  | .jobCancel => some 0x44
  | .jobStatus => some 0x45
  | .jobRelease => some 0x46
  | .printerResume => some 0x48
  | .printerFlush => some 0x49
  | .printerRedirect => some 0x4A
  | .printerStatus => some 0x4B
  | .setParam => some 0x50
  | .getParam => some 0x51
  | .saveSettings => some 0x52
  | .setNextNumber => some 0x53
  | .setClock => some 0x54
  | .restart => some 0x55
  | .coldClear => some 0x56
  | .portByteReceived .. => none
  | .portGapExpiry .. => none
  | .responseSent .. => none
  | .scaleByteReceived .. => none
  | .scaleGapExpiry .. => none
  | .freshnessExpiry .. => none
  | .beamLevelChange .. => none
  | .debounceExpiry .. => none
  | .captureWindowExpiry .. => none
  | .holdTimerExpiry .. => none
  | .stallTimerExpiry .. => none
  | .printerFrameEnd .. => none
  | .backoffExpiry .. => none
  | .clockLineLow .. => none
  | .clockLineRelease .. => none
  | .inhibitTimerExpiry .. => none
  | .drawerPhaseExpiry .. => none
  | .saveCompletion .. => none
  | .clockSecond => none
  | .powerOn => none
  | .resetLine => none
  | .restartWarmStart => none
  | .coldClearColdStart => none
  | .resetLineRelease => none
  | .lossOfPower .. => none

/-- The request rows with their CODEs, in the order of the table of 10.9.2. -/
def codeRows : List (Byte × Instr) :=
  [(0x01, .getEvents), (0x02, .ackEvents), (0x03, .setMask), (0x04, .setAlias), (0x10, .openTruck), (0x11, .dump)] ++
  [(0x12, .openWalkin), (0x13, .addBin), (0x14, .closeWeighing), (0x15, .deduct), (0x16, .setSeller), (0x17, .setPlate)] ++
  [(0x18, .void), (0x19, .getTicket), (0x1A, .listTickets), (0x20, .readScale), (0x21, .clearScaleFault), (0x28, .setGrade)] ++
  [(0x29, .switchPrices), (0x2A, .getGrade), (0x2B, .setContainer), (0x2C, .reprice), (0x30, .review), (0x31, .release)] ++
  [(0x32, .pay), (0x33, .drawerKick), (0x34, .getTally), (0x38, .journalPeek), (0x39, .journalPop), (0x3A, .getTotals)] ++
  [(0x3B, .dayClose), (0x3C, .reprint), (0x40, .jobOpen), (0x41, .jobWrite), (0x42, .jobSubmit), (0x43, .jobClose)] ++
  [(0x44, .jobCancel), (0x45, .jobStatus), (0x46, .jobRelease), (0x48, .printerResume), (0x49, .printerFlush), (0x4A, .printerRedirect)] ++
  [(0x4B, .printerStatus), (0x50, .setParam), (0x51, .getParam), (0x52, .saveSettings), (0x53, .setNextNumber), (0x54, .setClock)] ++
  [(0x55, .restart), (0x56, .coldClear)]

/-- The request a CODE names; `none` for a CODE that is not in the table (R169). -/
def requestOfCode (b : Byte) : Option Instr := (codeRows.find? fun x => x.1 == b).map (·.2)

end Sys2Proof
end

