-- ==== Sys2Proof/Machine/Factory.lean ====
section
/-! DEFINITION. The factory defaults of the working settings: the parameter table (11.6), the tariff of R70 and
the aliases of R177. They are loaded at a start whose image check fails (R180). -/

namespace Sys2Proof.Machine

/-- Factory settings of SC0 and SC1 (1.2). -/
def factoryBridge : ChannelSettings :=
  { capacity := 600000, division := 200, motionBand := 1, stableCount := 5, captureWindow := 3,
    minimum := 20, freshness := 500, errorThreshold := 16 }

/-- Factory settings of SC2 (1.2). -/
def factoryPlatform : ChannelSettings := { factoryBridge with capacity := 15000, division := 5 }

/-- Factory entry of every grade (R70): a blank name, no price, no rate, no flag. -/
def factoryGrade : GradeEntry :=
  { name := List.replicate 12 0x20, price := none, rate := 0, restricted := false, disabled := false }

/-- Factory alias table of a port: entry 0 names its receipt printer, the others none (R177). -/
def factoryEntries (p : Printer) : Vector (Option Printer) 4 := #v[some p, none, none, none]

/-- The factory defaults (R70, R177, 11.6). -/
def factorySettings : Settings :=
  { channels := #v[factoryBridge, factoryBridge, factoryPlatform]
    holdTime := 300
    cashStep := 5
    cashLimit := 500000
    anonThreshold := 10000
    receiptCopies := 2
    headers := Vector.replicate 4 none
    footers := Vector.replicate 2 none
    stallTime := 20
    inhibitLimit := 30
    refusalLimit := 8
    drawerOn := 100
    drawerOff := 100
    drawerCount := 2
    enables := Vector.replicate 3 true
    roles := #v[.office, .scale, .scale, .payout]
    printersOf := #v[factoryEntries 2, factoryEntries 0, factoryEntries 0, factoryEntries 1]
    active := Vector.replicate 64 factoryGrade
    epoch := 0
    tares := Vector.replicate 16 0 }

end Sys2Proof.Machine
end

