-- ==== Sys2Proof/Machine/State.lean ====
section
/-! DEFINITION. The state of the WT-448 as plain data, and the state after reset.

A timer is `none` when stopped and `some d` when running, `d` being the length it was given at its start, in
the unit its rule states. Its expiry is a command of the table (assumption 7). -/

namespace Sys2Proof.Machine

/-- A timer: stopped, or running with the length it was started with. -/
abbrev Timer := Option Nat

/-! ### Scale channels (chapter 1) -/

/-- Status letter of a reading message (1.3). -/
inductive Status where
  | stable
  | motion
  | overload
  | underload
  | error
deriving DecidableEq, Repr

inductive ChannelState where
  | noSignal
  | moving
  | stable
  | over
  | fault
deriving DecidableEq, Repr

/-- A good message taken: its status letter and its rounded weight in hg (R6, R7). -/
structure Reading where
  status : Status
  weight : Int
deriving DecidableEq, Repr

inductive CaptureKind where
  | gross
  | dump
  | bin
deriving DecidableEq, Repr

/-- Capture record of a channel (1.1): kind, slot, and the window timer, in s, that runs for as long as the
record exists. -/
structure Capture where
  kind : CaptureKind
  slot : Slot
  window : Nat
deriving DecidableEq, Repr

/-- One beam input: the raw level at the pin, the debounced state, and the debounce timer in ms (R13). -/
structure Beam where
  raw : BeamLevel
  debounced : BeamLevel
  debounce : Timer
deriving DecidableEq, Repr

/-- Message receiver of a channel (R3). The 20 ms gap timer runs exactly in ASSEMBLING; `held` are the bytes
after the start mark. -/
inductive ScaleReceiver where
  | idle
  | assembling (held : List Byte)
deriving DecidableEq, Repr

/-- The channel record of R1. `beams` is ENTRY and EXIT on SC0 and SC1, absent on SC2. The light is a function
of this record (R14; Flags.lean). -/
structure Channel where
  state : ChannelState
  lastReading : Option Reading
  ref : Int
  run : Nat
  errorCount : Nat
  freshness : Timer
  receiver : ScaleReceiver
  capture : Option Capture
  beams : Option (Beam × Beam)
deriving DecidableEq, Repr

/-! ### Tickets (chapter 2) -/

inductive TicketKind where
  | truck
  | walkin
deriving DecidableEq, Repr

inductive TicketState where
  | opening
  | weighing
  | counter
  | weighed
  | atWindow
deriving DecidableEq, Repr

inductive WeighingKind where
  | gross
  | dump
  | tare
  | bin
deriving DecidableEq, Repr

/-- One entry of a ticket's weighings (R24). -/
structure Weighing where
  seq : Nat
  kind : WeighingKind
  channel : Chan
  weight : Nat
  time : Option Nat
  container : Option Container
deriving DecidableEq, Repr

/-- One line of a ticket (R25): N, Da, Dm, W, P, epoch, A and the four flags. -/
structure Line where
  grade : GradeIx
  net : Int
  autoDed : Nat
  manualDed : Nat
  payable : Nat
  price : Option Nat
  epoch : Nat
  amount : Nat
  negative : Bool
  unpriced : Bool
  dedClamped : Bool
  restricted : Bool
deriving DecidableEq, Repr

/-- What the capture of a marker is for: its kind with the pending values of R26. -/
inductive Purpose where
  | gross
  | dump (grade : GradeIx) (final : Bool)
  | bin (grade : GradeIx) (container : Container)
deriving DecidableEq, Repr

/-- Capture marker of a ticket (R26). -/
structure Marker where
  purpose : Purpose
  channel : Chan
  port : Port
  tag : Byte
deriving DecidableEq, Repr

/-- Window part of a ticket (R27): the holder and the running hold timer, in s. -/
structure Window where
  holder : Port
  hold : Nat
deriving DecidableEq, Repr

/-- Ticket record (R23 to R27). -/
structure Ticket where
  number : Option Nat
  kind : TicketKind
  state : TicketState
  openedBy : Port
  openedAt : Option Nat
  seller : Option Text
  plate : Option Text
  weighings : List Weighing
  lines : List Line
  total : Nat
  totalClamped : Bool
  marker : Option Marker
  window : Option Window
deriving DecidableEq, Repr

/-- Ticket number counter (R29). As the number word, `invalid` is a word whose check fails (R184). -/
inductive Counter where
  | valid (next : Nat)
  | invalid
  | exhausted
deriving DecidableEq, Repr

/-! ### Settlement, journal, totals (chapters 5 and 6) -/

inductive Method where
  | cash
  | cheque
  | transfer
deriving DecidableEq, Repr

/-- One entry of the seller tally table (R83). -/
structure TallyEntry where
  seller : Text
  cashToday : Nat
  payouts : Nat
  lastTicket : Nat
deriving DecidableEq, Repr

/-- The yard clock's reading: seconds of day and date text (R185). -/
structure ClockReading where
  seconds : Nat
  date : Text
deriving DecidableEq, Repr

/-- How a ticket was closed (R102): PAID with method, paid amount and R, or VOID with the reason. -/
inductive Closing where
  | paid (method : Method) (amount : Nat) (rounding : Nat)
  | voided (reason : Nat)
deriving DecidableEq, Repr

/-- CLOSE record (R102). -/
structure CloseRecord where
  day : Nat
  number : Nat
  closing : Closing
  closingPort : Port
  closeTime : Option ClockReading
  kind : TicketKind
  openedBy : Port
  openedAt : Option Nat
  seller : Option Text
  plate : Option Text
  weighings : List Weighing
  lines : List Line
  total : Nat
  totalClamped : Bool
deriving DecidableEq, Repr

/-- DAY_END record (R103). -/
structure DayEndRecord where
  day : Nat
  closingPort : Port
  closeTime : Option ClockReading
  paid : Nat
  voided : Nat
  cash : Nat
  nonCash : Nat
  rounding : Nat
  saturated : Bool
deriving DecidableEq, Repr

inductive Record where
  | close (r : CloseRecord)
  | dayEnd (r : DayEndRecord)
deriving DecidableEq, Repr

/-- A total with its saturation mark (R108, R110). -/
structure Total where
  value : Nat
  mark : Bool
deriving DecidableEq, Repr

structure GradeTotals where
  weight : Total
  amount : Total
  count : Total
deriving DecidableEq, Repr

/-- The 197 day totals (R108). -/
structure Totals where
  grades : Vector GradeTotals 64
  paid : Total
  voided : Total
  cash : Total
  nonCash : Total
  rounding : Total
deriving DecidableEq, Repr

/-! ### Spool, printer engines, drawers (chapters 8 and 9) -/

inductive Owner where
  | port (p : Port)
  | composer
deriving DecidableEq, Repr

inductive JobState where
  | writing
  | queued
  | printing
  | stalled
  | halted
  | done
deriving DecidableEq, Repr

/-- An end pending on a job; none pending is the absent option (R134). -/
inductive PendingEnd where
  | cancelled
  | underrun
deriving DecidableEq, Repr

inductive DoneStatus where
  | printed
  | cancelled
  | flushed
  | underrun
deriving DecidableEq, Repr

/-- Job record (R134), with the stall timer, in s, held beside it. -/
structure Job where
  owner : Owner
  printer : Printer
  ticket : Option Nat
  pages : List Page
  written : Nat
  closed : Bool
  copies : Nat
  currentCopy : Nat
  sent : Nat
  threshold : Nat
  state : JobState
  endPending : Option PendingEnd
  doneStatus : Option DoneStatus
  stall : Timer
deriving DecidableEq, Repr

inductive EngineState where
  | idle
  | sending
  | inhibited
  | halted
  | off
deriving DecidableEq, Repr

inductive FaultKind where
  | inhibitTimeout
  | refused
deriving DecidableEq, Repr

/-- What of a copy the engine is sending: the copy marker line, a stored line, or the CUT (R158). -/
inductive CopyPart where
  | copyMarker
  | stored (n : Nat)
  | cut
deriving DecidableEq, Repr

/-- Where the engine stands in the current copy: a part and the number of its next byte (R152). -/
structure Position where
  part : CopyPart
  next : Nat
deriving DecidableEq, Repr

/-- A byte for the link: the kind bit and the data value (R152, R153). -/
structure LinkByte where
  control : Bool
  data : Byte
deriving DecidableEq, Repr

/-- A running drawer train (R163): the on time, off time and count it read, its pulse number, and its phase. -/
structure Train where
  onTime : Nat
  offTime : Nat
  count : Nat
  pulse : Nat
  onPhase : Bool
deriving DecidableEq, Repr

/-- Printer Engine record (R152). `frame` is the last period, 1..13, the frame in progress is known to have
reached. `clockLow` is the clock line pin, held low by the printer. `dropping` is set while a frame in
progress is completed after a flush (R159). `backoff` is in ms, `inhibit` in s. -/
structure Engine where
  state : EngineState
  fault : Option FaultKind
  job : Option JobNo
  position : Option Position
  pendingByte : Option LinkByte
  frame : Option Nat
  refusals : Nat
  backoff : Timer
  inhibit : Timer
  clockLow : Bool
  dropping : Bool
  train : Option Train
deriving DecidableEq, Repr

/-! ### Station ports (chapter 10) -/

/-- The outcomes of requests (10.9.3). -/
inductive OutcomeCode where
  | ok
  | clamped
  | busy
  | roleDenied
  | unknownRequest
  | badParam
  | noTicket
  | wrongState
  | ticketBusy
  | tableFull
  | noNumber
  | channelBusy
  | scaleFault
  | notStable
  | overload
  | beamBroken
  | belowMinimum
  | noLines
  | gradeDisabled
  | priceMissing
  | sellerRequired
  | restricted
  | limit
  | tallyFull
  | amountRange
  | journalFull
  | journalEmpty
  | noPrinter
  | spoolFull
  | noJob
  | jobFull
  | jobState
  | settingsBusy
  | storeFault
deriving DecidableEq, Repr

/-- A response frame of an output queue: what its body carries (R171). Its bytes are Operands.lean's
`Response.bytes`. -/
structure Response where
  tag : Byte
  code : Byte
  outcome : OutcomeCode
  data : List Byte
deriving DecidableEq, Repr

inductive Phase where
  | waiting
  | deferred
deriving DecidableEq, Repr

/-- A pending request (R166): TAG, CODE, data, and phase. -/
structure Request where
  tag : Byte
  code : Byte
  data : List Byte
  phase : Phase
deriving DecidableEq, Repr

/-- Frame receiver of a port (R167). The 100 ms gap timer runs exactly in LENGTH and BODY. `held` are the
bytes after LEN, `expected` the count still expected. -/
inductive PortReceiver where
  | hunt
  | length
  | body (len : Byte) (held : List Byte) (expected : Nat)
deriving DecidableEq, Repr

inductive StartKind where
  | warm
  | cold
deriving DecidableEq, Repr

/-- START data (R166): the start kind and whether the settings were defaulted. -/
structure StartData where
  kind : StartKind
  defaulted : Bool
deriving DecidableEq, Repr

/-- A set of events, one bit for each event (10.9.4). -/
abbrev EventSet := BitVec 16

/-- Station port record (R166). -/
structure StationPort where
  role : Role
  receiver : PortReceiver
  request : Option Request
  output : List Response
  latched : EventSet
  startData : Option StartData
  mask : EventSet
  badFrames : Nat
deriving DecidableEq, Repr

/-! ### Stores and starts (chapter 11) -/

/-- The settings image: its content, and whether its check is good (R180). -/
structure SettingsImage where
  content : Settings
  checkGood : Bool
deriving DecidableEq, Repr

/-- A settings save in flight: the content being written and the port whose request waits for it (R183). -/
structure Save where
  content : Settings
  port : Port
deriving DecidableEq, Repr

/-- A start called for by RESTART or COLD_CLEAR: its kind, and whether the OK has been sent in full (R187). -/
structure PendingStart where
  kind : StartKind
  sent : Bool
deriving DecidableEq, Repr

/-- Memory by the byte: address and value, addresses strictly rising, no entry that holds what an unlisted
address reads as (Memory.lean). -/
abbrev Memory := List Host.Cell

/-- The whole part. `pending` is the queue of commands that wait, first in first out. -/
structure State where
  pending : List Instr
  -- supply, RESET input, retained marker
  powered : Bool
  resetDriven : Bool
  markerValid : Bool
  -- non-volatile store
  image : SettingsImage
  numberWord : Counter
  -- working settings, save, clock, starts
  settings : Settings
  save : Option Save
  clock : Option ClockReading
  pendingStart : Option PendingStart
  -- ports and arbiter
  ports : Vector StationPort 4
  requestEngine : Option Port
  pointer : Port
  -- scale channels
  channels : Vector Channel 3
  -- ticket table and tariff
  slots : Vector (Option Ticket) 48
  counter : Counter
  staged : Vector GradeEntry 64
  -- settlement, journal, totals
  tally : Vector (Vector (Option TallyEntry) 4) 64
  journal : List Record
  totals : Totals
  day : Nat
  -- spool
  pageMem : Memory
  boldMarks : Memory
  freePages : List Page
  jobs : Vector (Option Job) 32
  queues : Vector (List JobNo) 3
  -- printer engines
  printers : Vector Engine 3
  -- the model's own: how many free values have been read (assumption 1)
  freeReads : Nat
deriving DecidableEq, Repr

/-- Why the block stops with a fault. No fault is raised: the spec calls no behaviour of the part undefined
and lets no command stop it, so the type has no constructor. -/
inductive Fault where
deriving DecidableEq, Repr

/-- Why a command is refused. -/
inductive Refusal where
  /-- An arm of `exec` with no meaning yet raises this, with the mnemonic of its row. Safe: nothing is claimed
  of such a command. No arm raises it now. -/
  | notModelled (mnemonic : String)
deriving DecidableEq, Repr

/-! ### Values after a start -/

/-- A beam whose input stands at `l` at the start: debounced at once, timer stopped (R20). -/
def Beam.start (l : BeamLevel) : Beam := { raw := l, debounced := l, debounce := none }

/-- The channel record after either start, with the beams given (R1, R20). -/
def Channel.start (b : Option (Beam × Beam)) : Channel :=
  { state := .noSignal, lastReading := none, ref := 0, run := 0, errorCount := 0, freshness := none,
    receiver := .idle, capture := none, beams := b }

/-- The engine record after either start (R152); the clock line pin stands as the printer drives it. -/
def Engine.start (enabled clockLow : Bool) : Engine :=
  { state := if enabled then .idle else .off, fault := none, job := none, position := none,
    pendingByte := none, frame := none, refusals := 0, backoff := none, inhibit := none,
    clockLow := clockLow, dropping := false, train := none }

/-- The port record after either start (R166): START latched alone, every one of the eleven events admitted. -/
def StationPort.start (r : Role) (d : StartData) : StationPort :=
  { role := r, receiver := .hunt, request := none, output := [], latched := 0x0001, startData := some d,
    mask := 0x07FF, badFrames := 0 }

/-- A total at 0 with its mark clear (R108). -/
def Total.zero : Total := { value := 0, mark := false }

/-- Every total at 0 with every mark clear (R108). -/
def Totals.zero : Totals :=
  { grades := Vector.replicate 64 { weight := .zero, amount := .zero, count := .zero }
    paid := .zero, voided := .zero, cash := .zero, nonCash := .zero, rounding := .zero }

/-- The part right after reset: the cold start of a part powered for the first time, whose settings image and
number word were never written, with both decks clear and no printer holding its clock (assumption 2). -/
def State.reset : State :=
  { pending := []
    powered := true
    resetDriven := false
    markerValid := true
    image := { content := factorySettings, checkGood := false }
    numberWord := .invalid
    settings := factorySettings
    save := none
    clock := none
    pendingStart := none
    ports := Vector.ofFn fun p => .start factorySettings.roles[p] { kind := .cold, defaulted := true }
    requestEngine := none
    pointer := 3
    channels := #v[.start (some (.start .clear, .start .clear)), .start (some (.start .clear, .start .clear)),
      .start none]
    slots := Vector.replicate 48 none
    counter := .invalid
    staged := factorySettings.active
    tally := Vector.replicate 64 (Vector.replicate 4 none)
    journal := []
    totals := .zero
    day := 1
    pageMem := []
    boldMarks := []
    freePages := List.finRange 96
    jobs := Vector.replicate 32 none
    queues := Vector.replicate 3 []
    printers := Vector.replicate 3 (.start true false)
    freeReads := 0 }

end Sys2Proof.Machine
end

