-- ==== Sys2Proof/Machine/Flags.lean ====
section
/-! DEFINITION. Flags: the event bits of a port (10.9.4), the outputs that follow the state (ATTN, traffic
lights, DRAWER, link data line), and the saturation marks of the totals. -/

namespace Sys2Proof.Machine

/-- The eleven events (R174). -/
inductive Event where
  | start
  | linkError
  | windowExpired
  | ticketReady
  | jobDone
  | printerHalted
  | scaleFault
  | pricesSwitched
  | totalSaturated
  | journalWaiting
  | journalHigh
deriving DecidableEq, Repr

/-- Bit number of an event (10.9.4). -/
def Event.bit : Event → Nat
  | .start => 0
  | .linkError => 1
  | .windowExpired => 2
  | .ticketReady => 3
  | .jobDone => 4
  | .printerHalted => 5
  | .scaleFault => 6
  | .pricesSwitched => 7
  | .totalSaturated => 8
  | .journalWaiting => 9
  | .journalHigh => 10

/-- The set that holds one event alone. -/
def Event.set (e : Event) : EventSet := BitVec.twoPow 16 e.bit

/-- All eleven events (R166). -/
def allEvents : EventSet := 0x07FF

/-- The nine latched events (R174). -/
def latchedEvents : EventSet := 0x01FF

/-- A set given to SET_MASK or ACK_EVENTS may name the eleven events alone (R175, R176). -/
def namesEventsOnly (e : EventSet) : Bool := e &&& ~~~allEvents == 0

/-- The level events present at a port of a role, from the journal's record count (R107). -/
def levelEvents (r : Role) (records : Nat) : EventSet :=
  if r = .office then
    (if 1 ≤ records then Event.journalWaiting.set else 0) |||
      (if Config.journalHigh ≤ records then Event.journalHigh.set else 0)
  else 0

/-- The events present in a port's set, latched or level (R174). -/
def presentEvents (s : State) (p : Port) : EventSet :=
  s.ports[p].latched ||| levelEvents s.ports[p].role s.journal.length

/-- ATTN is driven exactly while a present event is admitted by the mask (R175). -/
def attnDriven (s : State) (p : Port) : Bool :=
  s.powered && presentEvents s p &&& s.ports[p].mask != 0

/-- Both debounced beams are CLEAR; on SC2 the condition holds of itself (R16). -/
def Channel.beamsClear (c : Channel) : Bool :=
  match c.beams with
  | some (a, b) => a.debounced = .clear && b.debounced = .clear
  | none => true

/-- RED is driven while a capture is in flight, a debounced beam is BROKEN, or the state is FAULT or NO_SIGNAL;
GREEN otherwise (R14). -/
def Channel.lightRed (c : Channel) : Bool :=
  c.capture.isSome || !c.beamsClear || c.state = .fault || c.state = .noSignal

/-- The traffic light outputs of a bridge, RED and GREEN (R14); neither is driven without power. -/
def lights (s : State) (b : Bridge) : Bool × Bool :=
  (s.powered && s.channels[b.chan].lightRed, s.powered && !s.channels[b.chan].lightRed)

/-- The DRAWER output is driven through the on phases of a train (R163). -/
def drawerDriven (s : State) (p : Printer) : Bool :=
  match s.printers[p].train with
  | some t => s.powered && t.onPhase
  | none => false

/-- The parity bit of a frame: the ones among data bits, kind bit and parity bit are odd in number (R153). -/
def parityBit (b : LinkByte) : Bool :=
  ((List.range 8).map fun i => b.data.getLsbD i).foldl (fun p x => p ^^ x) (!b.control)

/-- The twelve periods of a frame that the part drives: start, data bits, kind, parity, stop (R153). -/
def frameBits (b : LinkByte) : List Bool :=
  [false] ++ ((List.range 8).map fun i => b.data.getLsbD i) ++ [b.control, parityBit b, true]

/-- The totals of one grade, in the order of R108. -/
def GradeTotals.all (g : GradeTotals) : List Total := [g.weight, g.amount, g.count]

/-- The 197 totals (R108). -/
def Totals.all (t : Totals) : List Total :=
  t.grades.toList.flatMap GradeTotals.all ++ [t.paid, t.voided, t.cash, t.nonCash, t.rounding]

/-- Some mark of some grade is set (R111). -/
def Totals.gradeSaturated (t : Totals) : Bool := (t.grades.toList.flatMap GradeTotals.all).any (·.mark)

/-- Some mark, overall or of a grade, is set (R103). -/
def Totals.saturated (t : Totals) : Bool := t.all.any (·.mark)

/-- A mark clear in `old` is set in `new` (R110). -/
def newlyMarked (old new : Totals) : Bool := (old.all.zip new.all).any fun x => !x.1.mark && x.2.mark

/-- An addition with saturation (R110). -/
def Total.add (max n : Nat) (t : Total) : Total :=
  if t.mark then t else if t.value + n ≤ max then { t with value := t.value + n } else { value := max, mark := true }

end Sys2Proof.Machine
end

