-- ==== Sys2Proof/Machine/Memory.lean ====
section
/-! DEFINITION. The spool's page memory (R132): bytes by address, kept in one canonical form. The address of a
byte is page × 256 + slot × 32 + column; the bold mark of a slot is the byte at page × 8 + slot of a memory of
its own, 1 for set. -/

namespace Sys2Proof.Machine

/-- The byte at an address; an unlisted address reads as unwritten (assumption 6). -/
def memRead : Memory → Nat → Byte
  | [], _ => Config.unwrittenByte
  | (x, v) :: m, a => if a = x then v else memRead m a

/-- Write one byte, keeping the canonical form: writing the unwritten value removes the entry. -/
def memWrite : Memory → Nat → Byte → Memory
  | [], a, b => if b = Config.unwrittenByte then [] else [(a, b)]
  | (x, v) :: m, a, b =>
    if a < x then if b = Config.unwrittenByte then (x, v) :: m else (a, b) :: (x, v) :: m
    else if a = x then if b = Config.unwrittenByte then m else (a, b) :: m
    else (x, v) :: memWrite m a b

/-- Write consecutive bytes from an address up. -/
def memWriteAll (m : Memory) (a : Nat) : List Byte → Memory
  | [] => m
  | b :: bs => memWriteAll (memWrite m a b) (a + 1) bs

/-- Read `n` consecutive bytes from an address up. -/
def memReadAll (m : Memory) (a n : Nat) : List Byte := (List.range n).map fun k => memRead m (a + k)

/-- Every listed address is at or above `lo`, addresses rise strictly, and no entry holds the unwritten value. -/
def memSortedFrom : Nat → Memory → Bool
  | _, [] => true
  | lo, (x, v) :: m => decide (lo ≤ x) && decide (v ≠ Config.unwrittenByte) && memSortedFrom (x + 1) m

/-- The canonical form of a memory. -/
def Memory.wf (m : Memory) : Bool := memSortedFrom 0 m

/-- Address of the first byte of a line slot (R132). -/
def slotAddress (page : Page) (slot : Nat) : Nat :=
  page.val * Config.pageBytes + slot * Config.slotBytes

/-- Address of a line slot's bold mark in the memory of marks. -/
def markAddress (page : Page) (slot : Nat) : Nat := page.val * Config.slotsPerPage + slot

end Sys2Proof.Machine
end

