-- ==== Sys2Proof/Machine/Ops.lean ====
section
/-! DEFINITION. The named operations over the state's tables, the latching of events, responses, and the
Request Arbiter. -/

namespace Sys2Proof.Machine

/-! ### One entry of a table -/

def State.setPort (s : State) (p : Port) (x : StationPort) : State := { s with ports := s.ports.set p x }

def State.setChannel (s : State) (c : Chan) (x : Channel) : State :=
  { s with channels := s.channels.set c x }

def State.setSlot (s : State) (i : Slot) (x : Option Ticket) : State := { s with slots := s.slots.set i x }

def State.setJob (s : State) (j : JobNo) (x : Option Job) : State := { s with jobs := s.jobs.set j x }

def State.setQueue (s : State) (p : Printer) (q : List JobNo) : State :=
  { s with queues := s.queues.set p q }

def State.setEngine (s : State) (p : Printer) (x : Engine) : State :=
  { s with printers := s.printers.set p x }

/-- Write the counter and the number word with it, in one event (R30, R184). -/
def State.writeCounter (s : State) (c : Counter) : State := { s with counter := c, numberWord := c }

/-- The part takes lines, requests and timers: it has power and RESET is not driven (R186). -/
def State.taking (s : State) : Bool := s.powered && !s.resetDriven

/-- The seconds of day, absent while the clock is UNSET (R185). -/
def State.seconds (s : State) : Option Nat := s.clock.map (·.seconds)

/-- The printer an alias entry names, if any (R177). -/
def State.printerOf (s : State) (p : Port) (entry : Fin 4) : Option Printer := s.settings.printersOf[p][entry]

/-- The tare of a container; container 0 is 0 at all times (R64). -/
def tareOf (st : Settings) (c : Container) : Nat := if c = 0 then 0 else st.tares[c]

/-! ### Events (R174) -/

/-- Latch an event in one port's set; a set event stays set, once (R174). -/
def StationPort.latch (e : Event) (x : StationPort) : StationPort := { x with latched := x.latched ||| e.set }

/-- Latch an event at every port that `f` picks. -/
def State.latchWhere (s : State) (e : Event) (f : Port → StationPort → Bool) : State :=
  { s with ports := mapEntries (fun p x => if f p x then x.latch e else x) s.ports }

/-- Latch an event at one port. -/
def State.latchAt (s : State) (e : Event) (p : Port) : State := s.latchWhere e fun q _ => q == p

/-- Latch an event at every port whose role is among those given. -/
def State.latchRoles (s : State) (e : Event) (rs : List Role) : State :=
  s.latchWhere e fun _ x => rs.contains x.role

/-! ### Requests and responses (R169 to R173) -/

/-- A granted request: the port it came from, its TAG, CODE and data. -/
structure Req where
  port : Port
  tag : Byte
  code : Byte
  data : List Byte
deriving DecidableEq, Repr

/-- End a port's pending request with a response at the tail of its output queue (R171). -/
def StationPort.respond (x : StationPort) (r : Response) : StationPort :=
  { x with request := none, output := x.output ++ [r] }

/-- A port-level answer, discarded when three frames already stand in the queue (R169, R171). -/
def StationPort.answerAtPort (x : StationPort) (r : Response) : StationPort :=
  if 3 ≤ x.output.length then x else { x with output := x.output ++ [r] }

/-- Respond to a port's pending request. -/
def State.respond (s : State) (p : Port) (r : Response) : State := s.setPort p (s.ports[p].respond r)

/-- Answer a granted request at once. -/
def answer (r : Req) (o : OutcomeCode) (data : List Byte) (s : State) : State :=
  s.respond r.port { tag := r.tag, code := r.code, outcome := o, data := data }

/-- Set the pending request of a port in phase DEFERRED (R173). -/
def State.deferRequest (s : State) (p : Port) : State :=
  s.setPort p { s.ports[p] with request := s.ports[p].request.map fun q => { q with phase := .deferred } }

/-! ### The arbiter (R172) -/

/-- A port that may be granted: a request in phase WAITING and fewer than four frames in its queue (R171). -/
def StationPort.grantable (x : StationPort) : Bool :=
  match x.request with
  | some q => q.phase = .waiting && x.output.length < 4
  | none => false

/-- The ports in the order of a round that follows the pointer, the pointer's own port last. -/
def grantOrder (ptr : Port) : List Port := [ptr + 1, ptr + 2, ptr + 3, ptr]

/-- Grant the free engine to the first grantable port after the pointer; from the acceptance of RESTART or
COLD_CLEAR nothing is granted (R172, R187). -/
def State.arbitrate (s : State) : State :=
  if s.requestEngine.isSome || s.pendingStart.isSome then s
  else
    match (grantOrder s.pointer).find? fun p => s.ports[p].grantable with
    | some p => { s with requestEngine := some p, pointer := p }
    | none => s

/-- The request the engine has been granted, if it carries the given CODE. -/
def State.granted (s : State) (code : Byte) : Option Req :=
  match s.requestEngine with
  | none => none
  | some p =>
    match s.ports[p].request with
    | some q =>
      if q.phase = .waiting ∧ q.code = code then some { port := p, tag := q.tag, code := q.code, data := q.data }
      else none
    | none => none

/-- Free the engine at the end of a granted request's event; the next grant follows (R172). -/
def State.releaseEngine (s : State) : State := ({ s with requestEngine := none } : State).arbitrate

/-- Carry out the granted request of a CODE by its block's rule `h`, in one event (R172). Where no such request
is granted, or the part takes nothing, the event does not arise (assumptions 4, 10). -/
def serve (code : Byte) (h : Req → State → State) (s : State) : State :=
  if s.taking then
    match s.granted code with
    | some r => (h r s).releaseEngine
    | none => s
  else s

/-- Carry out an event at the part's lines or timers, which reaches the part only while it takes them (R186). -/
def whileTaking (f : State → State) (s : State) : State := if s.taking then f s else s

end Sys2Proof.Machine
end

