-- ==== Sys2Proof/Machine/Arithmetic.lean ====
section
/-! DEFINITION. Line arithmetic (chapter 4, 4.3 and 4.4), the cash figure (R82), the rounding of readings (R6)
and the tally hash (R84). All arithmetic is exact. -/

namespace Sys2Proof.Machine

/-- A weight rounded to the nearest multiple of the division, a tie going away from zero (R6). -/
def roundWeight (division : Nat) (w : Int) : Int :=
  let steps := (2 * w.natAbs + division) / (2 * division)
  if w < 0 then -((steps * division : Nat) : Int) else ((steps * division : Nat) : Int)

/-! ### The stages of a line (R73 to R77) -/

/-- A grade's price when the grade is enabled and priced (R71). -/
def payingPrice (e : GradeEntry) : Option Nat := if e.disabled then none else e.price

/-- Stage 2: the auto deduction Da, rounded up; 0 for a net of 0 or below (R74). -/
def autoDeduction (net : Int) (rate : Nat) : Nat := if 0 < net then (net.toNat * rate + 999) / 1000 else 0

/-- Stage 3: the payable weight W (R75). -/
def payableWeight (negative : Bool) (net : Int) (da dm : Nat) : Nat :=
  if negative then 0 else (net - da - dm).toNat

/-- Stage 3: DEDUCT_CLAMPED, set where the deductions ask for more than there is (R75). -/
def deductClamped (negative : Bool) (net : Int) (da dm : Nat) : Bool :=
  !negative && decide (net - da - dm < 0)

/-- Stage 4: the amount A; 0 on an UNPRICED line (R76). -/
def lineAmount (w : Nat) (price : Option Nat) : Nat :=
  match price with
  | some p => w * p / 100
  | none => 0

/-- Form W, DEDUCT_CLAMPED and A from the line's N, Da, Dm and price (R78). -/
def Line.reform (l : Line) : Line :=
  let w := payableWeight l.negative l.net l.autoDed l.manualDed
  { l with
    payable := w
    dedClamped := deductClamped l.negative l.net l.autoDed l.manualDed
    amount := lineAmount w l.price }

/-- Price a line from the ACTIVE bank and form what follows from it; N, NEGATIVE and Dm are kept (R71, R80). -/
def Line.priceAnew (st : Settings) (l : Line) : Line :=
  let e := st.active[l.grade]
  Line.reform
    { l with
      price := payingPrice e
      unpriced := (payingPrice e).isNone
      epoch := st.epoch
      restricted := e.restricted
      autoDed := autoDeduction l.net e.rate }

/-- A line at its creation: N and NEGATIVE formed, Dm 0, priced from ACTIVE (R52, R73, R78). -/
def newLine (st : Settings) (grade : GradeIx) (net : Int) : Line :=
  Line.priceAnew st
    { grade := grade, net := net, autoDed := 0, manualDed := 0, payable := 0, price := none, epoch := 0,
      amount := 0, negative := decide (net ≤ 0), unpriced := false, dedClamped := false, restricted := false }

/-- A line with a manual deduction set (R60). -/
def Line.deduct (dm : Nat) (l : Line) : Line := Line.reform { l with manualDed := dm }

/-- The exact sum of the amounts of lines. -/
def amountSum (ls : List Line) : Nat := (ls.map (·.amount)).sum

/-- Stage 5: T and TOTAL_CLAMPED formed anew from all lines (R77). -/
def Ticket.retotal (t : Ticket) : Ticket :=
  { t with
    total := min (amountSum t.lines) Config.maxAmount
    totalClamped := decide (Config.maxAmount < amountSum t.lines) }

/-! ### The cash figure (R82) -/

/-- The cash rounding R. -/
def cashRounding (total step : Nat) : Nat := total % step

/-- The cash amount C. -/
def cashAmount (total step : Nat) : Nat := total - cashRounding total step

/-- What a method pays, and its rounding: C and R for CASH, T and 0 for CHEQUE and TRANSFER. -/
def paidFigures (m : Method) (total step : Nat) : Nat × Nat :=
  match m with
  | .cash => (cashAmount total step, cashRounding total step)
  | .cheque | .transfer => (total, 0)

/-! ### The tally hash (R84) -/

/-- One data bit: double within 16 bits; where the bit that left differs from the data bit, combine 0x1021. -/
def hashBit (v : BitVec 16) (b : Bool) : BitVec 16 :=
  let doubled := v <<< 1
  if v.msb != b then doubled ^^^ 0x1021 else doubled

/-- One character, its bits from the most significant down. -/
def hashByte (v : BitVec 16) (c : Byte) : BitVec 16 :=
  [7, 6, 5, 4, 3, 2, 1, 0].foldl (fun v i => hashBit v (c.getLsbD i)) v

/-- The 16-bit check value of an ID as stored. -/
def tallyHash (id : Text) : BitVec 16 := id.foldl hashByte 0xFFFF

/-- The bucket of an ID: the check value divided by 1024. -/
def tallyBucket (id : Text) : Fin 64 := ⟨(tallyHash id).toNat / 1024, by have := (tallyHash id).isLt; omega⟩

end Sys2Proof.Machine
end

