-- ==== Sys2Proof/Machine/Operands.lean ====
section
/-! DEFINITION. The line formats: the encoding of request and response data item by item (R179), the codes of
outcomes (10.9.3), and the bytes of a response frame (R171, 10.9.1). -/

namespace Sys2Proof.Machine

/-! ### Numbers, flags, texts, optional items, lists (R179) -/

/-- A number in `w` bytes, most significant first. -/
def beBytes : Nat → Nat → List Byte
  | 0, _ => []
  | w + 1, n => BitVec.ofNat 8 (n / 256 ^ w) :: beBytes w n

/-- The number that bytes spell, most significant first. -/
def fromBytes (bs : List Byte) : Nat := bs.foldl (fun a b => a * 256 + b.toNat) 0

/-- Numbers of one, two and four bytes, and the five bytes of amounts and day totals (assumption 13). -/
def enc1 (n : Nat) : List Byte := beBytes 1 n

def enc2 (n : Nat) : List Byte := beBytes 2 n

def enc4 (n : Nat) : List Byte := beBytes 4 n

def enc5 (n : Nat) : List Byte := beBytes 5 n

/-- A signed weight in 4-byte two's complement. -/
def encSigned (z : Int) : List Byte := beBytes 4 (BitVec.ofInt 32 z).toNat

/-- A flag is 0 for clear and 1 for set. -/
def encFlag (b : Bool) : List Byte := [if b then 1 else 0]

/-- A text is a length byte and its characters. -/
def encText (t : Text) : List Byte := enc1 t.length ++ t

/-- An optional item is a presence byte and the item when present. -/
def encOpt {α : Type} (f : α → List Byte) : Option α → List Byte
  | none => [0]
  | some a => 1 :: f a

/-- A list is a count byte and its entries. -/
def encList {α : Type} (f : α → List Byte) (l : List α) : List Byte := enc1 l.length ++ l.flatMap f

/-- An event set is a two-byte word. -/
def encEvents (e : EventSet) : List Byte := enc2 e.toNat

/-! ### Enumerations, in the order in which the manual lists their values (R179) -/

def Status.enc : Status → List Byte
  | .stable => [0]
  | .motion => [1]
  | .overload => [2]
  | .underload => [3]
  | .error => [4]

def ChannelState.enc : ChannelState → List Byte
  | .noSignal => [0]
  | .moving => [1]
  | .stable => [2]
  | .over => [3]
  | .fault => [4]

def encBeam : BeamLevel → List Byte
  | .clear => [0]
  | .broken => [1]

def CaptureKind.enc : CaptureKind → List Byte
  | .gross => [0]
  | .dump => [1]
  | .bin => [2]

def TicketKind.enc : TicketKind → List Byte
  | .truck => [0]
  | .walkin => [1]

def TicketState.enc : TicketState → List Byte
  | .opening => [0]
  | .weighing => [1]
  | .counter => [2]
  | .weighed => [3]
  | .atWindow => [4]

def WeighingKind.enc : WeighingKind → List Byte
  | .gross => [0]
  | .dump => [1]
  | .tare => [2]
  | .bin => [3]

def Method.enc : Method → List Byte
  | .cash => [0]
  | .cheque => [1]
  | .transfer => [2]

def StartKind.enc : StartKind → List Byte
  | .warm => [0]
  | .cold => [1]

def JobState.enc : JobState → List Byte
  | .writing => [0]
  | .queued => [1]
  | .printing => [2]
  | .stalled => [3]
  | .halted => [4]
  | .done => [5]

/-- End pending counts none as its first value (R134, assumption 14). -/
def encPendingEnd : Option PendingEnd → List Byte
  | none => [0]
  | some .cancelled => [1]
  | some .underrun => [2]

def DoneStatus.enc : DoneStatus → List Byte
  | .printed => [0]
  | .cancelled => [1]
  | .flushed => [2]
  | .underrun => [3]

def EngineState.enc : EngineState → List Byte
  | .idle => [0]
  | .sending => [1]
  | .inhibited => [2]
  | .halted => [3]
  | .off => [4]

def FaultKind.enc : FaultKind → List Byte
  | .inhibitTimeout => [0]
  | .refused => [1]

def encRole : Role → List Byte
  | .scale => [0]
  | .payout => [1]
  | .office => [2]
  | .off => [3]

/-- A job owner is 0..3 for a port and 4 for COMPOSER. -/
def Owner.enc : Owner → List Byte
  | .port p => enc1 p.val
  | .composer => [4]

/-- The enumeration byte of an enable, enabled 0 and disabled 1 (assumption 14). -/
def encEnable (b : Bool) : List Byte := [if b then 0 else 1]

/-- The outcome codes (10.9.3). -/
def OutcomeCode.toByte : OutcomeCode → Byte
  | .ok => 0x00
  | .clamped => 0x01
  | .busy => 0x02
  | .roleDenied => 0x03
  | .unknownRequest => 0x04
  | .badParam => 0x05
  | .noTicket => 0x06
  | .wrongState => 0x07
  | .ticketBusy => 0x08
  | .tableFull => 0x09
  | .noNumber => 0x0A
  | .channelBusy => 0x0B
  | .scaleFault => 0x0C
  | .notStable => 0x0D
  | .overload => 0x0E
  | .beamBroken => 0x0F
  | .belowMinimum => 0x10
  | .noLines => 0x11
  | .gradeDisabled => 0x12
  | .priceMissing => 0x13
  | .sellerRequired => 0x14
  | .restricted => 0x15
  | .limit => 0x16
  | .tallyFull => 0x17
  | .amountRange => 0x18
  | .journalFull => 0x19
  | .journalEmpty => 0x1A
  | .noPrinter => 0x1B
  | .spoolFull => 0x1C
  | .noJob => 0x1D
  | .jobFull => 0x1E
  | .jobState => 0x1F
  | .settingsBusy => 0x20
  | .storeFault => 0x21

/-! ### Response frames (R171, 10.9.1) -/

/-- The mod-256 sum of bytes. -/
def byteSum (bs : List Byte) : Byte := bs.foldl (· + ·) 0

/-- TAG, CODE, OUTCOME and data. -/
def Response.body (r : Response) : List Byte := [r.tag, r.code, r.outcome.toByte] ++ r.data

/-- The whole frame: SYNC, LEN, body, and the CHECK that brings the sum of LEN through CHECK to 0. -/
def Response.bytes (r : Response) : List Byte :=
  let rest := BitVec.ofNat 8 r.body.length :: r.body
  Config.sync :: rest ++ [0 - byteSum rest]

/-! ### Items of several parts -/

/-- A weighing entry with all its fields (R24); the container is an optional item (assumption 15). -/
def Weighing.enc (w : Weighing) : List Byte :=
  enc1 w.seq ++ w.kind.enc ++ enc1 w.channel.val ++ enc4 w.weight ++ encOpt enc4 w.time ++
    encOpt (fun c => enc1 c.val) w.container

/-- The four flags of a line, in the order of R25. -/
def Line.encFlags (l : Line) : List Byte :=
  encFlag l.negative ++ encFlag l.unpriced ++ encFlag l.dedClamped ++ encFlag l.restricted

/-- A line with all its fields (R25); its index is its position and no field (assumption 16). -/
def Line.enc (l : Line) : List Byte :=
  enc1 l.grade.number ++ encSigned l.net ++ enc4 l.autoDed ++ enc4 l.manualDed ++ enc4 l.payable ++
    encOpt enc4 l.price ++ enc2 l.epoch ++ enc5 l.amount ++ l.encFlags

/-- Lines 1..4 and lines 5..8 of a list, each with all its fields (R41, R105). -/
def encLowerLines (ls : List Line) : List Byte := encList Line.enc (ls.take 4)

def encUpperLines (ls : List Line) : List Byte := encList Line.enc (ls.drop 4)

/-- A reading of the yard clock: seconds and date text, one item where it is optional (assumption 15). -/
def ClockReading.enc (c : ClockReading) : List Byte := enc4 c.seconds ++ encText c.date

/-- A total with its saturation mark (R111). -/
def Total.enc (t : Total) : List Byte := enc5 t.value ++ encFlag t.mark

/-- The kind and key of a record; the key takes 4 bytes (R104, R179). -/
def Record.encKey : Record → List Byte
  | .close r => [0] ++ enc4 r.number
  | .dayEnd r => [1] ++ enc4 r.day

/-- The outcome of a close record, PAID or VOID (R102). -/
def Closing.enc : Closing → List Byte
  | .paid .. => [0]
  | .voided _ => [1]

/-- Method, paid amount and R, present for PAID; and the reason, present for VOID (R102). Each of the four has a row of
its own in R102 and so a presence byte of its own (DEDUCED, unsafe, assumption 15). -/
def Closing.encItems : Closing → List Byte
  | .paid m a q => encOpt Method.enc (some m) ++ encOpt enc5 (some a) ++ encOpt enc5 (some q) ++ [0]
  | .voided k => [0, 0, 0] ++ encOpt enc1 (some k)

/-- Part 0 of a close record: every field of R102 but the lists, then their counts (R105). -/
def CloseRecord.encSummary (r : CloseRecord) : List Byte :=
  [0] ++ enc2 r.day ++ enc4 r.number ++ r.closing.enc ++ enc1 r.closingPort.val ++
    encOpt ClockReading.enc r.closeTime ++ r.kind.enc ++ enc1 r.openedBy.val ++ encOpt enc4 r.openedAt ++
    encOpt encText r.seller ++ encOpt encText r.plate ++ enc5 r.total ++ encFlag r.totalClamped ++
    r.closing.encItems ++ enc1 r.weighings.length ++ enc1 r.lines.length

/-- Part 0 of a day-end record: every field of R103. -/
def DayEndRecord.encSummary (r : DayEndRecord) : List Byte :=
  [1] ++ enc2 r.day ++ enc1 r.closingPort.val ++ encOpt ClockReading.enc r.closeTime ++ enc5 r.paid ++
    enc5 r.voided ++ enc5 r.cash ++ enc5 r.nonCash ++ enc5 r.rounding ++ encFlag r.saturated

/-- The named part of a journal record (R105). Parts 1 to 3 of a day-end record are "none" in R105: they are sent as
empty lists, one count byte 0 after the record count, as those parts are lists for a close record. DESIGN CHOICE, unsafe
(assumption 25). -/
def Record.encPart (r : Record) (part : Nat) : List Byte :=
  match r, part with
  | .close r, 0 => r.encSummary
  | .close r, 1 => encList Weighing.enc r.weighings
  | .close r, 2 => encLowerLines r.lines
  | .close r, _ => encUpperLines r.lines
  | .dayEnd r, 0 => r.encSummary
  | .dayEnd _, _ => encList Line.enc []

/-- A port's four alias entries, each a printer or none (R177). They are sent as four items with no count byte, because
a port always has four of them; R177 does not say whether they are a list of R179. DESIGN CHOICE, unsafe (assumption
23). -/
def encEntries (v : Vector (Option Printer) 4) : List Byte :=
  v.toList.flatMap (encOpt fun p => enc1 p.val)

/-! ### The data of requests, read by form (R170, R179)

Each decoder answers `none` for data that is shorter or longer than its request takes, for an enumeration or
presence byte outside its values, and for a text length outside the request's bound. -/

/-- A flag byte. -/
def decFlag (b : Byte) : Option Bool := if b = 0 then some false else if b = 1 then some true else none

/-- A text of at most `max` characters, and what follows it. -/
def takeText (max : Nat) : List Byte → Option (Text × List Byte)
  | [] => none
  | n :: rest =>
    if n.toNat ≤ max ∧ n.toNat ≤ rest.length then some (rest.take n.toNat, rest.drop n.toNat) else none

/-- An optional number of four bytes, and what follows it. -/
def takeOpt4 : List Byte → Option (Option Nat × List Byte)
  | 0 :: rest => some (none, rest)
  | 1 :: a :: b :: c :: d :: rest => some (some (fromBytes [a, b, c, d]), rest)
  | _ => none

/-- A method byte (R91). -/
def decMethod (b : Byte) : Option Method :=
  if b = 0 then some .cash else if b = 1 then some .cheque else if b = 2 then some .transfer else none

/-- A role byte (R181). -/
def decRole (b : Byte) : Option Role :=
  if b = 0 then some .scale
  else if b = 1 then some .payout
  else if b = 2 then some .office
  else if b = 3 then some .off
  else none

/-- An enable byte, enabled 0 and disabled 1 (assumption 14). -/
def decEnable (b : Byte) : Option Bool := if b = 0 then some true else if b = 1 then some false else none

/-- Data of no bytes: OPEN_WALKIN, SWITCH_PRICES and the others that take no parameters. -/
def decodeNothing : List Byte → Option Unit
  | [] => some ()
  | _ => none

/-- Data of one byte, one number: a channel, part, slot, grade, job number or printer. -/
def decodeOne : List Byte → Option Nat
  | [a] => some a.toNat
  | _ => none

/-- Data of two one-byte numbers. -/
def decodeTwo : List Byte → Option (Nat × Nat)
  | [a, b] => some (a.toNat, b.toNat)
  | _ => none

/-- Data of three one-byte numbers. -/
def decodeThree : List Byte → Option (Nat × Nat × Nat)
  | [a, b, c] => some (a.toNat, b.toNat, c.toNat)
  | _ => none

/-- Data of a ticket number alone. -/
def decodeNumber : List Byte → Option Nat
  | [a, b, c, d] => some (fromBytes [a, b, c, d])
  | _ => none

/-- Data of an event set (ACK_EVENTS, SET_MASK). -/
def decodeEvents : List Byte → Option EventSet
  | [a, b] => some (BitVec.ofNat 16 (fromBytes [a, b]))
  | _ => none

/-- SET_ALIAS: port, entry, printer or none (R177). -/
def decodeSetAlias : List Byte → Option (Nat × Nat × Option Nat)
  | [p, e, 0] => some (p.toNat, e.toNat, none)
  | [p, e, 1, q] => some (p.toNat, e.toNat, some q.toNat)
  | _ => none

/-- OPEN_TRUCK: channel, plate (R49). -/
def decodeOpenTruck : List Byte → Option (Nat × Text)
  | c :: rest =>
    match takeText 10 rest with
    | some (plate, []) => some (c.toNat, plate)
    | _ => none
  | _ => none

/-- DUMP: ticket number, channel, grade, final flag (R51). -/
def decodeDump : List Byte → Option (Nat × Nat × Nat × Bool)
  | [a, b, c, d, ch, g, f] => (decFlag f).map fun f => (fromBytes [a, b, c, d], ch.toNat, g.toNat, f)
  | _ => none

/-- ADD_BIN: ticket number, grade, container (R56). -/
def decodeAddBin : List Byte → Option (Nat × Nat × Nat)
  | [a, b, c, d, g, k] => some (fromBytes [a, b, c, d], g.toNat, k.toNat)
  | _ => none

/-- DEDUCT: ticket number, line index, Dm (R59). -/
def decodeDeduct : List Byte → Option (Nat × Nat × Nat)
  | [a, b, c, d, i, e, f, g, h] => some (fromBytes [a, b, c, d], i.toNat, fromBytes [e, f, g, h])
  | _ => none

/-- A ticket number and a text: SET_SELLER (R39) and SET_PLATE (R40). -/
def decodeNumberText (max : Nat) : List Byte → Option (Nat × Text)
  | a :: b :: c :: d :: rest =>
    match takeText max rest with
    | some (t, []) => some (fromBytes [a, b, c, d], t)
    | _ => none
  | _ => none

/-- A ticket number and a one-byte number: VOID (R36) and GET_TICKET (R41). -/
def decodeNumberOne : List Byte → Option (Nat × Nat)
  | [a, b, c, d, e] => some (fromBytes [a, b, c, d], e.toNat)
  | _ => none

/-- SET_GRADE: grade, name, price or none, auto rate, RESTRICTED, DISABLED (R66). -/
def decodeSetGrade : List Byte → Option (Nat × Text × Option Nat × Nat × Bool × Bool)
  | g :: rest =>
    match takeText 12 rest with
    | none => none
    | some (name, rest) =>
      match takeOpt4 rest with
      | some (price, [a, b, r, d]) =>
        match decFlag r, decFlag d with
        | some r, some d => some (g.toNat, name, price, fromBytes [a, b], r, d)
        | _, _ => none
      | _ => none
  | _ => none

/-- GET_GRADE: bank, ACTIVE 0 (false) or STAGED 1 (true), and grade (R69). -/
def decodeGetGrade : List Byte → Option (Bool × Nat)
  | [b, g] => (decFlag b).map fun b => (b, g.toNat)
  | _ => none

/-- SET_CONTAINER: container, tare (R68). -/
def decodeSetContainer : List Byte → Option (Nat × Nat)
  | [k, a, b, c, d] => some (k.toNat, fromBytes [a, b, c, d])
  | _ => none

/-- PAY: ticket number, method (R91). -/
def decodePay : List Byte → Option (Nat × Method)
  | [a, b, c, d, m] => (decMethod m).map fun m => (fromBytes [a, b, c, d], m)
  | _ => none

/-- Data of one text alone: GET_TALLY (R98). -/
def decodeText (max : Nat) (d : List Byte) : Option Text :=
  match takeText max d with
  | some (t, []) => some t
  | _ => none

/-- JOURNAL_POP: record kind, CLOSE 0 (false) or DAY_END 1 (true), and key (R106). -/
def decodePop : List Byte → Option (Bool × Nat)
  | [k, a, b, c, d] => (decFlag k).map fun k => (k, fromBytes [a, b, c, d])
  | _ => none

/-- `n` lines of a JOB_WRITE, each a text with a bold mark, and nothing after them (R137). -/
def takeLines : Nat → List Byte → Option (List (Text × Bool))
  | 0, [] => some []
  | 0, _ => none
  | n + 1, d =>
    match takeText 32 d with
    | some (t, m :: rest) =>
      match decFlag m, takeLines n rest with
      | some m, some ls => some ((t, m) :: ls)
      | _, _ => none
    | _ => none

/-- JOB_WRITE: job number and a list of lines (R137). -/
def decodeJobWrite : List Byte → Option (Nat × List (Text × Bool))
  | j :: n :: rest => (takeLines n.toNat rest).map fun ls => (j.toNat, ls)
  | _ => none

/-- SET_CLOCK: seconds, date text (R185). -/
def decodeSetClock : List Byte → Option (Nat × Text)
  | a :: b :: c :: d :: rest =>
    match takeText 8 rest with
    | some (t, []) => some (fromBytes [a, b, c, d], t)
    | _ => none
  | _ => none

/-- The value of a numeric parameter, five bytes (R181). -/
def decodeNumeric : List Byte → Option Nat
  | [a, b, c, d, e] => some (fromBytes [a, b, c, d, e])
  | _ => none

/-- The value of a header or footer text, an optional text (R181). -/
def decodeOptText : List Byte → Option (Option Text)
  | [0] => some none
  | 1 :: rest => (decodeText 32 rest).map some
  | _ => none

end Sys2Proof.Machine
end

