-- ==== Sys2Proof/Machine/Printing.lean ====
section
/-! DEFINITION. The operations the Spool Manager and the Printer Engines share (chapters 8 and 9): allocation and
release of pages, the queues, the byte stream of a job, the beginning and ending of frames, copies and jobs,
halts, drops and drawer trains. -/

namespace Sys2Proof.Machine

/-! ### Pages and job numbers (R132, R133) -/

/-- Put a page back into the free pool, which is kept in ascending order. -/
def insertPage (p : Page) : List Page → List Page
  | [] => [p]
  | q :: qs => if p < q then p :: q :: qs else if p = q then q :: qs else q :: insertPage p qs

/-- The lowest free job number. -/
def State.freeJob (s : State) : Option JobNo := (List.finRange 32).find? fun j => s.jobs[j].isNone

/-- How many job numbers are free (R150). -/
def State.freeJobCount (s : State) : Nat := ((List.finRange 32).filter fun j => s.jobs[j].isNone).length

/-- The job number an allocation of `n` pages takes, where the free pool holds them and a number is free (R133). -/
def State.canAllocate (s : State) (n : Nat) : Option JobNo := if n ≤ s.freePages.length then s.freeJob else none

/-- Allocate the lowest `n` pages of the free pool to job `j` (R133). -/
def State.allocate (s : State) (j : JobNo) (n : Nat) (job : Job) : State :=
  { (s.setJob j (some { job with pages := s.freePages.take n })) with freePages := s.freePages.drop n }

/-- Release a job: its pages return to the free pool and its number becomes free (R133). -/
def State.releaseJob (s : State) (j : JobNo) : State :=
  match s.jobs[j] with
  | none => s
  | some job => { (s.setJob j none) with freePages := job.pages.foldl (fun f p => insertPage p f) s.freePages }

/-- Line capacity of a job (R133). -/
def Job.capacity (j : Job) : Nat := Config.slotsPerPage * j.pages.length

/-- The page and slot of line `n` of a job (R133). -/
def Job.lineSlot (j : Job) (n : Nat) : Option (Page × Nat) :=
  j.pages[n / Config.slotsPerPage]?.map fun p => (p, n % Config.slotsPerPage)

/-- A text of exactly 32 characters: filled with spaces on the right (R137, R158). -/
def fillLine (t : Text) : Text := (t ++ List.replicate Config.slotBytes 0x20).take Config.slotBytes

/-- Write one line, its characters and its bold mark, into the slot of line `n` of a job (R132, R133). -/
def State.writeLine (s : State) (j : Job) (n : Nat) (line : Text × Bool) : State :=
  match j.lineSlot n with
  | none => s
  | some (page, slot) =>
    { s with
      pageMem := memWriteAll s.pageMem (slotAddress page slot) (fillLine line.1)
      boldMarks := memWrite s.boldMarks (markAddress page slot) (if line.2 then 1 else 0) }

/-- Write lines from line number `n` up. -/
def State.writeLines (s : State) (j : Job) (n : Nat) : List (Text × Bool) → State
  | [] => s
  | l :: ls => (s.writeLine j n l).writeLines j (n + 1) ls

/-- A stored line as it stands in its slot: 32 characters and the bold mark. -/
def State.storedLine (s : State) (j : Job) (n : Nat) : Text × Bool :=
  match j.lineSlot n with
  | none => (fillLine [], false)
  | some (page, slot) =>
    (memReadAll s.pageMem (slotAddress page slot) Config.slotBytes,
      memRead s.boldMarks (markAddress page slot) != 0)

/-! ### Queues (R135) -/

/-- A job's place in its queue, 1 being the head. -/
def State.queuePlace (s : State) (p : Printer) (j : JobNo) : Option Nat :=
  (s.queues[p].findIdx? (· == j)).map (· + 1)

def State.joinQueue (s : State) (p : Printer) (j : JobNo) : State := s.setQueue p (s.queues[p] ++ [j])

def State.leaveQueue (s : State) (p : Printer) (j : JobNo) : State :=
  s.setQueue p (s.queues[p].filter fun k => k != j)

/-- The head of a printer's queue with its record. -/
def State.headJob (s : State) (p : Printer) : Option (JobNo × Job) :=
  match s.queues[p] with
  | [] => none
  | j :: _ => s.jobs[j].map fun job => (j, job)

/-- A head is startable when it is QUEUED and closed, or written up to its early threshold (R139). -/
def Job.startable (j : Job) : Bool := j.state = .queued && (j.closed || j.threshold ≤ j.written)

/-- End a job that is in no queue any more: a COMPOSER job is released, a port job enters DONE with its status;
JOB_DONE is latched at the owner when `latch` holds (R135, R140). -/
def State.endJob (s : State) (j : JobNo) (status : DoneStatus) (latch : Bool) : State :=
  match s.jobs[j] with
  | none => s
  | some job =>
    match job.owner with
    | .composer => s.releaseJob j
    | .port p =>
      let s := s.setJob j
        (some { job with state := .done, doneStatus := some status, stall := none })
      if latch then s.latchAt .jobDone p else s

/-- The done status of a pending end (R140, R141, R143). -/
def PendingEnd.status : PendingEnd → DoneStatus
  | .cancelled => .cancelled
  | .underrun => .underrun

/-! ### The byte stream of a job (R158) -/

def character (b : Byte) : LinkByte := { control := false, data := b }

def controlCode (b : Byte) : LinkByte := { control := true, data := b }

/-- The copy marker line "COPY n OF m" and its LF (R158). -/
def copyMarkerBytes (j : Job) : List LinkByte :=
  (fillLine (ascii "COPY " ++ [BitVec.ofNat 8 (0x30 + j.currentCopy)] ++ ascii " OF " ++
      [BitVec.ofNat 8 (0x30 + j.copies)])).map character ++ [controlCode Config.codeLF]

/-- The bytes of a stored line: its characters, in bold where marked, and its LF (R158). -/
def storedLineBytes (line : Text × Bool) : List LinkByte :=
  if line.2 then
    [controlCode Config.codeBoldOn] ++ line.1.map character ++
      [controlCode Config.codeBoldOff, controlCode Config.codeLF]
  else line.1.map character ++ [controlCode Config.codeLF]

/-- The bytes of one part of a copy (R158). -/
def State.partBytes (s : State) (j : Job) : CopyPart → List LinkByte
  | .copyMarker => copyMarkerBytes j
  | .stored n => storedLineBytes (s.storedLine j n)
  | .cut => [controlCode Config.codeCut]

/-! ### Frames (R153, R155) -/

/-- An engine in SENDING with a pending byte, no frame and no backoff begins a frame, or is inhibited where it
finds the clock line low (R153, R155). -/
def State.beginFrame (s : State) (p : Printer) : State :=
  let e := s.printers[p]
  if e.state = .sending ∧ e.pendingByte.isSome ∧ e.frame.isNone ∧ e.backoff.isNone then
    if e.clockLow then
      s.setEngine p { e with state := .inhibited, inhibit := some s.settings.inhibitLimit }
    else s.setEngine p { e with frame := some 1 }
  else s

/-- The engine stands before the first byte of a part, which becomes its pending byte (R158). -/
def State.enterPart (s : State) (p : Printer) (j : Job) (part : CopyPart) : State :=
  s.setEngine p
    { s.printers[p] with
      position := some { part := part, next := 0 }, pendingByte := (s.partBytes j part).head? }

/-- What the engine sends when it stands between two lines of its job: CUT where an end is pending; the next
written line; CUT after the last line of a closed job; otherwise the job stalls and the stall timer starts
(R141, R158, R159). -/
def State.nextPart (s : State) (p : Printer) (jn : JobNo) : State :=
  match s.jobs[jn] with
  | none => s
  | some j =>
    if j.endPending.isSome then s.enterPart p j .cut
    else if j.sent < j.written then s.enterPart p j (.stored j.sent)
    else if j.closed then s.enterPart p j .cut
    else
      (s.setJob jn (some { j with state := .stalled, stall := some s.settings.stallTime })).setEngine p
        { s.printers[p] with position := none, pendingByte := none }

/-- Begin the current copy of the engine's job: the copy marker line where copies are above 1, else line 0 (R158). -/
def State.beginCopy (s : State) (p : Printer) (jn : JobNo) : State :=
  match s.jobs[jn] with
  | none => s
  | some j =>
    let s := s.setJob jn (some { j with sent := 0 })
    (if 1 < j.copies then s.enterPart p { j with sent := 0 } .copyMarker else s.nextPart p jn).beginFrame p

/-- Judge the start condition: an IDLE engine takes a startable head in the same event (R139, R158). -/
def State.offer (s : State) (p : Printer) : State :=
  match s.headJob p with
  | none => s
  | some (jn, j) =>
    if s.printers[p].state = .idle ∧ j.startable then
      ((s.setJob jn (some { j with state := .printing })).setEngine p
        { s.printers[p] with state := .sending, job := some jn }).beginCopy p jn
    else s

/-- The state an engine takes when it would become IDLE: OFF while its printer is disabled (R161, R162). -/
def State.restState (s : State) (p : Printer) : EngineState := if s.settings.enables[p] then .idle else .off

/-- The engine is done with its job: no job, position or pending byte, its timers stopped; it becomes IDLE, or OFF
where disabled, and the head of its queue is judged (R139, R140, R159, R162). -/
def State.restEngine (s : State) (p : Printer) : State :=
  (s.setEngine p
    { s.printers[p] with
      state := s.restState p, job := none, position := none, pendingByte := none, frame := none,
      refusals := 0, backoff := none, inhibit := none, dropping := false }).offer p

/-- The accepted CUT is reported as the copy end (R140, R141, R143). -/
def State.copyEnd (s : State) (p : Printer) (jn : JobNo) : State :=
  match s.jobs[jn] with
  | none => s.restEngine p
  | some j =>
    match j.endPending with
    | some e => ((s.leaveQueue p jn).endJob jn e.status true).restEngine p
    | none =>
      if j.currentCopy < j.copies then
        (s.setJob jn (some { j with currentCopy := j.currentCopy + 1, sent := 0 })).beginCopy p jn
      else ((s.leaveQueue p jn).endJob jn .printed true).restEngine p

/-- The last byte of a part has been accepted: a stored line is reported sent, a CUT is the copy end, and the engine
goes on (R140, R158). -/
def State.partSent (s : State) (p : Printer) (jn : JobNo) : CopyPart → State
  | .copyMarker => (s.nextPart p jn).beginFrame p
  | .stored _ =>
    match s.jobs[jn] with
    | none => s
    | some j => ((s.setJob jn (some { j with sent := j.sent + 1 })).nextPart p jn).beginFrame p
  | .cut => s.copyEnd p jn

/-- A byte has been accepted: the refusal count returns to 0 and the position moves on (R154, R158). -/
def State.byteAccepted (s : State) (p : Printer) : State :=
  let e := s.printers[p]
  let s := s.setEngine p { e with frame := none, refusals := 0 }
  match e.job, e.position with
  | some jn, some pos =>
    match s.jobs[jn] with
    | none => s
    | some j =>
      match (s.partBytes j pos.part)[pos.next + 1]? with
      | some b =>
        (s.setEngine p
          { s.printers[p] with
            position := some { pos with next := pos.next + 1 }, pendingByte := some b }).beginFrame p
      | none => s.partSent p jn pos.part
  | _, _ => s

/-- An order to end the copy reaches an engine with no frame in progress that stands before the first byte of a
line: CUT becomes the pending byte (R159). A line whose first byte is on the link waits for that frame's answer
(assumption 9). -/
def State.turnToCut (s : State) (p : Printer) : State :=
  let e := s.printers[p]
  match e.job, e.position with
  | some jn, some pos =>
    match s.jobs[jn] with
    | none => s
    | some j =>
      if j.endPending.isSome ∧ e.frame.isNone ∧ pos.next = 0 ∧ pos.part ≠ .cut then s.enterPart p j .cut
      else s
  | _, _ => s

/-! ### Halts and drops (R144, R159, R160) -/

/-- The engine halts: its job becomes HALTED, or ends with its pending status; PRINTER_HALTED is latched at every
port whose alias table names the printer (R144, R160). -/
def State.haltEngine (s : State) (p : Printer) (k : FaultKind) : State :=
  let e := s.printers[p]
  let s := s.setEngine p
    { e with
      state := .halted, fault := some k, job := none, position := none, pendingByte := none, frame := none,
      backoff := none, inhibit := none }
  let s :=
    match e.job with
    | none => s
    | some jn =>
      match s.jobs[jn] with
      | none => s
      | some j =>
        match j.endPending with
        | none => s.setJob jn (some { j with state := .halted })
        | some x => (s.leaveQueue p jn).endJob jn x.status true
  s.latchWhere .printerHalted fun q _ => s.settings.printersOf[q].toList.contains (some p)

/-- A byte has been refused: the count rises, and at the refusal limit the engine halts; otherwise the backoff timer
starts (R154). -/
def State.byteRefused (s : State) (p : Printer) : State :=
  let e := s.printers[p]
  let s := s.setEngine p { e with frame := none, refusals := min 15 (e.refusals + 1) }
  if s.settings.refusalLimit ≤ e.refusals + 1 then s.haltEngine p .refused
  else
    (s.setEngine p { s.printers[p] with backoff := some Config.backoffMs }).turnToCut p

/-- A flush orders an engine in SENDING or INHIBITED to drop its job: a frame in progress is completed first,
otherwise the engine rests at once (R148, R159). -/
def State.dropJob (s : State) (p : Printer) : State :=
  let e := s.printers[p]
  if e.state = .sending ∨ e.state = .inhibited then
    if e.frame.isSome then s.setEngine p { e with job := none, position := none, dropping := true }
    else s.restEngine p
  else s

/-! ### Drawers (R163, R164) -/

/-- A drawer kick at an output at rest starts a train; a running train ignores it (R163, R164). -/
def State.kickDrawer (s : State) (p : Printer) : State :=
  let e := s.printers[p]
  match e.train with
  | some _ => s
  | none =>
    s.setEngine p
      { e with
        train := some
          { onTime := s.settings.drawerOn, offTime := s.settings.drawerOff, count := s.settings.drawerCount,
            pulse := 1, onPhase := true } }

/-- The train after the end of its phase (R163). -/
def Train.nextPhase (t : Train) : Option Train :=
  if t.onPhase then some { t with onPhase := false }
  else if t.pulse < t.count then some { t with pulse := t.pulse + 1, onPhase := true }
  else none

end Sys2Proof.Machine
end

