-- ==== Sys2Proof/Machine/Composer.lean ====
section
/-! DEFINITION. Receipt composition (chapter 7): the printed figures, the line layouts, the documents, and their
hand-over to the spool. -/

namespace Sys2Proof.Machine

/-! ### Figures (R120) -/

/-- The decimal digits of a number, at most `fuel` of them, the last one first. -/
def digitsFromLast : Nat → Nat → List Byte
  | 0, _ => []
  | fuel + 1, n =>
    BitVec.ofNat 8 (0x30 + n % 10) :: (if n < 10 then [] else digitsFromLast fuel (n / 10))

/-- A number in decimal without leading zeros. -/
def decimal (n : Nat) : Text := (digitsFromLast 20 n).reverse

/-- A number in exactly `w` digits, with leading zeros. -/
def zeroPadded : Nat → Nat → Text
  | 0, _ => []
  | w + 1, n => BitVec.ofNat 8 (0x30 + n / 10 ^ w % 10) :: zeroPadded w n

def point : Byte := 0x2E

def hyphen : Byte := 0x2D

def space : Byte := 0x20

/-- A text placed left-aligned in a field (R121). -/
def leftField (w : Nat) (t : Text) : Text := (t ++ List.replicate w space).take w

/-- A figure placed right-aligned in a field (R120). -/
def rightField (w : Nat) (t : Text) : Text := (List.replicate w space ++ t).drop t.length

def blanks (n : Nat) : Text := List.replicate n space

/-- A weight in hg printed in kg with one decimal. -/
def weightText (w : Nat) : Text := decimal (w / 10) ++ [point] ++ zeroPadded 1 w

/-- A net, with a leading minus sign when it is below 0. -/
def netText (n : Int) : Text := (if n < 0 then [hyphen] else []) ++ weightText n.natAbs

/-- A price in mil printed with three decimals. -/
def priceText (p : Nat) : Text := decimal (p / 1000) ++ [point] ++ zeroPadded 3 p

/-- An amount in minor units printed with two decimals. -/
def amountText (a : Nat) : Text := decimal (a / 100) ++ [point] ++ zeroPadded 2 a

/-- Seconds of day as hh:mm:ss. -/
def timeText (sec : Nat) : Text :=
  zeroPadded 2 (sec / 3600) ++ ascii ":" ++ zeroPadded 2 (sec % 3600 / 60) ++ ascii ":" ++ zeroPadded 2 (sec % 60)

/-- A time that may be absent (R120). -/
def optTimeText : Option Nat → Text
  | some t => timeText t
  | none => ascii "--:--:--"

/-- A text centred on the line (R121). -/
def centred (t : Text) : Text := leftField 32 (blanks ((32 - t.length) / 2) ++ t)

/-! ### Line layouts (R122 to R125) -/

def duplicateLine : Text := centred (ascii "*** DUPLICATE ***")

/-- Ticket kind as printed (R122). -/
def kindText : TicketKind → Text
  | .truck => ascii "TRUCK"
  | .walkin => ascii "WALKIN"

def ticketLine (r : CloseRecord) : Text :=
  leftField 7 (ascii "TICKET") ++ rightField 8 (decimal r.number) ++ blanks 1 ++ leftField 6 (kindText r.kind) ++
    blanks 1 ++ ascii "DAY" ++ blanks 1 ++ rightField 5 (decimal r.day)

def dateTimeLine (r : CloseRecord) : Text :=
  let date :=
    match r.closeTime with
    | some c => c.date
    | none => List.replicate 8 hyphen
  leftField 8 date ++ blanks 4 ++ leftField 3 (ascii "SP" ++ zeroPadded 1 r.closingPort.val) ++ blanks 9 ++
    leftField 8 (optTimeText (r.closeTime.map (·.seconds)))

def sellerLine (id : Text) : Text := leftField 7 (ascii "SELLER") ++ leftField 16 id ++ blanks 9

def plateLine (plate : Text) : Text := leftField 7 (ascii "PLATE") ++ leftField 10 plate ++ blanks 15

/-- Weighing kind as printed (R123). -/
def weighingKindText : WeighingKind → Text
  | .gross => ascii "GROSS"
  | .dump => ascii "DUMP"
  | .tare => ascii "TARE"
  | .bin => ascii "BIN"

/-- For a BIN entry its container as C00..C15; for any other, SC and the channel digit (R123). -/
def weighingPlace (w : Weighing) : Text :=
  match w.kind, w.container with
  | .bin, some k => ascii "C" ++ zeroPadded 2 k.val
  | _, _ => ascii "SC" ++ zeroPadded 1 w.channel.val

def weighingLine (w : Weighing) : Text :=
  leftField 2 (zeroPadded 1 w.seq) ++ leftField 6 (weighingKindText w.kind) ++ leftField 4 (weighingPlace w) ++
    rightField 8 (weightText w.weight) ++ blanks 1 ++ ascii "KG" ++ blanks 1 ++ leftField 8 (optTimeText w.time)

def lineA (st : Settings) (index : Nat) (l : Line) : Text :=
  leftField 2 (zeroPadded 1 index) ++ zeroPadded 2 l.grade.number ++ blanks 1 ++
    leftField 13 st.active[l.grade].name ++ rightField 9 (netText l.net) ++ blanks 1 ++ ascii "KG" ++ blanks 1 ++
    (if l.restricted then ascii "R" else blanks 1)

def deductionLine (l : Line) : Text :=
  (if l.dedClamped then ascii "*" else blanks 1) ++ blanks 1 ++ leftField 5 (ascii "LESS") ++
    leftField 5 (ascii "AUTO") ++ rightField 8 (weightText l.autoDed) ++ blanks 1 ++ leftField 4 (ascii "MAN") ++
    rightField 7 (weightText l.manualDed)

def lineB (l : Line) : Text :=
  let price :=
    match l.price with
    | some p => priceText p
    | none => List.replicate 7 hyphen
  blanks 2 ++ rightField 8 (weightText l.payable) ++ blanks 1 ++ ascii "X" ++ blanks 1 ++ rightField 7 price ++
    blanks 1 ++ rightField 11 (amountText l.amount)

/-- The lines of one ticket line, kept together: LINE-A, DEDUCTION where Da + Dm is above 0, LINE-B (R118). -/
def ticketLineText (st : Settings) (index : Nat) (l : Line) : List Text :=
  [lineA st index l] ++ (if 0 < l.autoDed + l.manualDed then [deductionLine l] else []) ++ [lineB l]

def separatorLine : Text := List.replicate 32 hyphen

def totalLine (r : CloseRecord) : Text :=
  leftField 6 (ascii "TOTAL") ++ leftField 15 (if r.totalClamped then ascii "CLAMPED" else []) ++
    rightField 11 (amountText r.total)

/-- Method as printed (R125). -/
def methodText : Method → Text
  | .cash => ascii "CASH"
  | .cheque => ascii "CHEQUE"
  | .transfer => ascii "TRANSFER"

/-- The PAID or VOID line (R125). -/
def outcomeLine : Closing → Text
  | .paid m a _ => leftField 5 (ascii "PAID") ++ leftField 16 (methodText m) ++ rightField 11 (amountText a)
  | .voided k => leftField 5 (ascii "VOID") ++ leftField 7 (ascii "REASON") ++ rightField 2 (decimal k) ++ blanks 18

/-- The ROUNDING line of a PAID record whose R is above 0 (R118, R125). -/
def roundingLines : Closing → List Text
  | .paid _ _ q => if 0 < q then [leftField 21 (ascii "ROUNDING") ++ rightField 11 (amountText q)] else []
  | .voided _ => []

/-- The texts present, in number order (R131). -/
def textsPresent {n : Nat} (v : Vector (Option Text) n) : List Text := v.toList.filterMap id

/-- The lines of every ticket line in index order, from index `k`. -/
def linesFrom (st : Settings) (k : Nat) : List Line → List Text
  | [] => []
  | l :: ls => ticketLineText st k l ++ linesFrom st (k + 1) ls

/-- The lines of a document from a CLOSE record, in the order of R118, each with its bold mark: set on the TOTAL
line, clear on every other (R125). -/
def documentLines (st : Settings) (duplicate : Bool) (r : CloseRecord) : List (Text × Bool) :=
  ((textsPresent st.headers).map centred ++ (if duplicate then [duplicateLine] else []) ++
      [ticketLine r, dateTimeLine r] ++ (r.seller.map sellerLine).toList ++ (r.plate.map plateLine).toList ++
      r.weighings.map weighingLine ++ linesFrom st 1 r.lines ++ [separatorLine]).map (fun t => (t, false)) ++
    [(totalLine r, true)] ++
    ([outcomeLine r.closing] ++ roundingLines r.closing ++ (textsPresent st.footers).map centred).map
      fun t => (t, false)

/-- The line count L of a document, formed from its terms (R119). -/
def lineCount (st : Settings) (duplicate : Bool) (r : CloseRecord) : Nat :=
  (textsPresent st.headers).length + (textsPresent st.footers).length + duplicate.toNat +
    r.seller.isSome.toNat + r.plate.isSome.toNat + (roundingLines r.closing).length + r.weighings.length +
    2 * r.lines.length + (r.lines.filter fun l => 0 < l.autoDed + l.manualDed).length + 5

/-- The pages a document needs (R119). -/
def pagesNeeded (lines : Nat) : Nat := ceilDiv lines Config.slotsPerPage

/-- The job number a document's hand-over would take, if the spool has the pages and a number (R93, R128, R129). -/
def State.roomFor (s : State) (duplicate : Bool) (r : CloseRecord) : Option JobNo :=
  s.canAllocate (pagesNeeded (lineCount s.settings duplicate r))

/-- The job record of a document (R126). -/
def composerJob (p : Printer) (number lines copies : Nat) : Job :=
  { owner := .composer, printer := p, ticket := some number, pages := [], written := lines, closed := true,
    copies := copies, currentCopy := 1, sent := 0, threshold := 0, state := .queued, endPending := none,
    doneStatus := none, stall := none }

/-- Hand a document to the spool as job `j`: pages and number taken, its lines written from line 0, the job queued
to its printer and the head judged (R126, R139). -/
def State.handOver (s : State) (j : JobNo) (p : Printer) (copies : Nat) (duplicate : Bool) (r : CloseRecord) :
    State :=
  let lines := lineCount s.settings duplicate r
  let doc := documentLines s.settings duplicate r
  let s := s.allocate j (pagesNeeded lines) (composerJob p r.number lines copies)
  match s.jobs[j] with
  | none => s
  | some job => ((s.writeLines job 0 doc).joinQueue p j).offer p

end Sys2Proof.Machine
end

