-- ==== Sys2Proof/Machine/TicketOps.lean ====
section
/-! DEFINITION. The Ticket Table's shared operations (chapter 2): finding a ticket, issuing a number, TICKET_READY,
and what a capture outcome does to the ticket it belongs to (R33 to R35, R45 to R57). -/

namespace Sys2Proof.Machine

/-- A ticket number lies in 1..99 999 999 (R31). -/
def numberInRange (n : Nat) : Bool := 1 ≤ n && n ≤ Config.maxTicketNumber

/-- The slot whose ticket holds a number; an OPENING slot holds none and is never found (R31). -/
def State.findTicket (s : State) (n : Nat) : Option Slot :=
  (List.finRange 48).find? fun i => (s.slots[i].bind (·.number)) == some n

/-- The lowest-numbered FREE slot (R22). -/
def State.freeSlot (s : State) : Option Slot := (List.finRange 48).find? fun i => s.slots[i].isNone

/-- Every request that names a ticket: a number out of range is BAD_PARAM, one not found NO_TICKET; otherwise the
request goes on with the slot and the record (R31). -/
def onTicket (r : Req) (n : Nat) (s : State) (k : Slot → Ticket → State) : State :=
  if numberInRange n then
    match s.findTicket n with
    | none => answer r .noTicket [] s
    | some i =>
      match s.slots[i] with
      | none => answer r .noTicket [] s
      | some t => k i t
  else answer r .badParam [] s

/-- The counter after it has issued `n` (R30). -/
def Counter.after (n : Nat) : Counter := if n = Config.maxTicketNumber then .exhausted else .valid (n + 1)

/-- The counter cannot issue a number (R29). -/
def Counter.noNumber : Counter → Bool
  | .valid _ => false
  | .invalid | .exhausted => true

/-- TICKET_READY at every PAYOUT port (R28). -/
def State.ticketReady (s : State) : State := s.latchRoles .ticketReady [.payout]

/-- Put a ticket into its slot; where it has just entered WEIGHED, TICKET_READY is latched (R28). -/
def State.putTicket (s : State) (i : Slot) (t : Ticket) (entersWeighed : Bool) : State :=
  let s := s.setSlot i (some t)
  if entersWeighed then s.ticketReady else s

/-- A new record at the opening of a ticket (R49, R55). -/
def newTicket (kind : TicketKind) (state : TicketState) (by_ : Port) (plate : Option Text) : Ticket :=
  { number := none, kind := kind, state := state, openedBy := by_, openedAt := none, seller := none,
    plate := plate, weighings := [], lines := [], total := 0, totalClamped := false, marker := none,
    window := none }

/-! ### Captures seen from the table (R32 to R35) -/

/-- The capture kind of a marker (R26). -/
def Purpose.kind : Purpose → CaptureKind
  | .gross => .gross
  | .dump .. => .dump
  | .bin .. => .bin

/-- The CODE of the deferred request a marker stands for (10.9.2). -/
def Purpose.code : Purpose → Byte
  | .gross => 0x10
  | .dump .. => 0x11
  | .bin .. => 0x13

/-- How a capture ended (R17). -/
inductive CaptureResult where
  | ok (weight : Nat)
  | scaleFault
  | belowMinimum
  | overload
  | beamBroken
  | notStable
deriving DecidableEq, Repr

/-- The outcome a capture result is answered with. -/
def CaptureResult.outcome : CaptureResult → OutcomeCode
  | .ok _ => .ok
  | .scaleFault => .scaleFault
  | .belowMinimum => .belowMinimum
  | .overload => .overload
  | .beamBroken => .beamBroken
  | .notStable => .notStable

/-- The deferred response to the port of a marker, with its TAG (R33). -/
def State.answerMarker (s : State) (m : Marker) (o : OutcomeCode) (data : List Byte) : State :=
  s.respond m.port { tag := m.tag, code := m.purpose.code, outcome := o, data := data }

/-- The weight of the entry that stands last in a list of weighings; a truck ticket's list is never empty when a
dump is taken (R46). -/
def lastWeight (ws : List Weighing) : Nat := (ws.getLast?.map (·.weight)).getD 0

/-- A ticket with one weighing recorded at the end of its list (R45). -/
def Ticket.record (t : Ticket) (kind : WeighingKind) (c : Chan) (w : Nat) (time : Option Nat)
    (k : Option Container) : Ticket :=
  { t with
    weighings := t.weighings ++
      [{ seq := t.weighings.length + 1, kind := kind, channel := c, weight := w, time := time, container := k }] }

/-- A ticket with one line appended and the total formed anew (R52, R57). -/
def Ticket.addLine (t : Ticket) (l : Line) : Ticket := ({ t with lines := t.lines ++ [l] } : Ticket).retotal

/-- The OK response to a dump or bin: number, weighing, line, state, T, TOTAL_CLAMPED (R52). -/
def weighingResponse (t : Ticket) : List Byte :=
  enc4 (t.number.getD 0) ++ (t.weighings.getLast?.map Weighing.enc).getD [] ++
    (t.lines.getLast?.map Line.enc).getD [] ++ t.state.enc ++ enc5 t.total ++ encFlag t.totalClamped

/-- A GROSS outcome of OK that finds a number: number and opening time, the GROSS weighing, WEIGHING (R34, R50). -/
def Ticket.grossed (t : Ticket) (n : Nat) (c : Chan) (w : Nat) (time : Option Nat) : Ticket :=
  { (t.record .gross c w time none) with
    number := some n, openedAt := time, state := .weighing, marker := none }

/-- The ticket after a dump of weight `w`: weighing, line, total, and the state by R53 (R46, R52). -/
def Ticket.dumped (t : Ticket) (st : Settings) (g : GradeIx) (final : Bool) (c : Chan) (w : Nat)
    (time : Option Nat) : Ticket :=
  let l := newLine st g ((lastWeight t.weighings : Int) - w)
  let ends := final || t.lines.length + 1 == Config.maxLines
  let t := { t with marker := none, state := if ends then .weighed else t.state }
  (t.record (if ends then .tare else .dump) c w time none).addLine l

/-- The ticket after a bin of weight `w`, the tare read now (R47, R57). -/
def Ticket.binned (t : Ticket) (st : Settings) (g : GradeIx) (k : Container) (c : Chan) (w : Nat)
    (time : Option Nat) : Ticket :=
  let l := newLine st g ((w : Int) - tareOf st k)
  let ends := t.lines.length + 1 == Config.maxLines
  let t := { t with marker := none, state := if ends then .weighed else t.state }
  (t.record .bin c w time (some k)).addLine l

/-- Act on an outcome that has been matched to its marker (R33 to R35). -/
def actOnOutcome (i : Slot) (t : Ticket) (m : Marker) (res : CaptureResult) (s : State) : State :=
  match m.purpose, res with
  | .gross, .ok w =>
    match s.counter with
    | .valid n =>
      ((s.writeCounter (.after n)).setSlot i (some (t.grossed n m.channel w s.seconds))).answerMarker m .ok
        (enc4 n ++ enc4 w)
    | .invalid | .exhausted => (s.setSlot i none).answerMarker m .noNumber []
  | .gross, res => (s.setSlot i none).answerMarker m res.outcome []
  | .dump g final, .ok w =>
    let t' := t.dumped s.settings g final m.channel w s.seconds
    (s.putTicket i t' (t'.state == .weighed)).answerMarker m .ok (weighingResponse t')
  | .bin g k, .ok w =>
    let t' := t.binned s.settings g k m.channel w s.seconds
    (s.putTicket i t' (t'.state == .weighed)).answerMarker m .ok (weighingResponse t')
  | .dump .., res | .bin .., res =>
    (s.setSlot i (some { t with marker := none })).answerMarker m res.outcome []

/-- A capture outcome arrives at the table: it is discarded unless the slot's marker names its channel and kind
(R33). -/
def captureOutcome (c : Chan) (kind : CaptureKind) (i : Slot) (res : CaptureResult) (s : State) : State :=
  match s.slots[i] with
  | none => s
  | some t =>
    match t.marker with
    | none => s
    | some m => if m.channel = c ∧ m.purpose.kind = kind then actOnOutcome i t m res s else s

/-- End the capture of a channel, handing its outcome to the table in the same event (R17); the channel record
is deleted first, so its light follows R14. -/
def endCapture (c : Chan) (res : CaptureResult) (s : State) : State :=
  match s.channels[c].capture with
  | none => s
  | some cap =>
    captureOutcome c cap.kind cap.slot res (s.setChannel c { s.channels[c] with capture := none })

/-- A capture start on a free channel: in FAULT or NO_SIGNAL it ends at once with SCALE_FAULT; otherwise the record
is created with its window timer (R15, R48). -/
def startCapture (c : Chan) (kind : CaptureKind) (i : Slot) (s : State) : State :=
  let ch := s.channels[c]
  let s := s.setChannel c
    { ch with capture := some { kind := kind, slot := i, window := s.settings.channels[c].captureWindow } }
  if ch.state = .fault ∨ ch.state = .noSignal then endCapture c .scaleFault s else s

/-- Acceptance of a request that starts a capture: the marker, the deferred request, the capture start (R32, R48). -/
def acceptCapture (r : Req) (i : Slot) (t : Ticket) (p : Purpose) (c : Chan) (s : State) : State :=
  let m : Marker := { purpose := p, channel := c, port := r.port, tag := r.tag }
  startCapture c p.kind i ((s.setSlot i (some { t with marker := some m })).deferRequest r.port)

/-- A capture abandonment: it has effect only where the channel's capture runs for the slot (R18). -/
def abandonCapture (c : Chan) (i : Slot) (s : State) : State :=
  match s.channels[c].capture with
  | some cap => if cap.slot = i then s.setChannel c { s.channels[c] with capture := none } else s
  | none => s

end Sys2Proof.Machine
end

