-- ==== Sys2Proof/Machine/Books.lean ====
section
/-! DEFINITION. The operations over the journal, the day totals and the tally table that the closing requests share
(chapters 5 and 6). -/

namespace Sys2Proof.Machine

/-- A full journal holds 128 records (R101). -/
def State.journalFull (s : State) : Bool := Config.journalRoom ≤ s.journal.length

/-- Append a record at the tail (R101). -/
def State.append (s : State) (r : Record) : State := { s with journal := s.journal ++ [r] }

/-- The CLOSE record of a ticket as it stands in the closing event (R102). -/
def closeRecordOf (s : State) (t : Ticket) (p : Port) (c : Closing) : CloseRecord :=
  { day := s.day, number := t.number.getD 0, closing := c, closingPort := p, closeTime := s.clock, kind := t.kind,
    openedBy := t.openedBy, openedAt := t.openedAt, seller := t.seller, plate := t.plate,
    weighings := t.weighings, lines := t.lines, total := t.total, totalClamped := t.totalClamped }

/-- A close record found in the journal by ticket number; every record is searched (R104). -/
def State.findClose (s : State) (n : Nat) : Option CloseRecord :=
  s.journal.findSome? fun r =>
    match r with
    | .close c => if c.number = n then some c else none
    | .dayEnd _ => none

/-! ### Totals (R109, R110) -/

/-- One line of a paid ticket into the totals of its grade (R109). -/
def Totals.addLine (t : Totals) (l : Line) : Totals :=
  let g := t.grades[l.grade]
  { t with
    grades := t.grades.set l.grade
      { weight := g.weight.add Config.maxSum l.payable
        amount := g.amount.add Config.maxSum l.amount
        count := g.count.add Config.maxCount 1 } }

/-- The additions of an accepted PAY (R109). -/
def Totals.addPayment (t : Totals) (m : Method) (paid rounding : Nat) (ls : List Line) : Totals :=
  let t := { t with paid := t.paid.add Config.maxCount 1, rounding := t.rounding.add Config.maxSum rounding }
  let t :=
    match m with
    | .cash => { t with cash := t.cash.add Config.maxSum paid }
    | .cheque | .transfer => { t with nonCash := t.nonCash.add Config.maxSum paid }
  ls.foldl Totals.addLine t

/-- The addition of an accepted VOID (R109). -/
def Totals.addVoid (t : Totals) : Totals := { t with voided := t.voided.add Config.maxCount 1 }

/-- Replace the totals; a mark that becomes set latches TOTAL_SATURATED at every OFFICE port, once (R110). -/
def State.setTotals (s : State) (t : Totals) : State :=
  let s' : State := { s with totals := t }
  if newlyMarked s.totals t then s'.latchRoles .totalSaturated [.office] else s'

/-! ### The tally table (R83 to R85) -/

/-- The way of a bucket that holds a seller's entry (R85). -/
def State.tallyWay (s : State) (id : Text) : Option (Fin 4) :=
  (List.finRange 4).find? fun w => (s.tally[tallyBucket id][w].map (·.seller)) == some id

/-- The lowest-numbered empty way of a seller's bucket (R85). -/
def State.emptyWay (s : State) (id : Text) : Option (Fin 4) :=
  (List.finRange 4).find? fun w => s.tally[tallyBucket id][w].isNone

/-- How many ways of a bucket are empty (R98). -/
def State.emptyWays (s : State) (b : Fin 64) : Nat :=
  ((List.finRange 4).filter fun w => s.tally[b][w].isNone).length

/-- A seller's entry, looked up (R85). -/
def State.tallyEntry (s : State) (id : Text) : Option TallyEntry :=
  (s.tallyWay id).bind fun w => s.tally[tallyBucket id][w]

/-- The tally of a seller: cash_today of the entry, or 0 (R83). -/
def State.tallyOf (s : State) (id : Text) : Nat := ((s.tallyEntry id).map (·.cashToday)).getD 0

/-- The cash a seller may still be paid today (R88). -/
def State.allowance (s : State) (id : Text) : Nat := s.settings.cashLimit - s.tallyOf id

def State.setTally (s : State) (b : Fin 64) (w : Fin 4) (e : TallyEntry) : State :=
  { s with tally := s.tally.set b (s.tally[b].set w (some e)) }

/-- A cash payment of `c` on ticket `n` to a seller: the entry found, or one created in the lowest empty way, takes
the cash, the payout and the ticket number (R94). -/
def State.tallyPayment (s : State) (id : Text) (c n : Nat) : State :=
  let base : Option (Fin 4 × Nat × Nat) :=
    match s.tallyWay id, s.tallyEntry id with
    | some w, some e => some (w, e.cashToday, e.payouts)
    | _, _ => (s.emptyWay id).map fun w => (w, 0, 0)
  match base with
  | none => s
  | some (w, cash, payouts) =>
    s.setTally (tallyBucket id) w
      { seller := id, cashToday := cash + c, payouts := min 255 (payouts + 1), lastTicket := n }

/-- All 256 ways made empty (R100). -/
def emptyTally : Vector (Vector (Option TallyEntry) 4) 64 := Vector.replicate 64 (Vector.replicate 4 none)

end Sys2Proof.Machine
end

