-- ==== Sys2Proof/Machine/Weighing.lean ====
section
/-! DEFINITION. Weighing sequences (chapter 3): OPEN_TRUCK, DUMP, OPEN_WALKIN, ADD_BIN, CLOSE_WEIGHING, DEDUCT. -/

namespace Sys2Proof.Machine

/-- Some character is not printable, 0x20..0x7E (0.5.2). -/
def holdsUnprintable (t : Text) : Bool := t.any fun b => !printable b

/-- An empty text stands for an absent one (R39, R40, R49). -/
def orAbsent (t : Text) : Option Text := if t.isEmpty then none else some t

/-- The grade entry checks of DUMP and ADD_BIN against the ACTIVE bank (R51, R56). -/
def gradeRefusal (s : State) (g : GradeIx) : Option OutcomeCode :=
  let e := s.settings.active[g]
  if e.disabled then some .gradeDisabled else if e.price.isNone then some .priceMissing else none

/-- OPEN_TRUCK's checks and acceptance (R49). -/
def openTruckOn (r : Req) (c : Chan) (plate : Text) (s : State) : State :=
  if s.counter.noNumber then answer r .noNumber [] s
  else
    match s.freeSlot with
    | none => answer r .tableFull [] s
    | some i =>
      if s.channels[c].capture.isSome then answer r .channelBusy [] s
      else acceptCapture r i (newTicket .truck .opening r.port (orAbsent plate)) .gross c s

/-- OPEN_TRUCK names a bridge channel and a plate (R49). -/
def openTruck (r : Req) (s : State) : State :=
  match decodeOpenTruck r.data with
  | none => answer r .badParam [] s
  | some (c, plate) =>
    if h : c < 2 then
      if holdsUnprintable plate then answer r .badParam [] s
      else openTruckOn r (Bridge.chan ⟨c, h⟩) plate s
    else answer r .badParam [] s

/-- A dump or bin request on a ticket that has been found: state and marker, grade, channel, then acceptance
(R51 checks 3 to 6, R56 checks 3 to 6). -/
def weighOn (r : Req) (i : Slot) (t : Ticket) (need : TicketState) (g : GradeIx) (p : Purpose) (c : Chan)
    (s : State) : State :=
  if t.state ≠ need ∨ t.marker.isSome then answer r .ticketBusy [] s
  else
    match gradeRefusal s g with
    | some o => answer r o [] s
    | none =>
      if s.channels[c].capture.isSome then answer r .channelBusy [] s else acceptCapture r i t p c s

/-- DUMP names a ticket, a bridge channel, a grade and a final flag (R51). -/
def dump (r : Req) (s : State) : State :=
  match decodeDump r.data with
  | none => answer r .badParam [] s
  | some (n, c, g, final) =>
    if h : c < 2 ∧ 1 ≤ g ∧ g ≤ 64 then
      let g : GradeIx := ⟨g - 1, by omega⟩
      onTicket r n s fun i t => weighOn r i t .weighing g (.dump g final) (Bridge.chan ⟨c, h.1⟩) s
    else answer r .badParam [] s

/-- OPEN_WALKIN opens a walk-in ticket and issues its number at once (R55, R30). -/
def openWalkin (r : Req) (s : State) : State :=
  match decodeNothing r.data with
  | none => answer r .badParam [] s
  | some _ =>
    match s.counter with
    | .invalid | .exhausted => answer r .noNumber [] s
    | .valid n =>
      match s.freeSlot with
      | none => answer r .tableFull [] s
      | some i =>
        let t := { newTicket .walkin .counter r.port none with number := some n, openedAt := s.seconds }
        answer r .ok (enc4 n) ((s.writeCounter (.after n)).setSlot i (some t))

/-- ADD_BIN names a ticket, a grade and a container; the capture runs on SC2 (R56). -/
def addBin (r : Req) (s : State) : State :=
  match decodeAddBin r.data with
  | none => answer r .badParam [] s
  | some (n, g, k) =>
    if h : 1 ≤ g ∧ g ≤ 64 ∧ k < 16 then
      let g : GradeIx := ⟨g - 1, by omega⟩
      onTicket r n s fun i t => weighOn r i t .counter g (.bin g ⟨k, h.2.2⟩) 2 s
    else answer r .badParam [] s

/-- CLOSE_WEIGHING's checks on the ticket, and its acceptance (R58). -/
def closeWeighingOn (r : Req) (i : Slot) (t : Ticket) (s : State) : State :=
  if t.state = .atWindow ∨ (t.state = .counter ∧ t.marker.isSome) then answer r .ticketBusy [] s
  else if t.state ≠ .counter then answer r .wrongState [] s
  else if t.lines.isEmpty then answer r .noLines [] s
  else
    answer r .ok (enc4 (t.number.getD 0) ++ enc1 t.lines.length ++ enc5 t.total)
      (s.putTicket i { t with state := .weighed } true)

/-- CLOSE_WEIGHING names a ticket (R58). -/
def closeWeighing (r : Req) (s : State) : State :=
  match decodeNumber r.data with
  | none => answer r .badParam [] s
  | some n => onTicket r n s fun i t => closeWeighingOn r i t s

/-- The ticket with Dm set on line `k` (from 0), the line re-formed and the total formed anew (R60). -/
def Ticket.deduct (t : Ticket) (k dm : Nat) : Ticket :=
  ({ t with lines := t.lines.modify k (Line.deduct dm) } : Ticket).retotal

/-- DEDUCT's checks on the ticket, and its acceptance (R59, R60). -/
def deductOn (r : Req) (i : Slot) (t : Ticket) (index dm : Nat) (s : State) : State :=
  if t.state = .atWindow ∨ t.marker.isSome then answer r .ticketBusy [] s
  else
    match t.lines[index - 1]? with
    | none => answer r .badParam [] s
    | some l =>
      let t' := t.deduct (index - 1) dm
      answer r .ok ((l.deduct dm).enc ++ enc5 t'.total ++ encFlag t'.totalClamped) (s.setSlot i (some t'))

/-- DEDUCT names a ticket, a line index 1..8 and a deduction 0..999 999 hg (R59). -/
def deduct (r : Req) (s : State) : State :=
  match decodeDeduct r.data with
  | none => answer r .badParam [] s
  | some (n, index, dm) =>
    if 1 ≤ index ∧ index ≤ 8 ∧ dm ≤ 999999 then onTicket r n s fun i t => deductOn r i t index dm s
    else answer r .badParam [] s

/-- OPEN_TRUCK (R49). -/
def execOpenTruck (s : State) : Host.Outcome State Fault Refusal := .next (serve 0x10 openTruck s)

/-- DUMP (R51). -/
def execDump (s : State) : Host.Outcome State Fault Refusal := .next (serve 0x11 dump s)

/-- OPEN_WALKIN (R55). -/
def execOpenWalkin (s : State) : Host.Outcome State Fault Refusal := .next (serve 0x12 openWalkin s)

/-- ADD_BIN (R56). -/
def execAddBin (s : State) : Host.Outcome State Fault Refusal := .next (serve 0x13 addBin s)

/-- CLOSE_WEIGHING (R58). -/
def execCloseWeighing (s : State) : Host.Outcome State Fault Refusal := .next (serve 0x14 closeWeighing s)

/-- DEDUCT (R59). -/
def execDeduct (s : State) : Host.Outcome State Fault Refusal := .next (serve 0x15 deduct s)

end Sys2Proof.Machine
end

