-- ==== Sys2Proof/Machine/Tariff.lean ====
section
/-! DEFINITION. The Tariff Table (chapter 4): SET_GRADE, SWITCH_PRICES, GET_GRADE, SET_CONTAINER, REPRICE. -/

namespace Sys2Proof.Machine

/-- A name filled out to 12 characters with spaces on the right (R66). -/
def fillName (t : Text) : Text := t ++ List.replicate (12 - t.length) 0x20

/-- The STAGED entry of a grade replaced as a whole (R66). -/
def State.stage (s : State) (g : GradeIx) (e : GradeEntry) : State := { s with staged := s.staged.set g e }

/-- SET_GRADE gives a grade's whole STAGED entry (R66). -/
def setGrade (r : Req) (s : State) : State :=
  match decodeSetGrade r.data with
  | none => answer r .badParam [] s
  | some (g, name, price, rate, restricted, disabled) =>
    if h : (1 ≤ g ∧ g ≤ 64) ∧ holdsUnprintable name = false ∧ price.getD 0 ≤ 999999 ∧ rate ≤ 500 then
      if s.save.isSome then answer r .settingsBusy [] s
      else
        answer r .ok []
          (s.stage ⟨g - 1, by omega⟩
            { name := fillName name, price := price, rate := rate, restricted := restricted, disabled := disabled })
    else answer r .badParam [] s

/-- The switch: every STAGED entry into ACTIVE, the epoch raised by one, PRICES_SWITCHED at every port (R65, R67). -/
def State.switchPrices (s : State) : State :=
  let settings := { s.settings with active := s.staged, epoch := (s.settings.epoch + 1) % 65536 }
  ({ s with settings := settings } : State).latchWhere .pricesSwitched fun _ _ => true

/-- SWITCH_PRICES takes no parameters (R67). -/
def switchPrices (r : Req) (s : State) : State :=
  match decodeNothing r.data with
  | none => answer r .badParam [] s
  | some _ =>
    if s.save.isSome then answer r .settingsBusy [] s
    else answer r .ok (enc2 s.switchPrices.settings.epoch) s.switchPrices

/-- An entry as GET_GRADE reports it (R69). -/
def encEntry (e : GradeEntry) : List Byte :=
  encText e.name ++ encOpt enc4 e.price ++ enc2 e.rate ++ encFlag e.restricted ++ encFlag e.disabled

/-- GET_GRADE names a bank and a grade (R69). -/
def getGrade (r : Req) (s : State) : State :=
  match decodeGetGrade r.data with
  | none => answer r .badParam [] s
  | some (staged, g) =>
    if h : 1 ≤ g ∧ g ≤ 64 then
      let g : GradeIx := ⟨g - 1, by omega⟩
      let e := if staged then s.staged[g] else s.settings.active[g]
      answer r .ok
        (encEntry e ++ enc2 s.settings.epoch ++ encFlag (decide (s.staged[g] ≠ s.settings.active[g]))) s
    else answer r .badParam [] s

/-- A container's tare replaced in the working settings (R68). -/
def State.setTare (s : State) (k : Container) (tare : Nat) : State :=
  { s with settings := { s.settings with tares := s.settings.tares.set k tare } }

/-- SET_CONTAINER names a container 1..15 and a tare (R68). -/
def setContainer (r : Req) (s : State) : State :=
  match decodeSetContainer r.data with
  | none => answer r .badParam [] s
  | some (k, tare) =>
    if h : (1 ≤ k ∧ k ≤ 15) ∧ tare ≤ 100000 then
      if s.save.isSome then answer r .settingsBusy [] s else answer r .ok [] (s.setTare ⟨k, by omega⟩ tare)
    else answer r .badParam [] s

/-- Every line priced anew, then the total (R80). -/
def Ticket.reprice (st : Settings) (t : Ticket) : Ticket :=
  ({ t with lines := t.lines.map (Line.priceAnew st) } : Ticket).retotal

/-- The number of lines that carry UNPRICED (R80, R88). -/
def Ticket.unpricedCount (t : Ticket) : Nat := (t.lines.filter (·.unpriced)).length

/-- REPRICE's check on the ticket, and its acceptance (R79, R80). -/
def repriceOn (r : Req) (i : Slot) (t : Ticket) (s : State) : State :=
  if t.state = .atWindow ∨ t.marker.isSome then answer r .ticketBusy [] s
  else
    let t' := t.reprice s.settings
    answer r .ok
      (enc4 (t.number.getD 0) ++ enc1 t'.lines.length ++ enc1 t'.unpricedCount ++ enc2 s.settings.epoch ++
        enc5 t'.total ++ encFlag t'.totalClamped)
      (s.setSlot i (some t'))

/-- REPRICE names a ticket (R79). -/
def reprice (r : Req) (s : State) : State :=
  match decodeNumber r.data with
  | none => answer r .badParam [] s
  | some n => onTicket r n s fun i t => repriceOn r i t s

/-- SET_GRADE (R66). -/
def execSetGrade (s : State) : Host.Outcome State Fault Refusal := .next (serve 0x28 setGrade s)

/-- SWITCH_PRICES (R67). -/
def execSwitchPrices (s : State) : Host.Outcome State Fault Refusal := .next (serve 0x29 switchPrices s)

/-- GET_GRADE (R69). -/
def execGetGrade (s : State) : Host.Outcome State Fault Refusal := .next (serve 0x2A getGrade s)

/-- SET_CONTAINER (R68). -/
def execSetContainer (s : State) : Host.Outcome State Fault Refusal := .next (serve 0x2B setContainer s)

/-- REPRICE (R80). -/
def execReprice (s : State) : Host.Outcome State Fault Refusal := .next (serve 0x2C reprice s)

end Sys2Proof.Machine
end

