-- ==== Sys2Proof/Machine/Window.lean ====
section
/-! DEFINITION. Settlement at the window (chapter 5): REVIEW, RELEASE, PAY, DRAWER_KICK, GET_TALLY and the expiry of
a hold timer. -/

namespace Sys2Proof.Machine

/-- Some line of the ticket carries RESTRICTED (R72). -/
def Ticket.holdsRestricted (t : Ticket) : Bool := t.lines.any (·.restricted)

/-- Some line of the ticket carries UNPRICED (R91). -/
def Ticket.holdsUnpriced (t : Ticket) : Bool := t.lines.any (·.unpriced)

/-- The holder of a ticket at the window is a port other than `p`. -/
def Ticket.heldByOther (t : Ticket) (p : Port) : Bool :=
  t.state = .atWindow && t.window.any fun w => w.holder != p

/-! ### REVIEW (R86 to R88) -/

/-- A line as the REVIEW response shows it, with its index (R88). -/
def encReviewLine (x : Line × Nat) : List Byte :=
  enc1 (x.2 + 1) ++ enc1 x.1.grade.number ++ enc4 x.1.payable ++ encOpt enc4 x.1.price ++ enc5 x.1.amount ++
    x.1.encFlags

/-- The figures of a ticket as REVIEW returns them (R88). -/
def reviewResponse (s : State) (t : Ticket) : List Byte :=
  let step := s.settings.cashStep
  enc4 (t.number.getD 0) ++ t.kind.enc ++ encOpt encText t.seller ++ enc5 t.total ++ encFlag t.totalClamped ++
    enc5 step ++ enc5 (cashAmount t.total step) ++ enc5 (cashRounding t.total step) ++
    encFlag t.holdsRestricted ++ enc1 t.unpricedCount ++
    encOpt enc5 (t.seller.map s.allowance) ++ enc2 s.settings.holdTime ++ encList encReviewLine t.lines.zipIdx

/-- The ticket held by a port, its hold timer started with the hold time in force (R87). -/
def Ticket.hold (t : Ticket) (p : Port) (time : Nat) : Ticket :=
  { t with state := .atWindow, window := some { holder := p, hold := time } }

/-- The ticket returned to WEIGHED, its window part removed (R89, R90). -/
def Ticket.unhold (t : Ticket) : Ticket := { t with state := .weighed, window := none }

/-- REVIEW's checks on the ticket, and its acceptance (R86, R87). -/
def reviewOn (r : Req) (i : Slot) (t : Ticket) (s : State) : State :=
  if t.heldByOther r.port then answer r .ticketBusy [] s
  else if t.state ≠ .weighed ∧ t.state ≠ .atWindow then answer r .wrongState [] s
  else answer r .ok (reviewResponse s t) (s.setSlot i (some (t.hold r.port s.settings.holdTime)))

/-- REVIEW names a ticket (R86). -/
def review (r : Req) (s : State) : State :=
  match decodeNumber r.data with
  | none => answer r .badParam [] s
  | some n => onTicket r n s fun i t => reviewOn r i t s

/-! ### RELEASE and the hold timer (R89, R90) -/

/-- RELEASE's checks on the ticket, and its acceptance (R89). -/
def releaseOn (r : Req) (i : Slot) (t : Ticket) (s : State) : State :=
  if t.heldByOther r.port then answer r .ticketBusy [] s
  else if t.state ≠ .atWindow then answer r .wrongState [] s
  else answer r .ok (enc4 (t.number.getD 0)) (s.putTicket i t.unhold true)

/-- RELEASE names a ticket (R89). -/
def release (r : Req) (s : State) : State :=
  match decodeNumber r.data with
  | none => answer r .badParam [] s
  | some n => onTicket r n s fun i t => releaseOn r i t s

/-- A running hold timer expires: WEIGHED, WINDOW_EXPIRED at the former holder, TICKET_READY (R90). -/
def holdEnd (i : Slot) (s : State) : State :=
  match s.slots[i] with
  | none => s
  | some t =>
    match t.window with
    | none => s
    | some w => (s.putTicket i t.unhold true).latchAt .windowExpired w.holder

/-! ### PAY (R91 to R95) -/

/-- The checks of R91 on a found ticket. -/
def payRefusal (s : State) (p : Port) (t : Ticket) : Option OutcomeCode :=
  if t.heldByOther p then some .ticketBusy
  else if t.state ≠ .atWindow then some .wrongState
  else if t.holdsUnpriced then some .priceMissing
  else if t.totalClamped then some .amountRange
  else if t.seller.isNone ∧ (s.settings.anonThreshold < t.total ∨ t.holdsRestricted) then some .sellerRequired
  else none

/-- The checks of R92 on a cash payment; LIMIT carries the allowance. -/
def cashRefusal (s : State) (t : Ticket) : Option (OutcomeCode × List Byte) :=
  if t.holdsRestricted then some (.restricted, [])
  else if s.settings.cashLimit = 0 then some (.limit, enc5 0)
  else
    match t.seller with
    | none => none
    | some id =>
      if (s.tallyWay id).isNone ∧ (s.emptyWay id).isNone then some (.tallyFull, [])
      else if s.settings.cashLimit < s.tallyOf id + cashAmount t.total s.settings.cashStep then
        some (.limit, enc5 (s.allowance id))
      else none

/-- The effects of an accepted PAY (R94, R95): tally, totals, close record, slot, receipt, drawer. -/
def payEffects (p : Port) (i : Slot) (t : Ticket) (m : Method) (printer : Printer) (j : JobNo) (s : State) : State :=
  let figures := paidFigures m t.total s.settings.cashStep
  let record := closeRecordOf s t p (.paid m figures.1 figures.2)
  let n := t.number.getD 0
  let s :=
    match m, t.seller with
    | .cash, some id => s.tallyPayment id figures.1 n
    | _, _ => s
  let s := s.setTotals (s.totals.addPayment m figures.1 figures.2 t.lines)
  let s := (s.append (.close record)).setSlot i none
  let s := s.handOver j printer s.settings.receiptCopies false record
  match m with
  | .cash => s.kickDrawer printer
  | .cheque | .transfer => s

/-- What the PAY response carries; cash_today and the allowance left are an optional item, present for CASH with a
seller (R95, assumption 15). -/
def payResponse (s : State) (t : Ticket) (m : Method) (j : JobNo) : List Byte :=
  let figures := paidFigures m t.total s.settings.cashStep
  let tallied : Option Nat :=
    match m with
    | .cash => t.seller.map fun id => s.tallyOf id + figures.1
    | .cheque | .transfer => none
  enc4 (t.number.getD 0) ++ m.enc ++ enc5 figures.1 ++ enc5 figures.2 ++ enc1 j.val ++
    encOpt (fun c => enc5 c ++ enc5 (s.settings.cashLimit - c)) tallied

/-- The checks of R93, and the acceptance (R94, R95). -/
def settle (r : Req) (i : Slot) (t : Ticket) (m : Method) (s : State) : State :=
  if s.journalFull then answer r .journalFull [] s
  else
    match s.printerOf r.port 0 with
    | none => answer r .noPrinter [] s
    | some printer =>
      let figures := paidFigures m t.total s.settings.cashStep
      match s.roomFor false (closeRecordOf s t r.port (.paid m figures.1 figures.2)) with
      | none => answer r .spoolFull [] s
      | some j => answer r .ok (payResponse s t m j) (payEffects r.port i t m printer j s)

/-- PAY on a found ticket: the checks of R91, then of R92 for CASH, then of R93. -/
def payOn (r : Req) (i : Slot) (t : Ticket) (m : Method) (s : State) : State :=
  match payRefusal s r.port t with
  | some o => answer r o [] s
  | none =>
    match (if m = .cash then cashRefusal s t else none) with
    | some (o, d) => answer r o d s
    | none => settle r i t m s

/-- PAY names a ticket and a method (R91). -/
def pay (r : Req) (s : State) : State :=
  match decodePay r.data with
  | none => answer r .badParam [] s
  | some (n, m) => onTicket r n s fun i t => payOn r i t m s

/-! ### DRAWER_KICK and GET_TALLY (R97, R98) -/

/-- DRAWER_KICK: "started" 0 or "ignored" 1 (R97). -/
def drawerKick (r : Req) (s : State) : State :=
  match decodeNothing r.data with
  | none => answer r .badParam [] s
  | some _ =>
    match s.printerOf r.port 0 with
    | none => answer r .noPrinter [] s
    | some p => answer r .ok (if s.printers[p].train.isNone then [0] else [1]) (s.kickDrawer p)

/-- A found entry as GET_TALLY reports it, one optional item: way, cash_today, payouts_today, last_ticket (R98, assumption
15). -/
def encTallyEntry (x : Fin 4 × TallyEntry) : List Byte :=
  enc1 x.1.val ++ enc5 x.2.cashToday ++ enc1 x.2.payouts ++ enc4 x.2.lastTicket

/-- GET_TALLY names a seller ID of 1..16 printable characters (R98). -/
def getTally (r : Req) (s : State) : State :=
  match decodeText 16 r.data with
  | none => answer r .badParam [] s
  | some id =>
    if id.isEmpty ∨ holdsUnprintable id then answer r .badParam [] s
    else
      let id := id.map foldUpper
      let bucket := tallyBucket id
      let found := (s.tallyWay id).bind fun w => (s.tally[bucket][w]).map fun e => (w, e)
      answer r .ok
        (encText id ++ enc1 bucket.val ++ enc1 (s.emptyWays bucket) ++ encOpt encTallyEntry found ++
          enc5 (s.allowance id))
        s

/-- REVIEW (R86 to R88). -/
def execReview (s : State) : Host.Outcome State Fault Refusal := .next (serve 0x30 review s)

/-- RELEASE (R89). -/
def execRelease (s : State) : Host.Outcome State Fault Refusal := .next (serve 0x31 release s)

/-- PAY (R91 to R95). -/
def execPay (s : State) : Host.Outcome State Fault Refusal := .next (serve 0x32 pay s)

/-- DRAWER_KICK (R97). -/
def execDrawerKick (s : State) : Host.Outcome State Fault Refusal := .next (serve 0x33 drawerKick s)

/-- GET_TALLY (R98). -/
def execGetTally (s : State) : Host.Outcome State Fault Refusal := .next (serve 0x34 getTally s)

/-- HOLD_TIMER_EXPIRY (R90). -/
def execHoldTimerExpiry (i : Slot) (s : State) : Host.Outcome State Fault Refusal :=
  .next (whileTaking (holdEnd i) s)

end Sys2Proof.Machine
end

