-- ==== Sys2Proof/Machine/Tickets.lean ====
section
/-! DEFINITION. The Ticket Table's own requests (chapter 2): SET_SELLER, SET_PLATE, VOID, GET_TICKET, LIST_TICKETS. -/

namespace Sys2Proof.Machine

/-! ### Seller and plate (R39, R40) -/

/-- SET_SELLER by role and ticket state (R39): `none` where the request is taken. -/
def sellerRefusal (role : Role) (p : Port) (t : Ticket) : Option OutcomeCode :=
  if role = .payout then
    if t.state ≠ .atWindow then some .wrongState else if t.heldByOther p then some .ticketBusy else none
  else if t.state = .atWindow ∨ t.marker.isSome then some .ticketBusy
  else none

/-- SET_SELLER on a found ticket (R39). -/
def setSellerOn (r : Req) (i : Slot) (t : Ticket) (id : Text) (s : State) : State :=
  match sellerRefusal s.ports[r.port].role r.port t with
  | some o => answer r o [] s
  | none => answer r .ok [] (s.setSlot i (some { t with seller := orAbsent (id.map foldUpper) }))

/-- SET_SELLER names a ticket and an ID of 0..16 characters (R39). -/
def setSeller (r : Req) (s : State) : State :=
  match decodeNumberText 16 r.data with
  | none => answer r .badParam [] s
  | some (n, id) =>
    if holdsUnprintable id then answer r .badParam [] s else onTicket r n s fun i t => setSellerOn r i t id s

/-- SET_PLATE on a found ticket (R40). -/
def setPlateOn (r : Req) (i : Slot) (t : Ticket) (plate : Text) (s : State) : State :=
  if t.state = .atWindow ∨ t.marker.isSome then answer r .ticketBusy [] s
  else answer r .ok [] (s.setSlot i (some { t with plate := orAbsent plate }))

/-- SET_PLATE names a ticket and a plate of 0..10 characters (R40). -/
def setPlate (r : Req) (s : State) : State :=
  match decodeNumberText 10 r.data with
  | none => answer r .badParam [] s
  | some (n, plate) =>
    if holdsUnprintable plate then answer r .badParam [] s else onTicket r n s fun i t => setPlateOn r i t plate s

/-! ### VOID (R36, R37, R128) -/

/-- The abandonment of a capture in flight: the channel's record is deleted and the marker's port answered NO_TICKET
with the marker's TAG (R18, R37). -/
def abandonMarker (i : Slot) (t : Ticket) (s : State) : State :=
  match t.marker with
  | none => s
  | some m => (abandonCapture m.channel i s).answerMarker m .noTicket []

/-- The job a void slip takes: alias 0 names a printer, and the spool has the pages and a number (R128). -/
def slipPlace (s : State) (p : Port) (record : CloseRecord) : Option (Printer × JobNo) :=
  match s.printerOf p 0 with
  | none => none
  | some printer => (s.roomFor false record).map fun j => (printer, j)

/-- An accepted VOID (R37): abandonment, close record and totals, slip, slot. -/
def voidEffects (p : Port) (i : Slot) (t : Ticket) (reason : Nat) (s : State) : State :=
  let record := closeRecordOf s t p (.voided reason)
  let place := slipPlace s p record
  let s := abandonMarker i t s
  let s := (s.append (.close record)).setTotals s.totals.addVoid
  let s :=
    match place with
    | none => s
    | some (printer, j) => s.handOver j printer 1 false record
  s.setSlot i none

/-- VOID's checks on a found ticket, and its acceptance (R36, R37). -/
def voidOn (r : Req) (i : Slot) (t : Ticket) (reason : Nat) (s : State) : State :=
  if t.state = .atWindow then answer r .ticketBusy [] s
  else if s.journalFull then answer r .journalFull [] s
  else
    let slip := (slipPlace s r.port (closeRecordOf s t r.port (.voided reason))).map fun x => x.2
    answer r .ok (enc4 (t.number.getD 0) ++ encOpt (fun j : JobNo => enc1 j.val) slip)
      (voidEffects r.port i t reason s)

/-- VOID names a ticket and a reason 1..15 (R36). -/
def void (r : Req) (s : State) : State :=
  match decodeNumberOne r.data with
  | none => answer r .badParam [] s
  | some (n, reason) =>
    if 1 ≤ reason ∧ reason ≤ 15 then onTicket r n s fun i t => voidOn r i t reason s else answer r .badParam [] s

/-! ### GET_TICKET and LIST_TICKETS (R41, R42) -/

/-- The hold time remaining, in whole seconds: the model leaves it open, within the time the timer was given
(FREE VALUE, assumption 1). -/
def holdRemaining (s : State) (w : Window) : Nat := min (Config.freeHoldRemaining s.freeReads) w.hold

/-- Part 0 of a ticket (R41): the marker's kind and channel are one optional item, holder and hold time one each
(assumption 15). -/
def encTicketSummary (s : State) (t : Ticket) : List Byte :=
  enc4 (t.number.getD 0) ++ t.kind.enc ++ t.state.enc ++ enc1 t.openedBy.val ++ encOpt enc4 t.openedAt ++
    encOpt encText t.seller ++ encOpt encText t.plate ++ enc1 t.weighings.length ++ enc1 t.lines.length ++
    enc5 t.total ++ encFlag t.totalClamped ++
    encOpt (fun m : Marker => m.purpose.kind.enc ++ enc1 m.channel.val) t.marker ++
    encOpt (fun w : Window => enc1 w.holder.val) t.window ++
    encOpt (fun w : Window => enc2 (holdRemaining s w)) t.window

/-- The named part of a ticket (R41). -/
def encTicketPart (s : State) (t : Ticket) (part : Nat) : List Byte :=
  match part with
  | 0 => encTicketSummary s t
  | 1 => encList Weighing.enc t.weighings
  | 2 => encLowerLines t.lines
  | _ => encUpperLines t.lines

/-- A free value has been read where part 0 reports a hold time (assumption 1). -/
def State.countFreeRead (s : State) (t : Ticket) (part : Nat) : State :=
  if part = 0 ∧ t.window.isSome then { s with freeReads := s.freeReads + 1 } else s

/-- GET_TICKET names a ticket and a part 0..3 (R41). -/
def getTicket (r : Req) (s : State) : State :=
  match decodeNumberOne r.data with
  | none => answer r .badParam [] s
  | some (n, part) =>
    if part ≤ 3 then
      onTicket r n s fun _ t => answer r .ok (encTicketPart s t part) (s.countFreeRead t part)
    else answer r .badParam [] s

/-- The occupied slots from a first slot upward, in slot order (R42). -/
def State.occupiedFrom (s : State) (first : Nat) : List (Slot × Ticket) :=
  (List.finRange 48).filterMap fun i => if first ≤ i.val then (s.slots[i]).map fun t => (i, t) else none

/-- An entry of LIST_TICKETS: slot, number or absent, state, kind (R42). -/
def encListed (x : Slot × Ticket) : List Byte :=
  enc1 x.1.val ++ encOpt enc4 x.2.number ++ x.2.state.enc ++ x.2.kind.enc

/-- The LIST_TICKETS response: at most 24 slots, and the slot to ask for next where more remain (R42). -/
def listResponse (s : State) (first : Nat) : List Byte :=
  let all := s.occupiedFrom first
  let listed := all.take 24
  let next : Option Nat := if 24 < all.length then listed.getLast?.map fun x => x.1.val + 1 else none
  encList encListed listed ++ encOpt enc1 next

/-- LIST_TICKETS names a first slot 0..47 (R42). -/
def listTickets (r : Req) (s : State) : State :=
  match decodeOne r.data with
  | none => answer r .badParam [] s
  | some first =>
    if first ≤ 47 then answer r .ok (listResponse s first) s else answer r .badParam [] s

/-- SET_SELLER (R39). -/
def execSetSeller (s : State) : Host.Outcome State Fault Refusal := .next (serve 0x16 setSeller s)

/-- SET_PLATE (R40). -/
def execSetPlate (s : State) : Host.Outcome State Fault Refusal := .next (serve 0x17 setPlate s)

/-- VOID (R36, R37). -/
def execVoid (s : State) : Host.Outcome State Fault Refusal := .next (serve 0x18 void s)

/-- GET_TICKET (R41). -/
def execGetTicket (s : State) : Host.Outcome State Fault Refusal := .next (serve 0x19 getTicket s)

/-- LIST_TICKETS (R42). -/
def execListTickets (s : State) : Host.Outcome State Fault Refusal := .next (serve 0x1A listTickets s)

end Sys2Proof.Machine
end

