-- ==== Sys2Proof/Machine/Journal.lean ====
section
/-! DEFINITION. Journal, day totals and day close (chapter 6): JOURNAL_PEEK, JOURNAL_POP, GET_TOTALS, DAY_CLOSE; and
REPRINT (chapter 7, R129). -/

namespace Sys2Proof.Machine

/-- JOURNAL_PEEK names a part 0..3 of the head record (R105). -/
def journalPeek (r : Req) (s : State) : State :=
  match decodeOne r.data with
  | none => answer r .badParam [] s
  | some part =>
    if part ≤ 3 then
      match s.journal with
      | [] => answer r .journalEmpty [] s
      | head :: _ => answer r .ok (enc1 s.journal.length ++ head.encPart part) s
    else answer r .badParam [] s

/-- A record is of the named kind and has the named key (R104). -/
def Record.matchesKey (x : Record) (dayEnd : Bool) (key : Nat) : Bool :=
  match x with
  | .close c => !dayEnd && c.number = key
  | .dayEnd d => dayEnd && d.day = key

/-- JOURNAL_POP on a journal (R106). -/
def popHead (r : Req) (dayEnd : Bool) (key : Nat) (s : State) : State :=
  match s.journal with
  | [] => answer r .journalEmpty [] s
  | head :: rest =>
    if head.matchesKey dayEnd key then
      answer r .ok (head.encKey ++ enc1 rest.length) { s with journal := rest }
    else answer r .wrongState head.encKey s

/-- JOURNAL_POP names a record kind and a key within the range of that kind (R106). -/
def journalPop (r : Req) (s : State) : State :=
  match decodePop r.data with
  | none => answer r .badParam [] s
  | some (dayEnd, key) =>
    if 1 ≤ key ∧ key ≤ (if dayEnd then 65535 else Config.maxTicketNumber) then popHead r dayEnd key s
    else answer r .badParam [] s

/-- The overall totals as GET_TOTALS reports them for grade 0 (R111). -/
def encOverall (s : State) : List Byte :=
  enc2 s.day ++ s.totals.paid.enc ++ s.totals.voided.enc ++ s.totals.cash.enc ++ s.totals.nonCash.enc ++
    s.totals.rounding.enc ++ encFlag s.totals.gradeSaturated

/-- One grade's totals as GET_TOTALS reports them (R111). -/
def encGradeTotals (s : State) (g : GradeIx) : List Byte :=
  let t := s.totals.grades[g]
  enc2 s.day ++ enc1 g.number ++ t.weight.enc ++ t.amount.enc ++ t.count.enc

/-- GET_TOTALS names a grade 0..64 (R111). -/
def getTotals (r : Req) (s : State) : State :=
  match decodeOne r.data with
  | none => answer r .badParam [] s
  | some g =>
    if h : g ≤ 64 then
      if h0 : g = 0 then answer r .ok (encOverall s) s
      else answer r .ok (encGradeTotals s ⟨g - 1, by omega⟩) s
    else answer r .badParam [] s

/-- Some ticket is AT_WINDOW (R113). -/
def State.anyAtWindow (s : State) : Bool := s.slots.toList.any fun x => x.any fun t => t.state = .atWindow

/-- The day number after a day (R112). -/
def nextDay (d : Nat) : Nat := if d = 65535 then 1 else d + 1

/-- The DAY_END record of the day being closed (R103). -/
def dayEndRecord (s : State) (p : Port) : DayEndRecord :=
  { day := s.day, closingPort := p, closeTime := s.clock, paid := s.totals.paid.value,
    voided := s.totals.voided.value, cash := s.totals.cash.value, nonCash := s.totals.nonCash.value,
    rounding := s.totals.rounding.value, saturated := s.totals.saturated }

/-- An accepted DAY_CLOSE (R114). -/
def closeDay (p : Port) (s : State) : State :=
  { s with
    journal := s.journal ++ [.dayEnd (dayEndRecord s p)], totals := .zero, tally := emptyTally, day := nextDay s.day }

/-- DAY_CLOSE takes no parameters (R113, R114). -/
def dayClose (r : Req) (s : State) : State :=
  match decodeNothing r.data with
  | none => answer r .badParam [] s
  | some _ =>
    if s.anyAtWindow then answer r .wrongState [] s
    else if s.journalFull then answer r .journalFull [] s
    else answer r .ok (enc2 s.day ++ enc2 (nextDay s.day) ++ enc1 (s.journal.length + 1)) (closeDay r.port s)

/-- REPRINT of a record found in the journal (R129). -/
def reprintOn (r : Req) (record : CloseRecord) (s : State) : State :=
  match s.printerOf r.port 0 with
  | none => answer r .noPrinter [] s
  | some printer =>
    let lines := lineCount s.settings true record
    match s.roomFor true record with
    | none => answer r .spoolFull [] s
    | some j =>
      answer r .ok
        (enc4 record.number ++ record.closing.enc ++ enc1 lines ++ enc1 (pagesNeeded lines) ++ enc1 j.val)
        (s.handOver j printer 1 true record)

/-- REPRINT names a ticket number (R129). -/
def reprint (r : Req) (s : State) : State :=
  match decodeNumber r.data with
  | none => answer r .badParam [] s
  | some n =>
    if numberInRange n then
      match s.findClose n with
      | none => answer r .noTicket [] s
      | some record => reprintOn r record s
    else answer r .badParam [] s

/-- JOURNAL_PEEK (R105). -/
def execJournalPeek (s : State) : Host.Outcome State Fault Refusal := .next (serve 0x38 journalPeek s)

/-- JOURNAL_POP (R106). -/
def execJournalPop (s : State) : Host.Outcome State Fault Refusal := .next (serve 0x39 journalPop s)

/-- GET_TOTALS (R111). -/
def execGetTotals (s : State) : Host.Outcome State Fault Refusal := .next (serve 0x3A getTotals s)

/-- DAY_CLOSE (R114). -/
def execDayClose (s : State) : Host.Outcome State Fault Refusal := .next (serve 0x3B dayClose s)

/-- REPRINT (R129). -/
def execReprint (s : State) : Host.Outcome State Fault Refusal := .next (serve 0x3C reprint s)

end Sys2Proof.Machine
end

