-- ==== Sys2Proof/Machine/Ports.lean ====
section
/-! DEFINITION. Station ports (chapter 10): the frame receiver, the judging of frames, the transmitter, the event
requests GET_EVENTS, ACK_EVENTS and SET_MASK, and SET_ALIAS. -/

namespace Sys2Proof.Machine

/-! ### The request code table (10.9.2) -/

def rolesSPO : List Role := [.scale, .payout, .office]

def rolesSO : List Role := [.scale, .office]

def rolesPO : List Role := [.payout, .office]

def rolesP : List Role := [.payout]

def rolesO : List Role := [.office]

/-- Every request code, with the roles it is permitted to. -/
def requestTable : List (Byte × List Role) :=
  [(0x01, rolesSPO), (0x02, rolesSPO), (0x03, rolesSPO), (0x04, rolesO)] ++
  [(0x10, rolesSO), (0x11, rolesSO), (0x12, rolesSO), (0x13, rolesSO), (0x14, rolesSO), (0x15, rolesSO),
    (0x16, rolesSPO), (0x17, rolesSO), (0x18, rolesO), (0x19, rolesSPO), (0x1A, rolesSPO)] ++
  [(0x20, rolesSPO), (0x21, rolesSO)] ++
  [(0x28, rolesO), (0x29, rolesO), (0x2A, rolesSPO), (0x2B, rolesO), (0x2C, rolesO)] ++
  [(0x30, rolesP), (0x31, rolesP), (0x32, rolesP), (0x33, rolesP), (0x34, rolesPO)] ++
  [(0x38, rolesO), (0x39, rolesO), (0x3A, rolesO), (0x3B, rolesO), (0x3C, rolesPO)] ++
  [(0x40, rolesSPO), (0x41, rolesSPO), (0x42, rolesSPO), (0x43, rolesSPO), (0x44, rolesSPO), (0x45, rolesSPO),
    (0x46, rolesSPO)] ++
  [(0x48, rolesO), (0x49, rolesO), (0x4A, rolesO), (0x4B, rolesSPO)] ++
  [(0x50, rolesO), (0x51, rolesO), (0x52, rolesO), (0x53, rolesO), (0x54, rolesO), (0x55, rolesO), (0x56, rolesO)]

/-- The roles a CODE is permitted to; `none` for a CODE that is not in the table. -/
def rolesFor (code : Byte) : Option (List Role) := (requestTable.find? fun x => x.1 == code).map (·.2)

/-! ### Receiving frames (R167 to R169) -/

/-- A bad frame: the count rises, up to 255, and LINK_ERROR is latched at the port (R168). -/
def StationPort.badFrame (x : StationPort) : StationPort :=
  ({ x with badFrames := min 255 (x.badFrames + 1) } : StationPort).latch .linkError

/-- A good frame at a port: the first check of R169 that applies gives a port-level answer, and otherwise the
frame becomes the pending request. -/
def StationPort.goodFrame (x : StationPort) (tag code : Byte) (data : List Byte) : StationPort :=
  if x.request.isSome then x.answerAtPort { tag := tag, code := code, outcome := .busy, data := [] }
  else
    match rolesFor code with
    | none => x.answerAtPort { tag := tag, code := code, outcome := .unknownRequest, data := [] }
    | some roles =>
      if roles.contains x.role then
        { x with request := some { tag := tag, code := code, data := data, phase := .waiting } }
      else x.answerAtPort { tag := tag, code := code, outcome := .roleDenied, data := [] }

/-- A frame is good when LEN lies in 2..240 and the sum of LEN through CHECK is 0 (R167). `rest` is everything
after LEN. -/
def frameGood (len : Byte) (rest : List Byte) : Bool :=
  decide (2 ≤ len.toNat) && decide (len.toNat ≤ 240) && byteSum (len :: rest) == 0

/-- A complete frame is judged; `rest` is its body and its CHECK (R167). -/
def StationPort.judgeFrame (x : StationPort) (len : Byte) (rest : List Byte) : StationPort :=
  if frameGood len rest then
    match rest.dropLast with
    | tag :: code :: data => x.goodFrame tag code data
    | _ => x
  else x.badFrame

/-- A byte at a port's receiver (R167). -/
def StationPort.takeByte (x : StationPort) (b : Byte) : StationPort :=
  if x.role = .off then x
  else
    match x.receiver with
    | .hunt => if b = Config.sync then { x with receiver := .length } else x
    | .length => { x with receiver := .body b [] (b.toNat + 1) }
    | .body len held expected =>
      if expected ≤ 1 then ({ x with receiver := .hunt } : StationPort).judgeFrame len (held ++ [b])
      else { x with receiver := .body len (held ++ [b]) (expected - 1) }

/-- A byte on a port's receive line; a request that has become WAITING may be granted (R167, R172). -/
def portByte (p : Port) (b : Byte) (s : State) : State := (s.setPort p (s.ports[p].takeByte b)).arbitrate

/-- The gap timer expires in LENGTH or BODY: the partial frame is bad, and the receiver hunts (R167, R168). -/
def StationPort.gapEnd (x : StationPort) : StationPort :=
  match x.receiver with
  | .hunt => x
  | .length | .body .. => ({ x with receiver := .hunt } : StationPort).badFrame

def portGap (p : Port) (s : State) : State := s.setPort p s.ports[p].gapEnd

/-! ### Sending responses (R171) -/

/-- A frame that carries the OK of RESTART or COLD_CLEAR, after which the start follows (R187). -/
def Response.callsStart (r : Response) : Bool := r.outcome = .ok && (r.code = 0x55 || r.code = 0x56)

/-- The frame at the head of a port's queue has been sent in full: it leaves the queue, and the next grant follows;
after the OK of RESTART or COLD_CLEAR the start may come (R171, R172, R187). -/
def responseSent (p : Port) (s : State) : State :=
  match s.ports[p].output with
  | [] => s
  | r :: rest =>
    let s := s.setPort p { s.ports[p] with output := rest }
    let s : State :=
      if r.callsStart then { s with pendingStart := s.pendingStart.map fun x => { x with sent := true } } else s
    s.arbitrate

/-! ### Events (R174 to R176) -/

/-- START data as GET_EVENTS reports it, one optional item: the start kind and whether the settings were defaulted (R176,
assumption 15). -/
def StartData.enc (d : StartData) : List Byte := d.kind.enc ++ encFlag d.defaulted

/-- The port's own state as GET_EVENTS reports it (R176). -/
def encEventState (x : StationPort) (records : Nat) : List Byte :=
  encEvents x.latched ++ encEvents (levelEvents x.role records) ++ encEvents x.mask ++
    encOpt StartData.enc x.startData ++ enc1 x.badFrames

/-- GET_EVENTS takes no data and changes nothing (R176). -/
def getEvents (r : Req) (s : State) : State :=
  match decodeNothing r.data with
  | none => answer r .badParam [] s
  | some _ => answer r .ok (encEventState s.ports[r.port] s.journal.length) s

/-- The named latched events cleared, START taking its data with it (R176). -/
def StationPort.acknowledge (x : StationPort) (e : EventSet) : StationPort :=
  { x with
    latched := x.latched &&& ~~~e
    startData := if e &&& Event.start.set = 0 then x.startData else none }

/-- ACK_EVENTS gives a set of events (R176). -/
def ackEvents (r : Req) (s : State) : State :=
  match decodeEvents r.data with
  | none => answer r .badParam [] s
  | some e =>
    if namesEventsOnly e then
      answer r .ok (encEvents (s.ports[r.port].acknowledge e).latched)
        (s.setPort r.port (s.ports[r.port].acknowledge e))
    else answer r .badParam [] s

/-- SET_MASK gives the set that replaces the port's own mask (R175). -/
def setMask (r : Req) (s : State) : State :=
  match decodeEvents r.data with
  | none => answer r .badParam [] s
  | some e =>
    if namesEventsOnly e then answer r .ok (encEvents e) (s.setPort r.port { s.ports[r.port] with mask := e })
    else answer r .badParam [] s

/-! ### Aliases (R177) -/

/-- One alias entry replaced in the working settings (R177). -/
def State.setAliasEntry (s : State) (p : Port) (entry : Fin 4) (printer : Option Printer) : State :=
  { s with
    settings :=
      { s.settings with
        printersOf := s.settings.printersOf.set p (s.settings.printersOf[p].set entry printer) } }

/-- The printer a printer-or-none value names, 0..2 or none; `none` outside the range. -/
def printerValue : Option Nat → Option (Option Printer)
  | none => some none
  | some k => if h : k < 3 then some (some ⟨k, h⟩) else none

/-- SET_ALIAS names a port, an entry, and a printer or none (R177). -/
def setAlias (r : Req) (s : State) : State :=
  match decodeSetAlias r.data with
  | none => answer r .badParam [] s
  | some (p, entry, printer) =>
    match printerValue printer with
    | none => answer r .badParam [] s
    | some printer =>
      if h : p < 4 ∧ entry < 4 then
        if s.save.isSome then answer r .settingsBusy [] s
        else
          let s' := s.setAliasEntry ⟨p, h.1⟩ ⟨entry, h.2⟩ printer
          answer r .ok (encEntries s'.settings.printersOf[p]) s'
      else answer r .badParam [] s

/-! ### The commands -/

/-- GET_EVENTS (R176). -/
def execGetEvents (s : State) : Host.Outcome State Fault Refusal := .next (serve 0x01 getEvents s)

/-- ACK_EVENTS (R176). -/
def execAckEvents (s : State) : Host.Outcome State Fault Refusal := .next (serve 0x02 ackEvents s)

/-- SET_MASK (R175). -/
def execSetMask (s : State) : Host.Outcome State Fault Refusal := .next (serve 0x03 setMask s)

/-- SET_ALIAS (R177). -/
def execSetAlias (s : State) : Host.Outcome State Fault Refusal := .next (serve 0x04 setAlias s)

/-- PORT_BYTE_RECEIVED (R167 to R169, R172). -/
def execPortByteReceived (p : Port) (b : Byte) (s : State) : Host.Outcome State Fault Refusal :=
  .next (whileTaking (portByte p b) s)

/-- PORT_GAP_EXPIRY (R167, R168). -/
def execPortGapExpiry (p : Port) (s : State) : Host.Outcome State Fault Refusal := .next (whileTaking (portGap p) s)

/-- RESPONSE_SENT (R171, R172, R187). -/
def execResponseSent (p : Port) (s : State) : Host.Outcome State Fault Refusal :=
  .next (whileTaking (responseSent p) s)

end Sys2Proof.Machine
end

