-- ==== Sys2Proof/Machine/Printers.lean ====
section
/-! DEFINITION. The events of the printer links and drawers (chapter 9): PRINTER_FRAME_END, BACKOFF_EXPIRY,
CLOCK_LINE_LOW, CLOCK_LINE_RELEASE, INHIBIT_TIMER_EXPIRY, DRAWER_PHASE_EXPIRY. -/

namespace Sys2Proof.Machine

/-- A frame reaches the end of its answer period (R154); the answer of a frame completed after a flush is not
acted on, and the engine rests (R159). -/
def frameEnd (p : Printer) (a : Answer) (s : State) : State :=
  let e := s.printers[p]
  if e.frame.isNone then s
  else if e.dropping then s.restEngine p
  else
    match a with
    | .accepted => s.byteAccepted p
    | .refused => s.byteRefused p

/-- The backoff timer expires: the refused byte's frame begins again (R154). -/
def backoffEnd (p : Printer) (s : State) : State :=
  let e := s.printers[p]
  if e.backoff.isNone then s else (s.setEngine p { e with backoff := none }).beginFrame p

/-- A frame pulled low before its parity period is aborted: a dropping engine rests; otherwise the engine is
INHIBITED with its byte pending (R156, R159). -/
def abortFrame (p : Printer) (s : State) : State :=
  let e := s.printers[p]
  if e.dropping then s.restEngine p
  else
    (s.setEngine p
      { e with frame := none, state := .inhibited, inhibit := some s.settings.inhibitLimit }).turnToCut p

/-- The printer pulls the clock low while the part takes its lines: a frame in periods 1 to 10 is aborted, one in
periods 11 to 13 runs on, and without a frame nothing follows (R155, R156). -/
def clockPulled (p : Printer) (period : Nat) (s : State) : State :=
  let e := s.printers[p]
  if e.frame.isNone then s
  else if period ≤ 10 then abortFrame p s
  else s.setEngine p { e with frame := some period }

/-- The printer releases the clock: an INHIBITED engine returns to SENDING and begins its frame (R157). -/
def clockReleased (p : Printer) (s : State) : State :=
  let e := s.printers[p]
  if e.state = .inhibited then (s.setEngine p { e with state := .sending, inhibit := none }).beginFrame p else s

/-- The level of the clock line pin. -/
def State.setClockLine (s : State) (p : Printer) (low : Bool) : State :=
  s.setEngine p { s.printers[p] with clockLow := low }

/-- CLOCK_LINE_LOW: the pin's level stands whatever the part does; a line already low is no change. -/
def clockLow (p : Printer) (period : Nat) (s : State) : State :=
  if s.printers[p].clockLow then s else whileTaking (clockPulled p period) (s.setClockLine p true)

/-- CLOCK_LINE_RELEASE: likewise for the release. -/
def clockRelease (p : Printer) (s : State) : State :=
  if s.printers[p].clockLow then whileTaking (clockReleased p) (s.setClockLine p false) else s

/-- The inhibit timer expires with the clock still held low: the engine halts (R157). -/
def inhibitEnd (p : Printer) (s : State) : State :=
  let e := s.printers[p]
  if e.state = .inhibited ∧ e.inhibit.isSome then s.haltEngine p .inhibitTimeout else s

/-- A drawer train's phase timer expires (R163). -/
def drawerPhaseEnd (p : Printer) (s : State) : State :=
  let e := s.printers[p]
  match e.train with
  | none => s
  | some t => s.setEngine p { e with train := t.nextPhase }

/-- PRINTER_FRAME_END (R154). -/
def execPrinterFrameEnd (p : Printer) (a : Answer) (s : State) : Host.Outcome State Fault Refusal :=
  .next (whileTaking (frameEnd p a) s)

/-- BACKOFF_EXPIRY (R154). -/
def execBackoffExpiry (p : Printer) (s : State) : Host.Outcome State Fault Refusal :=
  .next (whileTaking (backoffEnd p) s)

/-- CLOCK_LINE_LOW (R155, R156). -/
def execClockLineLow (p : Printer) (period : Nat) (s : State) : Host.Outcome State Fault Refusal :=
  .next (clockLow p period s)

/-- CLOCK_LINE_RELEASE (R157). -/
def execClockLineRelease (p : Printer) (s : State) : Host.Outcome State Fault Refusal := .next (clockRelease p s)

/-- INHIBIT_TIMER_EXPIRY (R157, R160). -/
def execInhibitTimerExpiry (p : Printer) (s : State) : Host.Outcome State Fault Refusal :=
  .next (whileTaking (inhibitEnd p) s)

/-- DRAWER_PHASE_EXPIRY (R163). -/
def execDrawerPhaseExpiry (p : Printer) (s : State) : Host.Outcome State Fault Refusal :=
  .next (whileTaking (drawerPhaseEnd p) s)

end Sys2Proof.Machine
end

