-- ==== Sys2Proof/Machine/Scales.lean ====
section
/-! DEFINITION. Scale channels and deck interlock (chapter 1): message intake, stability, freshness, beams,
captures, READ_SCALE and CLEAR_SCALE_FAULT. -/

namespace Sys2Proof.Machine

/-! ### Messages (1.3) -/

/-- A decimal digit character, and its value. -/
def digitValue (b : Byte) : Option Nat := if 0x30 ≤ b.toNat ∧ b.toNat ≤ 0x39 then some (b.toNat - 0x30) else none

/-- A capital hexadecimal character, and its value; small letters are not valid (R4). -/
def hexValue (b : Byte) : Option Nat :=
  if 0x41 ≤ b.toNat ∧ b.toNat ≤ 0x46 then some (b.toNat - 0x37) else digitValue b

/-- The decimal number that digit characters spell. -/
def decimalValue (bs : List Byte) : Option Nat :=
  bs.foldl (fun acc b => acc.bind fun n => (digitValue b).map fun d => n * 10 + d) (some 0)

/-- The status a letter stands for (10.9.5). -/
def statusOf (b : Byte) : Option Status :=
  if b = 0x53 then some .stable
  else if b = 0x4D then some .motion
  else if b = 0x4F then some .overload
  else if b = 0x55 then some .underload
  else if b = 0x45 then some .error
  else none

/-- Whether a sign character makes the weight negative (10.9.5). -/
def signOf (b : Byte) : Option Bool := if b = 0x2B then some false else if b = 0x2D then some true else none

/-- The status and signed weight of a good message, from the eleven bytes between its marks and the byte in the
end mark position; `none` for a bad one (R4). -/
def judgeMessage (held : List Byte) (last : Byte) : Option (Status × Int) :=
  match held with
  | st :: sg :: rest =>
    match statusOf st, signOf sg, decimalValue (rest.take 7), rest.drop 7 with
    | some status, some negative, some w, [hi, lo] =>
      match hexValue hi, hexValue lo with
      | some h, some l =>
        if last = Config.endMark ∧ h * 16 + l = (byteSum (held.take 9)).toNat then
          some (status, if negative then -(w : Int) else w)
        else none
      | _, _ => none
    | _, _, _, _ => none
  | _ => none

/-! ### Faults and freshness (R5, R9, R11) -/

/-- SCALE_FAULT at every SCALE and OFFICE port (R11). -/
def State.scaleFault (s : State) : State := s.latchRoles .scaleFault [.scale, .office]

/-- A channel enters FAULT or NO_SIGNAL from another state: run 0, freshness stopped, SCALE_FAULT latched, and a
capture in flight fails with SCALE_FAULT (R5, R9, R17). -/
def leaveSignal (c : Chan) (next : ChannelState) (s : State) : State :=
  let ch := s.channels[c]
  endCapture c .scaleFault ((s.setChannel c { ch with state := next, run := 0, freshness := none }).scaleFault)

/-- A bad message adds 1 to the error count, up to 255, and at the threshold takes the channel to FAULT (R5). -/
def badMessage (c : Chan) (s : State) : State :=
  let ch := s.channels[c]
  let count := min 255 (ch.errorCount + 1)
  let s := s.setChannel c { ch with errorCount := count }
  if s.settings.channels[c].errorThreshold ≤ count ∧ ch.state ≠ .fault then leaveSignal c .fault s else s

/-! ### Stability (R6 to R8) and captures (R16) -/

/-- Ref and run after a reading in range of status S or M (R8). -/
def stabilize (st : ChannelSettings) (status : Status) (w : Int) (ch : Channel) : Channel :=
  if status = .stable then
    if (w - ch.ref).natAbs ≤ st.motionBand * st.division then { ch with run := min 255 (ch.run + 1) }
    else { ch with ref := w, run := 1 }
  else { ch with ref := w, run := 0 }

/-- A rounded reading is in range: its status is S or M and its weight lies in 0..capacity (R7). -/
def readingInRange (st : ChannelSettings) (status : Status) (w : Int) : Bool :=
  (status == .stable || status == .motion) && decide (0 ≤ w) && decide (w ≤ st.capacity)

/-- A channel after a good message taken in NO_SIGNAL, MOVING, STABLE or OVER, its weight rounded (R7, R8, R9). -/
def Channel.takeReading (st : ChannelSettings) (status : Status) (w : Int) (ch : Channel) : Channel :=
  let ch := { ch with freshness := some st.freshness, lastReading := some { status := status, weight := w } }
  if readingInRange st status w then
    let ch := stabilize st status w ch
    { ch with state := if st.stableCount ≤ ch.run then .stable else .moving }
  else { ch with state := .over, run := 0 }

/-- A good message: nothing in FAULT (R10); otherwise the reading is taken, and a capture in flight ends if the
state is then STABLE with both debounced beams CLEAR (R7, R16). -/
def goodMessage (c : Chan) (status : Status) (weight : Int) (s : State) : State :=
  let st := s.settings.channels[c]
  let w := roundWeight st.division weight
  if s.channels[c].state = .fault then s
  else
    let ch := s.channels[c].takeReading st status w
    let s := s.setChannel c ch
    if ch.state = .stable ∧ ch.beamsClear then
      endCapture c (if (st.minimum * st.division : Nat) ≤ w then .ok w.toNat else .belowMinimum) s
    else s

/-- A byte of a scale feed (R3). A start mark in any position after the first, the end mark position included,
makes the bytes so far a bad message and begins a new one (assumption 8). -/
def scaleByte (c : Chan) (b : Byte) (s : State) : State :=
  let ch := s.channels[c]
  match ch.receiver with
  | .idle => if b = Config.startMark then s.setChannel c { ch with receiver := .assembling [] } else s
  | .assembling held =>
    if b = Config.startMark then badMessage c (s.setChannel c { ch with receiver := .assembling [] })
    else if held.length < 11 then s.setChannel c { ch with receiver := .assembling (held ++ [b]) }
    else
      let s := s.setChannel c { ch with receiver := .idle }
      match judgeMessage held b with
      | some (status, w) => goodMessage c status w s
      | none => badMessage c s

/-- The receiver's gap timer expires: the partial message is bad and the receiver returns to IDLE (R3). -/
def scaleGap (c : Chan) (s : State) : State :=
  let ch := s.channels[c]
  match ch.receiver with
  | .idle => s
  | .assembling _ => badMessage c (s.setChannel c { ch with receiver := .idle })

/-- The freshness timer expires in MOVING, STABLE or OVER: NO_SIGNAL (R9). -/
def freshnessEnd (c : Chan) (s : State) : State :=
  let ch := s.channels[c]
  if ch.freshness.isSome ∧ (ch.state = .moving ∨ ch.state = .stable ∨ ch.state = .over) then
    leaveSignal c .noSignal s
  else s

/-- What an expired capture window reports, from the state and beams standing, in the order of the table (R17). -/
def windowResult (ch : Channel) : CaptureResult :=
  if ch.state = .over then .overload else if ch.beamsClear then .notStable else .beamBroken

/-- A capture's window timer expires (R17). -/
def windowEnd (c : Chan) (s : State) : State := endCapture c (windowResult s.channels[c]) s

/-! ### Beams (R13) -/

/-- One of a channel's two beams. -/
def beamOf (e : BeamEnd) (b : Beam × Beam) : Beam :=
  match e with
  | .entry => b.1
  | .exit => b.2

def setBeam (e : BeamEnd) (x : Beam) (b : Beam × Beam) : Beam × Beam :=
  match e with
  | .entry => (x, b.2)
  | .exit => (b.1, x)

/-- Change one beam of a bridge channel. -/
def State.updateBeam (s : State) (b : Bridge) (e : BeamEnd) (f : Beam → Beam) : State :=
  let ch := s.channels[b.chan]
  match ch.beams with
  | some bs => s.setChannel b.chan { ch with beams := some (setBeam e (f (beamOf e bs)) bs) }
  | none => s

/-- The raw level changes, which restarts the beam's debounce timer; a level equal to the one standing is no
change (R13). -/
def Beam.change (l : BeamLevel) (b : Beam) : Beam :=
  if b.raw = l then b else { b with raw := l, debounce := some Config.debounceMs }

/-- The debounce timer expires: the debounced state takes the raw level (R13). -/
def Beam.settle (b : Beam) : Beam :=
  if b.debounce.isSome then { b with debounced := b.raw, debounce := none } else b

/-! ### The commands -/

/-- SCALE_BYTE_RECEIVED (R3 to R8, R16). -/
def execScaleByteReceived (c : Chan) (b : Byte) (s : State) : Host.Outcome State Fault Refusal :=
  .next (whileTaking (scaleByte c b) s)

/-- SCALE_GAP_EXPIRY (R3, R5). -/
def execScaleGapExpiry (c : Chan) (s : State) : Host.Outcome State Fault Refusal :=
  .next (whileTaking (scaleGap c) s)

/-- FRESHNESS_EXPIRY (R9). -/
def execFreshnessExpiry (c : Chan) (s : State) : Host.Outcome State Fault Refusal :=
  .next (whileTaking (freshnessEnd c) s)

/-- BEAM_LEVEL_CHANGE (R13). The input's level stands at the pin whatever the part does; without power, or with
RESET driven, no timer runs (assumptions 10, 11). -/
def execBeamLevelChange (b : Bridge) (e : BeamEnd) (l : BeamLevel) (s : State) :
    Host.Outcome State Fault Refusal :=
  .next (s.updateBeam b e (if s.taking then Beam.change l else fun x => { x with raw := l }))

/-- DEBOUNCE_EXPIRY (R13). -/
def execDebounceExpiry (b : Bridge) (e : BeamEnd) (s : State) : Host.Outcome State Fault Refusal :=
  .next (whileTaking (fun s => s.updateBeam b e Beam.settle) s)

/-- CAPTURE_WINDOW_EXPIRY (R17). -/
def execCaptureWindowExpiry (c : Chan) (s : State) : Host.Outcome State Fault Refusal :=
  .next (whileTaking (windowEnd c) s)

/-- What READ_SCALE reports of a channel (R19); the last reading is one optional item (assumption 15). -/
def Channel.encView (ch : Channel) : List Byte :=
  ch.state.enc ++ encOpt (fun r : Reading => r.status.enc ++ encSigned r.weight) ch.lastReading ++
    enc1 ch.run ++ enc1 ch.errorCount ++
    encOpt (fun b : Beam × Beam => encBeam b.1.debounced) ch.beams ++
    encOpt (fun b : Beam × Beam => encBeam b.2.debounced) ch.beams

/-- READ_SCALE names a channel 0..2 (R19). -/
def readScale (r : Req) (s : State) : State :=
  match decodeOne r.data with
  | none => answer r .badParam [] s
  | some c => if h : c < 3 then answer r .ok (s.channels[c]).encView s else answer r .badParam [] s

/-- The error count is zeroed, and a channel in FAULT enters NO_SIGNAL, latching SCALE_FAULT (R12). -/
def clearFault (c : Chan) (s : State) : State :=
  let ch := { s.channels[c] with errorCount := 0 }
  if ch.state = .fault then
    (s.setChannel c { ch with state := .noSignal, run := 0, freshness := none }).scaleFault
  else s.setChannel c ch

/-- CLEAR_SCALE_FAULT names a channel 0..2 (R12). -/
def clearScaleFault (r : Req) (s : State) : State :=
  match decodeOne r.data with
  | none => answer r .badParam [] s
  | some c => if h : c < 3 then answer r .ok [] (clearFault ⟨c, h⟩ s) else answer r .badParam [] s

/-- READ_SCALE (R19). -/
def execReadScale (s : State) : Host.Outcome State Fault Refusal := .next (serve 0x20 readScale s)

/-- CLEAR_SCALE_FAULT (R12). -/
def execClearScaleFault (s : State) : Host.Outcome State Fault Refusal := .next (serve 0x21 clearScaleFault s)

end Sys2Proof.Machine
end

