-- ==== Sys2Proof/Machine/Spool.lean ====
section
/-! DEFINITION. Print jobs and printer queues (chapter 8): JOB_OPEN, JOB_WRITE, JOB_SUBMIT, JOB_CLOSE, JOB_CANCEL,
JOB_STATUS, JOB_RELEASE, PRINTER_RESUME, PRINTER_FLUSH, PRINTER_REDIRECT, PRINTER_STATUS, and the expiry of a stall
timer. -/

namespace Sys2Proof.Machine

/-! ### Finding a job -/

/-- A request that names a job: a number outside 0..31 is BAD_PARAM, a free number NO_JOB (8.4). -/
def onJob (r : Req) (n : Nat) (s : State) (k : JobNo → Job → State) : State :=
  if h : n < 32 then
    match s.jobs[n] with
    | none => answer r .noJob [] s
    | some j => k ⟨n, h⟩ j
  else answer r .badParam [] s

/-- As `onJob`, and a job whose owner is not the requesting port is NO_JOB (R137, R138, R142). -/
def onOwnJob (r : Req) (n : Nat) (s : State) (k : JobNo → Job → State) : State :=
  onJob r n s fun jn j => if j.owner = .port r.port then k jn j else answer r .noJob [] s

/-! ### JOB_OPEN (R136) -/

/-- The record of a free-text job at its opening (R136). -/
def openedJob (p : Port) (printer : Printer) : Job :=
  { owner := .port p, printer := printer, ticket := none, pages := [], written := 0, closed := false, copies := 1,
    currentCopy := 1, sent := 0, threshold := 0, state := .writing, endPending := none, doneStatus := none,
    stall := none }

/-- JOB_OPEN names an alias entry 0..3 and a page count 1..12 (R136). -/
def jobOpen (r : Req) (s : State) : State :=
  match decodeTwo r.data with
  | none => answer r .badParam [] s
  | some (entry, pages) =>
    if h : entry < 4 ∧ 1 ≤ pages ∧ pages ≤ 12 then
      match s.printerOf r.port ⟨entry, h.1⟩ with
      | none => answer r .noPrinter [] s
      | some printer =>
        match s.canAllocate pages with
        | none => answer r .spoolFull [] s
        | some j =>
          answer r .ok (enc1 j.val ++ enc1 pages ++ enc1 (Config.slotsPerPage * pages))
            (s.allocate j pages (openedJob r.port printer))
    else answer r .badParam [] s

/-! ### JOB_WRITE (R137) -/

/-- A byte outside 0x20..0x7E is stored as '?' (R137). -/
def storedByte (b : Byte) : Byte := if printable b then b else 0x3F

/-- A written line resumes a STALLED job; at a QUEUED head the start condition is judged again (R137, R141). -/
def State.afterWrite (s : State) (jn : JobNo) (j : Job) : State :=
  match j.state with
  | .stalled =>
    ((s.setJob jn (some { j with state := .printing, stall := none })).nextPart j.printer jn).beginFrame j.printer
  | .queued => s.offer j.printer
  | _ => s

/-- The lines written at the write cursor (R137). -/
def writeJob (jn : JobNo) (j : Job) (ls : List (Text × Bool)) (s : State) : State :=
  let j' := { j with written := j.written + ls.length }
  ((s.writeLines j j.written (ls.map fun l => (l.1.map storedByte, l.2))).setJob jn (some j')).afterWrite jn j'

/-- JOB_WRITE's checks on the job, and its acceptance (R137). -/
def jobWriteOn (r : Req) (ls : List (Text × Bool)) (s : State) (jn : JobNo) (j : Job) : State :=
  if j.closed ∨ j.state = .done ∨ j.endPending.isSome then answer r .jobState [] s
  else if j.capacity < j.written + ls.length then answer r .jobFull (enc1 (j.capacity - j.written)) s
  else answer r .ok (enc1 (j.written + ls.length)) (writeJob jn j ls s)

/-- JOB_WRITE names a job and gives 1..6 lines (R137). -/
def jobWrite (r : Req) (s : State) : State :=
  match decodeJobWrite r.data with
  | none => answer r .badParam [] s
  | some (n, ls) =>
    if 1 ≤ ls.length ∧ ls.length ≤ 6 then onOwnJob r n s (jobWriteOn r ls s) else answer r .badParam [] s

/-! ### JOB_SUBMIT (R138) and JOB_CLOSE (R142) -/

/-- The job submitted: copies and threshold taken, closed with threshold 0, QUEUED (R138). -/
def Job.submitted (j : Job) (copies threshold : Nat) : Job :=
  { j with copies := copies, threshold := threshold, closed := threshold == 0, state := .queued }

/-- The job joins the tail of its printer's queue and the head is judged (R138, R139). -/
def submitJob (jn : JobNo) (j : Job) (copies threshold : Nat) (s : State) : State :=
  ((s.setJob jn (some (j.submitted copies threshold))).joinQueue j.printer jn).offer j.printer

/-- JOB_SUBMIT's checks on the job, and its acceptance; a threshold above the capacity is BAD_PARAM, which comes
before the ownership of the job (R138). -/
def jobSubmitOn (r : Req) (copies threshold : Nat) (s : State) (jn : JobNo) (j : Job) : State :=
  if j.capacity < threshold then answer r .badParam [] s
  else if j.owner ≠ .port r.port then answer r .noJob [] s
  else if j.state ≠ .writing then answer r .jobState [] s
  else if threshold = 0 ∧ j.written = 0 then answer r .noLines [] s
  else answer r .ok (enc1 (s.queues[j.printer].length + 1)) (submitJob jn j copies threshold s)

/-- JOB_SUBMIT names a job, a copy count 1..3 and a threshold 0..96 (R138). -/
def jobSubmit (r : Req) (s : State) : State :=
  match decodeThree r.data with
  | none => answer r .badParam [] s
  | some (n, copies, threshold) =>
    if 1 ≤ copies ∧ copies ≤ 3 ∧ threshold ≤ 96 then onJob r n s (jobSubmitOn r copies threshold s)
    else answer r .badParam [] s

/-- The job closed; QUEUED it is judged, STALLED it resumes with CUT (R141, R142). -/
def closeJob (jn : JobNo) (j : Job) (s : State) : State :=
  let j' := { j with closed := true }
  (s.setJob jn (some j')).afterWrite jn j'

/-- JOB_CLOSE's checks on the job, and its acceptance (R142). -/
def jobCloseOn (r : Req) (s : State) (jn : JobNo) (j : Job) : State :=
  if j.state = .writing ∨ j.state = .done ∨ j.closed ∨ j.endPending.isSome then answer r .jobState [] s
  else if j.written = 0 then answer r .noLines [] s
  else answer r .ok (enc1 j.written) (closeJob jn j s)

/-- JOB_CLOSE names a job (R142). -/
def jobClose (r : Req) (s : State) : State :=
  match decodeOne r.data with
  | none => answer r .badParam [] s
  | some n => onOwnJob r n s (jobCloseOn r s)

/-! ### JOB_CANCEL (R143) -/

/-- A cancel's effect by the job's state, and whether the job has ended or its end is pending (R143). JOB_DONE is
not latched in the event of the owner's own cancel (R140). -/
def cancelJob (r : Req) (jn : JobNo) (j : Job) (s : State) : State × Bool :=
  let latch := j.owner != .port r.port
  if j.endPending.isSome then (s, false)
  else
    match j.state with
    | .writing => (s.endJob jn .cancelled latch, true)
    | .queued => (((s.leaveQueue j.printer jn).endJob jn .cancelled latch).offer j.printer, true)
    | .halted => ((s.leaveQueue j.printer jn).endJob jn .cancelled latch, true)
    | .printing => ((s.setJob jn (some { j with endPending := some .cancelled })).turnToCut j.printer, false)
    | .stalled =>
      let j' := { j with endPending := some .cancelled, stall := none }
      (((s.setJob jn (some j')).nextPart j.printer jn).beginFrame j.printer, false)
    | .done => (s, true)

/-- JOB_CANCEL's checks on the job, and its acceptance: "ended" 0 or "pending" 1 (R143). -/
def jobCancelOn (r : Req) (s : State) (jn : JobNo) (j : Job) : State :=
  if j.owner ≠ .port r.port ∧ s.ports[r.port].role ≠ .office then answer r .noJob [] s
  else if j.state = .done then answer r .jobState [] s
  else answer r .ok (if (cancelJob r jn j s).2 then [0] else [1]) (cancelJob r jn j s).1

/-- JOB_CANCEL names a job (R143). -/
def jobCancel (r : Req) (s : State) : State :=
  match decodeOne r.data with
  | none => answer r .badParam [] s
  | some n => onJob r n s (jobCancelOn r s)

/-! ### JOB_STATUS (R145) and JOB_RELEASE (R146) -/

/-- A job record as JOB_STATUS reports it, with its place in its queue (R145). -/
def encJob (s : State) (jn : JobNo) (j : Job) : List Byte :=
  j.owner.enc ++ enc1 j.printer.val ++ encOpt enc4 j.ticket ++ enc1 j.pages.length ++ enc1 j.capacity ++
    enc1 j.written ++ encFlag j.closed ++ enc1 j.copies ++ enc1 j.currentCopy ++ enc1 j.sent ++ enc1 j.threshold ++
    j.state.enc ++ encPendingEnd j.endPending ++ encOpt DoneStatus.enc j.doneStatus ++
    encOpt enc1 (s.queuePlace j.printer jn)

/-- JOB_STATUS names a job (R145). -/
def jobStatus (r : Req) (s : State) : State :=
  match decodeOne r.data with
  | none => answer r .badParam [] s
  | some n => onJob r n s fun jn j => answer r .ok (encJob s jn j) s

/-- JOB_RELEASE's checks on the job, and its acceptance (R146). -/
def jobReleaseOn (r : Req) (s : State) (jn : JobNo) (j : Job) : State :=
  let office : Bool := s.ports[r.port].role = .office
  if j.owner ≠ .port r.port ∧ !office then answer r .noJob [] s
  else if j.state = .done ∨ (j.state = .writing ∧ office) then
    answer r .ok (enc1 j.pages.length ++ enc1 (s.releaseJob jn).freePages.length) (s.releaseJob jn)
  else answer r .jobState [] s

/-- JOB_RELEASE names a job (R146). -/
def jobRelease (r : Req) (s : State) : State :=
  match decodeOne r.data with
  | none => answer r .badParam [] s
  | some n => onJob r n s (jobReleaseOn r s)

/-! ### Printer requests (R147 to R150) -/

/-- A request that names one printer 0..2 (8.8). -/
def onPrinter (r : Req) (s : State) (k : Printer → State) : State :=
  match decodeOne r.data with
  | none => answer r .badParam [] s
  | some n => if h : n < 3 then k ⟨n, h⟩ else answer r .badParam [] s

/-- A HALTED head returns to QUEUED with its current copy kept and sent 0 (R147, R149, R151). -/
def Job.requeued (j : Job) : Job := { j with state := .queued, sent := 0, stall := none }

/-- The halt cleared, a HALTED head requeued, and the head judged (R147, R161). -/
def resumeEngine (p : Printer) (s : State) : State :=
  let s :=
    match s.headJob p with
    | some (jn, j) => if j.state = JobState.halted then s.setJob jn (some j.requeued) else s
    | none => s
  (s.setEngine p { s.printers[p] with fault := none }).restEngine p

/-- PRINTER_RESUME names a printer (R147). -/
def printerResume (r : Req) (s : State) : State :=
  onPrinter r s fun p =>
    if s.printers[p].state = EngineState.halted then answer r .ok [] (resumeEngine p s) else answer r .wrongState [] s

/-- Every job of a queue leaves it and ends FLUSHED, from the head to the tail, and the engine drops its job (R148). -/
def flushQueue (p : Printer) (s : State) : State :=
  let jobs := s.queues[p]
  (jobs.foldl (fun s jn => s.endJob jn .flushed true) (s.setQueue p [])).dropJob p

/-- PRINTER_FLUSH names a printer (R148). -/
def printerFlush (r : Req) (s : State) : State :=
  onPrinter r s fun p => answer r .ok (enc1 s.queues[p].length) (flushQueue p s)

/-- A job of a queue moves at a redirect: every QUEUED one, and a HALTED head of a HALTED engine (R149). -/
def moves (s : State) (source : Printer) (jn : JobNo) : Bool :=
  match s.jobs[jn] with
  | none => false
  | some j => j.state = .queued || (j.state = .halted && s.printers[source].state = .halted)

/-- A moved job: QUEUED on the target (R149). -/
def moveJob (target : Printer) (s : State) (jn : JobNo) : State :=
  match s.jobs[jn] with
  | none => s
  | some j => s.setJob jn (some { j.requeued with printer := target })

/-- The jobs that move are taken from the source queue in order and appended to the target queue, whose head is
judged (R149). -/
def redirectQueue (source target : Printer) (s : State) : State :=
  let moved := s.queues[source].filter (moves s source)
  let kept := s.queues[source].filter fun jn => !moves s source jn
  let s := moved.foldl (moveJob target) s
  ((s.setQueue source kept).setQueue target (s.queues[target] ++ moved)).offer target

/-- PRINTER_REDIRECT names a source and a target (R149). -/
def printerRedirect (r : Req) (s : State) : State :=
  match decodeTwo r.data with
  | none => answer r .badParam [] s
  | some (a, b) =>
    if h : a < 3 ∧ b < 3 ∧ a ≠ b then
      let moved := (s.queues[a].filter (moves s ⟨a, h.1⟩)).length
      answer r .ok (enc1 moved) (redirectQueue ⟨a, h.1⟩ ⟨b, h.2.1⟩ s)
    else answer r .badParam [] s

/-- One job of a queue as PRINTER_STATUS reports it: number, owner, state, end pending (R150). -/
def encQueued (s : State) (jn : JobNo) : List Byte :=
  match s.jobs[jn] with
  | none => enc1 jn.val
  | some j => enc1 jn.val ++ j.owner.enc ++ j.state.enc ++ encPendingEnd j.endPending

/-- The head's current copy, copies, lines written and sent (R150). -/
def encHead (x : JobNo × Job) : List Byte :=
  enc1 x.2.currentCopy ++ enc1 x.2.copies ++ enc1 x.2.written ++ enc1 x.2.sent

/-- PRINTER_STATUS: engine state and fault kind, the queue, its head, the spool's free counts (R150, assumption 15). -/
def printerView (s : State) (p : Printer) : List Byte :=
  s.printers[p].state.enc ++ encOpt FaultKind.enc s.printers[p].fault ++
    encList (encQueued s) s.queues[p] ++ encOpt encHead (s.headJob p) ++ enc1 s.freePages.length ++
    enc1 s.freeJobCount

/-- PRINTER_STATUS names a printer (R150). -/
def printerStatus (r : Req) (s : State) : State := onPrinter r s fun p => answer r .ok (printerView s p) s

/-! ### The stall timer (R141) -/

/-- The stall timer of a STALLED job expires: end pending UNDERRUN, and the engine ends the copy with CUT (R141). -/
def stallEnd (jn : JobNo) (s : State) : State :=
  match s.jobs[jn] with
  | none => s
  | some j =>
    if j.state = .stalled ∧ j.stall.isSome then
      let j' := { j with endPending := some .underrun, stall := none }
      ((s.setJob jn (some j')).nextPart j.printer jn).beginFrame j.printer
    else s

/-- JOB_OPEN (R136). -/
def execJobOpen (s : State) : Host.Outcome State Fault Refusal := .next (serve 0x40 jobOpen s)

/-- JOB_WRITE (R137). -/
def execJobWrite (s : State) : Host.Outcome State Fault Refusal := .next (serve 0x41 jobWrite s)

/-- JOB_SUBMIT (R138). -/
def execJobSubmit (s : State) : Host.Outcome State Fault Refusal := .next (serve 0x42 jobSubmit s)

/-- JOB_CLOSE (R142). -/
def execJobClose (s : State) : Host.Outcome State Fault Refusal := .next (serve 0x43 jobClose s)

/-- JOB_CANCEL (R143). -/
def execJobCancel (s : State) : Host.Outcome State Fault Refusal := .next (serve 0x44 jobCancel s)

/-- JOB_STATUS (R145). -/
def execJobStatus (s : State) : Host.Outcome State Fault Refusal := .next (serve 0x45 jobStatus s)

/-- JOB_RELEASE (R146). -/
def execJobRelease (s : State) : Host.Outcome State Fault Refusal := .next (serve 0x46 jobRelease s)

/-- PRINTER_RESUME (R147). -/
def execPrinterResume (s : State) : Host.Outcome State Fault Refusal := .next (serve 0x48 printerResume s)

/-- PRINTER_FLUSH (R148). -/
def execPrinterFlush (s : State) : Host.Outcome State Fault Refusal := .next (serve 0x49 printerFlush s)

/-- PRINTER_REDIRECT (R149). -/
def execPrinterRedirect (s : State) : Host.Outcome State Fault Refusal := .next (serve 0x4A printerRedirect s)

/-- PRINTER_STATUS (R150). -/
def execPrinterStatus (s : State) : Host.Outcome State Fault Refusal := .next (serve 0x4B printerStatus s)

/-- STALL_TIMER_EXPIRY (R141). -/
def execStallTimerExpiry (j : JobNo) (s : State) : Host.Outcome State Fault Refusal :=
  .next (whileTaking (stallEnd j) s)

end Sys2Proof.Machine
end

