-- ==== Sys2Proof/Machine/Starts.lean ====
section
/-! DEFINITION. Starts and the supply (R186, R187): POWER_ON, RESET_LINE, RESTART_WARM_START,
COLD_CLEAR_COLD_START, RESET_LINE_RELEASE, LOSS_OF_POWER. -/

namespace Sys2Proof.Machine

/-! ### What both kinds of start do -/

/-- The image with a save in flight ended: its check fails (R183). -/
def State.imageAfterSave (s : State) : SettingsImage :=
  if s.save.isSome then { s.image with checkGood := false } else s.image

/-- The working settings a start loads: the image's values where its check is good, else the factory defaults
(R180). -/
def SettingsImage.load (i : SettingsImage) : Settings := if i.checkGood then i.content else factorySettings

/-- A channel at a start: the beams stand at their raw levels (R20). -/
def Channel.restart (c : Channel) : Channel :=
  .start (c.beams.map fun b => (.start b.1.raw, .start b.2.raw))

/-- What every start does, whatever its kind: the settings are loaded, the counter is read from the word, and the
channels, ports, arbiter and engines take their start values (R20, R152, R165, R166, R178, R180, R184). -/
def State.commonStart (s : State) (k : StartKind) : State :=
  let image := s.imageAfterSave
  { s with
    image := image
    settings := image.load
    counter := s.numberWord
    save := none
    pendingStart := none
    requestEngine := none
    pointer := 3
    channels := mapEntries (fun _ c => c.restart) s.channels
    ports := Vector.ofFn fun p => .start image.load.roles[p] { kind := k, defaulted := !image.checkGood }
    printers := mapEntries (fun p e => Engine.start image.load.enables[p] e.clockLow) s.printers }

/-- R139 is judged for every queue (R151, R165). -/
def State.offerAll (s : State) : State := (List.finRange 3).foldl State.offer s

/-! ### Warm start -/

/-- A slot at a warm start: OPENING becomes FREE; a capture marker is cleared; AT_WINDOW becomes WEIGHED without its
window part (R43). -/
def warmSlot : Option Ticket → Option Ticket
  | none => none
  | some t =>
    match t.state with
    | .opening => none
    | .atWindow => some { t with marker := none, state := .weighed, window := none }
    | .weighing | .counter | .weighed => some { t with marker := none }

/-- A queue's head at a warm start: in PRINTING, STALLED or HALTED it returns to QUEUED, or ends with its pending
status, latching nothing (R151). -/
def State.warmHead (s : State) (p : Printer) : State :=
  match s.headJob p with
  | none => s
  | some (jn, j) =>
    if j.state = .printing ∨ j.state = .stalled ∨ j.state = .halted then
      match j.endPending with
      | none => s.setJob jn (some j.requeued)
      | some x => (s.leaveQueue p jn).endJob jn x.status false
    else s

/-- Every stall timer stops (R151). -/
def State.stopStalls (s : State) : State :=
  { s with jobs := mapEntries (fun _ j => j.map fun j => { j with stall := none }) s.jobs }

/-- The warm start (R186): the retained state is kept but for R43 and R151. -/
def State.warmStart (s : State) : State :=
  let s := s.commonStart .warm
  let s : State := { s with slots := mapEntries (fun _ t => warmSlot t) s.slots }
  ((List.finRange 3).foldl State.warmHead s.stopStalls).offerAll

/-! ### Cold start -/

/-- The cold start (R186): the retained state takes its cold values, and the marker is made valid (R44, R70, R100,
R115, R151, R185). Page memory and bold marks keep the bytes that State holds, also after the battery failed: R132 and
R151 give them no cold value, and every page goes to the free pool, where a page keeps what it held. DESIGN CHOICE,
unsafe (assumption 6). -/
def State.coldStart (s : State) : State :=
  let s := s.commonStart .cold
  ({ s with
    markerValid := true
    clock := none
    slots := Vector.replicate 48 none
    staged := s.settings.active
    tally := Vector.replicate 64 (Vector.replicate 4 none)
    journal := []
    totals := .zero
    day := 1
    freePages := List.finRange 96
    jobs := Vector.replicate 32 none
    queues := Vector.replicate 3 [] } : State).offerAll

/-- The start of a kind. -/
def State.start (s : State) : StartKind → State
  | .warm => s.warmStart
  | .cold => s.coldStart

/-! ### Supply and RESET (R186) -/

/-- Power is applied: the start is warm with the marker valid and cold with it invalid (R186). Where the marker is
invalid and RESET is driven, R186 names a cold start (the power-on) and a warm one (the RESET line): the model makes the
marker's cold start alone, START reports COLD, and the part takes nothing until the release. DESIGN CHOICE, unsafe
(assumption 24). -/
def powerOn (s : State) : State :=
  if s.powered then s else ({ s with powered := true } : State).start (if s.markerValid then .warm else .cold)

/-- The RESET line is driven: a warm start, after which the part takes nothing until the release (R186,
assumption 10). -/
def resetLine (s : State) : State :=
  if s.resetDriven then s
  else if s.powered then ({ s with resetDriven := true } : State).warmStart
  else { s with resetDriven := true }

/-- A channel at the release of RESET: the debounced states take the levels standing (assumption 10). -/
def Channel.takeBeams (c : Channel) : Channel :=
  { c with beams := c.beams.map fun b => (.start b.1.raw, .start b.2.raw) }

/-- An engine at the release of RESET takes the clock level standing (R156, R157, assumption 10). -/
def takeClock (s : State) (p : Printer) : State :=
  if s.printers[p].clockLow then clockPulled p (s.printers[p].frame.getD 1) s else clockReleased p s

/-- RESET is released: the part takes its lines again, from the levels standing (R186, assumption 10). -/
def resetRelease (s : State) : State :=
  if s.resetDriven then
    let s : State := { s with resetDriven := false }
    if s.powered then
      (List.finRange 3).foldl takeClock { s with channels := mapEntries (fun _ c => c.takeBeams) s.channels }
    else s
  else s

/-- The start that RESTART or COLD_CLEAR called for, once its OK has been sent in full (R187, assumption 20). -/
def calledStart (k : StartKind) (s : State) : State :=
  if s.pendingStart = some { kind := k, sent := true } then s.start k else s

/-- Power is lost: a save in flight ends with the image check failing; a write of the number word that is cut off
leaves its check failing; the marker goes invalid where the battery does not hold (R183, R184, R186,
assumptions 11, 12). -/
def losePower (batteryHolds wordCut : Bool) (s : State) : State :=
  if s.powered then
    { s with
      powered := false
      image := s.imageAfterSave
      save := none
      numberWord := if wordCut then .invalid else s.numberWord
      markerValid := s.markerValid && batteryHolds }
  else { s with markerValid := s.markerValid && batteryHolds }

/-! ### The commands -/

/-- POWER_ON (R186). -/
def execPowerOn (s : State) : Host.Outcome State Fault Refusal := .next (powerOn s)

/-- RESET_LINE (R186). -/
def execResetLine (s : State) : Host.Outcome State Fault Refusal := .next (resetLine s)

/-- RESTART_WARM_START (R187). -/
def execRestartWarmStart (s : State) : Host.Outcome State Fault Refusal :=
  .next (whileTaking (calledStart .warm) s)

/-- COLD_CLEAR_COLD_START (R187). -/
def execColdClearColdStart (s : State) : Host.Outcome State Fault Refusal :=
  .next (whileTaking (calledStart .cold) s)

/-- RESET_LINE_RELEASE (R186). -/
def execResetLineRelease (s : State) : Host.Outcome State Fault Refusal := .next (resetRelease s)

/-- LOSS_OF_POWER (R183, R184, R186). -/
def execLossOfPower (batteryHolds wordCut : Bool) (s : State) : Host.Outcome State Fault Refusal :=
  .next (losePower batteryHolds wordCut s)

end Sys2Proof.Machine
end

