-- ==== Sys2Proof/Machine/Store.lean ====
section
/-! DEFINITION. Settings Store and Yard Clock (chapter 11): SET_PARAM, GET_PARAM, SAVE_SETTINGS, SET_NEXT_NUMBER,
SET_CLOCK, RESTART, COLD_CLEAR, and the events SAVE_COMPLETION and CLOCK_SECOND. -/

namespace Sys2Proof.Machine

/-! ### The parameters SET_PARAM sets (11.6) -/

/-- The eight settings of a channel, parameters 1..8. -/
inductive ChannelItem where
  | capacity
  | division
  | motionBand
  | stableCount
  | captureWindow
  | minimum
  | freshness
  | errorThreshold
deriving DecidableEq, Repr

/-- The numeric parameters of index 0. -/
inductive NumericItem where
  | holdTime
  | cashStep
  | cashLimit
  | anonThreshold
  | receiptCopies
  | stallTime
  | inhibitLimit
  | refusalLimit
  | drawerOn
  | drawerOff
  | drawerCount
deriving DecidableEq, Repr

/-- A parameter that SET_PARAM may set, with its index. -/
inductive Param where
  | channel (item : ChannelItem) (c : Chan)
  | numeric (item : NumericItem)
  | header (i : Fin 4)
  | footer (i : Fin 2)
  | enable (p : Printer)
  | role (p : Port)
deriving DecidableEq, Repr

/-- A value of a parameter: a number, a text or none, an enable, a role (R181). -/
inductive ParamValue where
  | number (n : Nat)
  | text (t : Option Text)
  | enable (b : Bool)
  | role (r : Role)
deriving DecidableEq, Repr

def channelItemOf (n : Nat) : Option ChannelItem :=
  match n with
  | 1 => some .capacity
  | 2 => some .division
  | 3 => some .motionBand
  | 4 => some .stableCount
  | 5 => some .captureWindow
  | 6 => some .minimum
  | 7 => some .freshness
  | 8 => some .errorThreshold
  | _ => none

def numericItemOf (n : Nat) : Option NumericItem :=
  match n with
  | 16 => some .holdTime
  | 17 => some .cashStep
  | 18 => some .cashLimit
  | 19 => some .anonThreshold
  | 20 => some .receiptCopies
  | 32 => some .stallTime
  | 33 => some .inhibitLimit
  | 34 => some .refusalLimit
  | 35 => some .drawerOn
  | 36 => some .drawerOff
  | 37 => some .drawerCount
  | _ => none

/-- The settable parameter of a number and an index; `none` for a number not in the table or read only there, and
for an index outside its range (R181, 11.6). -/
def paramOf (n ix : Nat) : Option Param :=
  match channelItemOf n, numericItemOf n with
  | some item, _ => if h : ix < 3 then some (.channel item ⟨ix, h⟩) else none
  | none, some item => if ix = 0 then some (.numeric item) else none
  | none, none =>
    match n with
    | 24 => if h : 1 ≤ ix ∧ ix ≤ 4 then some (.header ⟨ix - 1, by omega⟩) else none
    | 25 => if h : 1 ≤ ix ∧ ix ≤ 2 then some (.footer ⟨ix - 1, by omega⟩) else none
    | 38 => if h : ix < 3 then some (.enable ⟨ix, h⟩) else none
    | 40 => if h : ix < 4 then some (.role ⟨ix, h⟩) else none
    | _ => none

/-! ### Ranges (R181, 11.6) -/

/-- The nearer bound for a number outside its range. -/
def clamp (lo hi n : Nat) : Nat := if n < lo then lo else if hi < n then hi else n

/-- The largest of the allowed values at or below a number. -/
def lowerTo (allowed : List Nat) (n : Nat) : Nat := (allowed.filter (· ≤ n)).foldl max 0

/-- A drawer time is lowered to a multiple of 10 ms. -/
def drawerTime (n : Nat) : Nat := clamp 10 250 n / 10 * 10

def allowedDivisions : List Nat := [1, 2, 5, 10, 20, 50, 100, 200, 500]

def allowedSteps : List Nat := [1, 2, 5, 10, 20, 50, 100]

def ChannelItem.fit (n : Nat) : ChannelItem → Nat
  | .capacity => clamp 1 1000000 n
  | .division => lowerTo allowedDivisions (clamp 1 500 n)
  | .motionBand => clamp 0 9 n
  | .stableCount => clamp 2 20 n
  | .captureWindow => clamp 1 30 n
  | .minimum => clamp 0 1000 n
  | .freshness => clamp 200 2000 n
  | .errorThreshold => clamp 1 255 n

def NumericItem.fit (n : Nat) : NumericItem → Nat
  | .holdTime => clamp 30 3600 n
  | .cashStep => lowerTo allowedSteps (clamp 1 100 n)
  | .cashLimit => clamp 0 Config.maxAmount n
  | .anonThreshold => clamp 0 Config.maxAmount n
  | .receiptCopies => clamp 1 3 n
  | .stallTime => clamp 5 120 n
  | .inhibitLimit => clamp 1 120 n
  | .refusalLimit => clamp 1 15 n
  | .drawerOn => drawerTime n
  | .drawerOff => drawerTime n
  | .drawerCount => clamp 1 4 n

/-- The value set for a value given (R181). -/
def Param.fit (q : Param) (v : ParamValue) : ParamValue :=
  match q, v with
  | .channel item _, .number n => .number (item.fit n)
  | .numeric item, .number n => .number (item.fit n)
  | _, v => v

/-- A text that is present has 1..32 characters (R181); its characters are those of 0.5.2. -/
def textAllowed : Option Text → Bool
  | none => true
  | some t => 1 ≤ t.length && t.length ≤ 32 && !holdsUnprintable t

/-- The value that SET_PARAM's data gives for a parameter, in the form and values the parameter takes (R181). -/
def Param.decode (q : Param) (d : List Byte) : Option ParamValue :=
  match q, d with
  | .channel .., d => (decodeNumeric d).map .number
  | .numeric _, d => (decodeNumeric d).map .number
  | .header _, d => (decodeOptText d).bind fun t => if textAllowed t then some (.text t) else none
  | .footer _, d => (decodeOptText d).bind fun t => if textAllowed t then some (.text t) else none
  | .enable _, [b] => (decEnable b).map .enable
  | .role _, [b] => (decRole b).map .role
  | .enable _, _ => none
  | .role _, _ => none

/-! ### Reading and writing the working settings -/

def getChannelItem (st : ChannelSettings) : ChannelItem → Nat
  | .capacity => st.capacity
  | .division => st.division
  | .motionBand => st.motionBand
  | .stableCount => st.stableCount
  | .captureWindow => st.captureWindow
  | .minimum => st.minimum
  | .freshness => st.freshness
  | .errorThreshold => st.errorThreshold

def putChannelItem (st : ChannelSettings) (n : Nat) : ChannelItem → ChannelSettings
  | .capacity => { st with capacity := n }
  | .division => { st with division := n }
  | .motionBand => { st with motionBand := n }
  | .stableCount => { st with stableCount := n }
  | .captureWindow => { st with captureWindow := n }
  | .minimum => { st with minimum := n }
  | .freshness => { st with freshness := n }
  | .errorThreshold => { st with errorThreshold := n }

def getNumericItem (st : Settings) : NumericItem → Nat
  | .holdTime => st.holdTime
  | .cashStep => st.cashStep
  | .cashLimit => st.cashLimit
  | .anonThreshold => st.anonThreshold
  | .receiptCopies => st.receiptCopies
  | .stallTime => st.stallTime
  | .inhibitLimit => st.inhibitLimit
  | .refusalLimit => st.refusalLimit
  | .drawerOn => st.drawerOn
  | .drawerOff => st.drawerOff
  | .drawerCount => st.drawerCount

def putNumericItem (st : Settings) (n : Nat) : NumericItem → Settings
  | .holdTime => { st with holdTime := n }
  | .cashStep => { st with cashStep := n }
  | .cashLimit => { st with cashLimit := n }
  | .anonThreshold => { st with anonThreshold := n }
  | .receiptCopies => { st with receiptCopies := n }
  | .stallTime => { st with stallTime := n }
  | .inhibitLimit => { st with inhibitLimit := n }
  | .refusalLimit => { st with refusalLimit := n }
  | .drawerOn => { st with drawerOn := n }
  | .drawerOff => { st with drawerOff := n }
  | .drawerCount => { st with drawerCount := n }

/-- The value of a parameter in the working settings (R182). -/
def getSetting (st : Settings) : Param → ParamValue
  | .channel item c => .number (getChannelItem st.channels[c] item)
  | .numeric item => .number (getNumericItem st item)
  | .header i => .text st.headers[i]
  | .footer i => .text st.footers[i]
  | .enable p => .enable st.enables[p]
  | .role p => .role st.roles[p]

/-- The working settings with a parameter set; a value of another type, which `Param.decode` never gives, changes
nothing. -/
def putSetting (st : Settings) (q : Param) (v : ParamValue) : Settings :=
  match q, v with
  | .channel item c, .number n => { st with channels := st.channels.set c (putChannelItem st.channels[c] n item) }
  | .numeric item, .number n => putNumericItem st n item
  | .header i, .text t => { st with headers := st.headers.set i t }
  | .footer i, .text t => { st with footers := st.footers.set i t }
  | .enable p, .enable b => { st with enables := st.enables.set p b }
  | .role p, .role r => { st with roles := st.roles.set p r }
  | _, _ => st

/-- Some port has role OFFICE in the settings (R181). -/
def hasOffice (st : Settings) : Bool := st.roles.toList.contains .office

/-- A value in the form SET_PARAM gives it (R181, assumption 13). -/
def ParamValue.enc : ParamValue → List Byte
  | .number n => enc5 n
  | .text t => encOpt encText t
  | .enable b => encEnable b
  | .role r => encRole r

/-! ### SET_PARAM (R181) and GET_PARAM (R182) -/

/-- A printer enable reaches the engine: IDLE and disabled enters OFF; OFF and enabled becomes IDLE, and its head is
judged; in any other state nothing changes (R162). -/
def reachEngine (q : Param) (s : State) : State :=
  match q with
  | .enable p =>
    let e := s.printers[p]
    if e.state = EngineState.idle ∧ s.settings.enables[p] = false then s.setEngine p { e with state := .off }
    else if e.state = EngineState.off ∧ s.settings.enables[p] then
      (s.setEngine p { e with state := .idle }).offer p
    else s
  | _ => s

/-- A parameter set in the working settings (R181). -/
def applyParam (q : Param) (v : ParamValue) (s : State) : State :=
  reachEngine q { s with settings := putSetting s.settings q v }

/-- SET_PARAM's checks on a value of good form, and its acceptance (R181). -/
def setParamTo (r : Req) (q : Param) (v : ParamValue) (s : State) : State :=
  if hasOffice (putSetting s.settings q (q.fit v)) then
    if s.save.isSome then answer r .settingsBusy [] s
    else
      answer r (if q.fit v = v then OutcomeCode.ok else OutcomeCode.clamped) (q.fit v).enc (applyParam q (q.fit v) s)
  else answer r .badParam [] s

/-- The parameter and the value that SET_PARAM's data names (R181). -/
def decodeSetParam : List Byte → Option (Param × ParamValue)
  | n :: ix :: rest => (paramOf n.toNat ix.toNat).bind fun q => (q.decode rest).map fun v => (q, v)
  | _ => none

/-- SET_PARAM names a parameter and an index, and gives a value (R181). -/
def setParam (r : Req) (s : State) : State :=
  match decodeSetParam r.data with
  | none => answer r .badParam [] s
  | some (q, v) => setParamTo r q v s

/-- The condition of the counter, VALID, INVALID or EXHAUSTED, and the next number, present when VALID (R182, assumption
15). -/
def Counter.enc : Counter → List Byte
  | .valid n => [0, 1] ++ enc4 n
  | .invalid => [1, 0]
  | .exhausted => [2, 0]

/-- The read-only items of the parameter table (R182); the clock is one optional item (assumption 15). -/
def readOnlyItem (s : State) (n ix : Nat) : Option (List Byte) :=
  match n with
  | 48 =>
    if h : ix < 16 then
      some (encOpt (fun p : Printer => enc1 p.val) (s.printerOf ⟨ix / 4, by omega⟩ ⟨ix % 4, by omega⟩))
    else none
  | 49 => if h : ix < 16 then some (enc5 (tareOf s.settings ⟨ix, h⟩)) else none
  | 56 => if ix = 0 then some s.counter.enc else none
  | 57 => if ix = 0 then some (encOpt ClockReading.enc s.clock) else none
  | 58 => if ix = 0 then some (encFlag s.save.isSome) else none
  | _ => none

/-- The value of any item of the parameter table (R182). -/
def paramItem (s : State) (n ix : Nat) : Option (List Byte) :=
  match paramOf n ix with
  | some q => some (getSetting s.settings q).enc
  | none => readOnlyItem s n ix

/-- GET_PARAM names a parameter and an index, and changes nothing (R182). -/
def getParam (r : Req) (s : State) : State :=
  match decodeTwo r.data with
  | none => answer r .badParam [] s
  | some (n, ix) =>
    match paramItem s n ix with
    | none => answer r .badParam [] s
    | some d => answer r .ok d s

/-! ### Saving (R183) -/

/-- The save in flight: the working settings are the content to be written, and the request is deferred (R183). -/
def beginSave (p : Port) (s : State) : State :=
  ({ s with save := some { content := s.settings, port := p } } : State).deferRequest p

/-- SAVE_SETTINGS takes no data (R183). -/
def saveSettings (r : Req) (s : State) : State :=
  match decodeNothing r.data with
  | none => answer r .badParam [] s
  | some _ => if s.save.isSome then answer r .settingsBusy [] s else beginSave r.port s

/-- Answer the request that waits deferred at a port, where there is one (R173). -/
def State.answerDeferred (s : State) (p : Port) (o : OutcomeCode) : State :=
  match s.ports[p].request with
  | some q => s.respond p { tag := q.tag, code := q.code, outcome := o, data := [] }
  | none => s

/-- The save completes with what the store returned on reading back (R183). -/
def completeSave (readBack : Settings) (s : State) : State :=
  match s.save with
  | none => s
  | some w =>
    let good := decide (readBack = w.content)
    ({ s with image := { content := readBack, checkGood := good }, save := none } : State).answerDeferred w.port
      (if good then .ok else .storeFault)

/-! ### The number word (R184) -/

/-- The ticket numbers held in slots (R184). -/
def State.tableNumbers (s : State) : List Nat := s.slots.toList.filterMap fun x => x.bind (·.number)

/-- The ticket number of a CLOSE record. -/
def Record.closeNumber : Record → Option Nat
  | .close r => some r.number
  | .dayEnd _ => none

/-- The highest ticket number held in a slot or in a CLOSE record of the journal, 0 where none is held (R184). -/
def State.highestNumber (s : State) : Nat := (s.tableNumbers ++ s.journal.filterMap Record.closeNumber).foldl max 0

/-- Checks 2 to 4: whether SET_NEXT_NUMBER may give the number (R184). -/
def nextNumberAllowed (s : State) (n : Nat) : Bool :=
  match s.counter with
  | .valid next => next < n
  | .exhausted => false
  | .invalid => s.highestNumber < n

/-- SET_NEXT_NUMBER names a number (R184). -/
def setNextNumber (r : Req) (s : State) : State :=
  match decodeNumber r.data with
  | none => answer r .badParam [] s
  | some n =>
    if numberInRange n && nextNumberAllowed s n then answer r .ok (enc4 n) (s.writeCounter (.valid n))
    else answer r .badParam [] s

/-! ### The yard clock (R185) -/

/-- SET_CLOCK gives seconds 0..86 399 and a date text of 8 printable characters (R185). -/
def setClock (r : Req) (s : State) : State :=
  match decodeSetClock r.data with
  | none => answer r .badParam [] s
  | some (seconds, date) =>
    if seconds < 86400 ∧ date.length = 8 ∧ holdsUnprintable date = false then
      answer r .ok [] { s with clock := some { seconds := seconds, date := date } }
    else answer r .badParam [] s

/-- One second on: 86 399 is followed by 0, the date text unchanged (R185). -/
def ClockReading.tick (c : ClockReading) : ClockReading :=
  { c with seconds := if c.seconds < 86399 then c.seconds + 1 else 0 }

/-! ### RESTART and COLD_CLEAR (R187) -/

/-- A start is called for; it follows once the OK has been sent (R187). -/
def State.callStart (s : State) (k : StartKind) : State := { s with pendingStart := some { kind := k, sent := false } }

/-- RESTART takes no data (R187). -/
def restart (r : Req) (s : State) : State :=
  match decodeNothing r.data with
  | none => answer r .badParam [] s
  | some _ => if s.save.isSome then answer r .settingsBusy [] s else answer r .ok [] (s.callStart .warm)

/-- A slot that is not FREE, OPENING included, or a record in the journal stands in the way of COLD_CLEAR (R187). -/
def State.holdsBusiness (s : State) : Bool := s.slots.toList.any (·.isSome) || !s.journal.isEmpty

/-- COLD_CLEAR takes no data; its acceptance makes the counter INVALID and writes the word so (R187). -/
def coldClear (r : Req) (s : State) : State :=
  match decodeNothing r.data with
  | none => answer r .badParam [] s
  | some _ =>
    if s.save.isSome then answer r .settingsBusy [] s
    else if s.holdsBusiness then answer r .wrongState [] s
    else answer r .ok [] ((s.writeCounter .invalid).callStart .cold)

/-! ### The commands -/

/-- SET_PARAM (R181). -/
def execSetParam (s : State) : Host.Outcome State Fault Refusal := .next (serve 0x50 setParam s)

/-- GET_PARAM (R182). -/
def execGetParam (s : State) : Host.Outcome State Fault Refusal := .next (serve 0x51 getParam s)

/-- SAVE_SETTINGS (R183). -/
def execSaveSettings (s : State) : Host.Outcome State Fault Refusal := .next (serve 0x52 saveSettings s)

/-- SET_NEXT_NUMBER (R184). -/
def execSetNextNumber (s : State) : Host.Outcome State Fault Refusal := .next (serve 0x53 setNextNumber s)

/-- SET_CLOCK (R185). -/
def execSetClock (s : State) : Host.Outcome State Fault Refusal := .next (serve 0x54 setClock s)

/-- RESTART (R187). -/
def execRestart (s : State) : Host.Outcome State Fault Refusal := .next (serve 0x55 restart s)

/-- COLD_CLEAR (R187). -/
def execColdClear (s : State) : Host.Outcome State Fault Refusal := .next (serve 0x56 coldClear s)

/-- SAVE_COMPLETION (R183). -/
def execSaveCompletion (readBack : Settings) (s : State) : Host.Outcome State Fault Refusal :=
  .next (whileTaking (completeSave readBack) s)

/-- CLOCK_SECOND (R185): the clock runs from the battery, whatever the part does. -/
def execClockSecond (s : State) : Host.Outcome State Fault Refusal :=
  .next { s with clock := s.clock.map ClockReading.tick }

end Sys2Proof.Machine
end

