-- ==== Sys2Proof/Machine/Dispatch.lean ====
section
/-! DEFINITION. The effect of every command on everything but the queue: one arm per constructor, each one direct
call of its meaning. -/

namespace Sys2Proof.Machine

def exec (i : Instr) (s : State) : Host.Outcome State Fault Refusal :=
  match i with
  | .getEvents => Sys2Proof.Machine.execGetEvents s
  | .ackEvents => Sys2Proof.Machine.execAckEvents s
  | .setMask => Sys2Proof.Machine.execSetMask s
  | .setAlias => Sys2Proof.Machine.execSetAlias s
  | .openTruck => Sys2Proof.Machine.execOpenTruck s
  | .dump => Sys2Proof.Machine.execDump s
  | .openWalkin => Sys2Proof.Machine.execOpenWalkin s
  | .addBin => Sys2Proof.Machine.execAddBin s
  | .closeWeighing => Sys2Proof.Machine.execCloseWeighing s
  | .deduct => Sys2Proof.Machine.execDeduct s
  | .setSeller => Sys2Proof.Machine.execSetSeller s
  | .setPlate => Sys2Proof.Machine.execSetPlate s
  | .void => Sys2Proof.Machine.execVoid s
  | .getTicket => Sys2Proof.Machine.execGetTicket s
  | .listTickets => Sys2Proof.Machine.execListTickets s
  | .readScale => Sys2Proof.Machine.execReadScale s
  | .clearScaleFault => Sys2Proof.Machine.execClearScaleFault s
  | .setGrade => Sys2Proof.Machine.execSetGrade s
  | .switchPrices => Sys2Proof.Machine.execSwitchPrices s
  | .getGrade => Sys2Proof.Machine.execGetGrade s
  | .setContainer => Sys2Proof.Machine.execSetContainer s
  | .reprice => Sys2Proof.Machine.execReprice s
  | .review => Sys2Proof.Machine.execReview s
  | .release => Sys2Proof.Machine.execRelease s
  | .pay => Sys2Proof.Machine.execPay s
  | .drawerKick => Sys2Proof.Machine.execDrawerKick s
  | .getTally => Sys2Proof.Machine.execGetTally s
  | .journalPeek => Sys2Proof.Machine.execJournalPeek s
  | .journalPop => Sys2Proof.Machine.execJournalPop s
  | .getTotals => Sys2Proof.Machine.execGetTotals s
  | .dayClose => Sys2Proof.Machine.execDayClose s
  | .reprint => Sys2Proof.Machine.execReprint s
  | .jobOpen => Sys2Proof.Machine.execJobOpen s
  | .jobWrite => Sys2Proof.Machine.execJobWrite s
  | .jobSubmit => Sys2Proof.Machine.execJobSubmit s
  | .jobClose => Sys2Proof.Machine.execJobClose s
  | .jobCancel => Sys2Proof.Machine.execJobCancel s
  | .jobStatus => Sys2Proof.Machine.execJobStatus s
  | .jobRelease => Sys2Proof.Machine.execJobRelease s
  | .printerResume => Sys2Proof.Machine.execPrinterResume s
  | .printerFlush => Sys2Proof.Machine.execPrinterFlush s
  | .printerRedirect => Sys2Proof.Machine.execPrinterRedirect s
  | .printerStatus => Sys2Proof.Machine.execPrinterStatus s
  | .setParam => Sys2Proof.Machine.execSetParam s
  | .getParam => Sys2Proof.Machine.execGetParam s
  | .saveSettings => Sys2Proof.Machine.execSaveSettings s
  | .setNextNumber => Sys2Proof.Machine.execSetNextNumber s
  | .setClock => Sys2Proof.Machine.execSetClock s
  | .restart => Sys2Proof.Machine.execRestart s
  | .coldClear => Sys2Proof.Machine.execColdClear s
  | .portByteReceived p b => Sys2Proof.Machine.execPortByteReceived p b s
  | .portGapExpiry p => Sys2Proof.Machine.execPortGapExpiry p s
  | .responseSent p => Sys2Proof.Machine.execResponseSent p s
  | .scaleByteReceived c b => Sys2Proof.Machine.execScaleByteReceived c b s
  | .scaleGapExpiry c => Sys2Proof.Machine.execScaleGapExpiry c s
  | .freshnessExpiry c => Sys2Proof.Machine.execFreshnessExpiry c s
  | .beamLevelChange b e l => Sys2Proof.Machine.execBeamLevelChange b e l s
  | .debounceExpiry b e => Sys2Proof.Machine.execDebounceExpiry b e s
  | .captureWindowExpiry c => Sys2Proof.Machine.execCaptureWindowExpiry c s
  | .holdTimerExpiry slot => Sys2Proof.Machine.execHoldTimerExpiry slot s
  | .stallTimerExpiry j => Sys2Proof.Machine.execStallTimerExpiry j s
  | .printerFrameEnd p a => Sys2Proof.Machine.execPrinterFrameEnd p a s
  | .backoffExpiry p => Sys2Proof.Machine.execBackoffExpiry p s
  | .clockLineLow p k => Sys2Proof.Machine.execClockLineLow p k s
  | .clockLineRelease p => Sys2Proof.Machine.execClockLineRelease p s
  | .inhibitTimerExpiry p => Sys2Proof.Machine.execInhibitTimerExpiry p s
  | .drawerPhaseExpiry p => Sys2Proof.Machine.execDrawerPhaseExpiry p s
  | .saveCompletion x => Sys2Proof.Machine.execSaveCompletion x s
  | .clockSecond => Sys2Proof.Machine.execClockSecond s
  | .powerOn => Sys2Proof.Machine.execPowerOn s
  | .resetLine => Sys2Proof.Machine.execResetLine s
  | .restartWarmStart => Sys2Proof.Machine.execRestartWarmStart s
  | .coldClearColdStart => Sys2Proof.Machine.execColdClearColdStart s
  | .resetLineRelease => Sys2Proof.Machine.execResetLineRelease s
  | .lossOfPower h w => Sys2Proof.Machine.execLossOfPower h w s

end Sys2Proof.Machine
end

