-- ==== Sys2Proof/Safety.lean ====
section
/-! DEFINITION. What is always so of the part, in the terms the claims use: the laws the spec states of the whole
machine, each as a property of a state. -/

namespace Sys2Proof.Machine

/-! ### Memory and books -/

/-- The spool's two memories are in canonical form. -/
def MemoryLaw (s : State) : Prop := s.pageMem.wf = true ∧ s.boldMarks.wf = true

/-- The journal holds at most 128 records (R101). -/
def JournalLaw (s : State) : Prop := s.journal.length ≤ Config.journalRoom

/-- A total lies in its range, and stands at its maximum where it is marked (R108, R110). -/
def Total.lawful (max : Nat) (t : Total) : Prop := t.value ≤ max ∧ (t.mark = true → t.value = max)

/-- Every one of the 197 totals is lawful, and the day number lies in 1..65 535 (R108, R110, R112). -/
def TotalsLaw (s : State) : Prop :=
  (∀ g : GradeIx,
    (s.totals.grades[g].weight).lawful Config.maxSum ∧ (s.totals.grades[g].amount).lawful Config.maxSum ∧
      (s.totals.grades[g].count).lawful Config.maxCount) ∧
    s.totals.paid.lawful Config.maxCount ∧ s.totals.voided.lawful Config.maxCount ∧
    s.totals.cash.lawful Config.maxSum ∧ s.totals.nonCash.lawful Config.maxSum ∧
    s.totals.rounding.lawful Config.maxSum ∧ 1 ≤ s.day ∧ s.day ≤ 65535

/-! ### Settings and stores -/

/-- While a save is in flight, its content equals the working settings (R183). -/
def SaveLaw (s : State) : Prop := ∀ w : Save, s.save = some w → w.content = s.settings

/-- A channel's settings lie in their ranges (1.2). -/
def ChannelSettings.lawful (c : ChannelSettings) : Prop :=
  (1 ≤ c.capacity ∧ c.capacity ≤ 1000000) ∧ c.division ∈ allowedDivisions ∧ c.motionBand ≤ 9 ∧
    (2 ≤ c.stableCount ∧ c.stableCount ≤ 20) ∧ (1 ≤ c.captureWindow ∧ c.captureWindow ≤ 30) ∧ c.minimum ≤ 1000 ∧
    (200 ≤ c.freshness ∧ c.freshness ≤ 2000) ∧ (1 ≤ c.errorThreshold ∧ c.errorThreshold ≤ 255)

/-- A drawer time lies in 10..250 ms, in steps of 10 (R152). -/
def drawerTimeLawful (n : Nat) : Prop := 10 ≤ n ∧ n ≤ 250 ∧ n % 10 = 0

/-- A grade entry keeps to its ranges (R63). -/
def GradeEntry.lawful (e : GradeEntry) : Prop := e.name.length = 12 ∧ e.price.getD 0 ≤ 999999 ∧ e.rate ≤ 500

/-- Working settings lie in their ranges, and some port among them has role OFFICE (11.6, R181). -/
def Settings.lawful (st : Settings) : Prop :=
  (∀ c : Chan, ChannelSettings.lawful st.channels[c]) ∧ (30 ≤ st.holdTime ∧ st.holdTime ≤ 3600) ∧
    st.cashStep ∈ allowedSteps ∧ st.cashLimit ≤ Config.maxAmount ∧ st.anonThreshold ≤ Config.maxAmount ∧
    (1 ≤ st.receiptCopies ∧ st.receiptCopies ≤ 3) ∧ (∀ i : Fin 4, textAllowed st.headers[i] = true) ∧
    (∀ i : Fin 2, textAllowed st.footers[i] = true) ∧ (5 ≤ st.stallTime ∧ st.stallTime ≤ 120) ∧
    (1 ≤ st.inhibitLimit ∧ st.inhibitLimit ≤ 120) ∧ (1 ≤ st.refusalLimit ∧ st.refusalLimit ≤ 15) ∧
    drawerTimeLawful st.drawerOn ∧ drawerTimeLawful st.drawerOff ∧ (1 ≤ st.drawerCount ∧ st.drawerCount ≤ 4) ∧
    hasOffice st = true ∧ (∀ g : GradeIx, GradeEntry.lawful st.active[g]) ∧ st.epoch ≤ 65535 ∧
    ∀ k : Container, st.tares[k] ≤ 100000

/-- The working settings, the image a start would load, and the STAGED bank keep to their ranges; and no engine has
counted more refusals than the largest limit (R63, R152, R180, R181). -/
def SettingsLaw (s : State) : Prop :=
  Settings.lawful s.settings ∧ (s.image.checkGood = true → Settings.lawful s.image.content) ∧
    (∀ g : GradeIx, GradeEntry.lawful s.staged[g]) ∧ ∀ p : Printer, (s.printers[p]).refusals ≤ 15

/-! ### Ticket numbers -/

/-- A number the counter has already passed: below its next number, or any number once it is EXHAUSTED. -/
def Counter.passed (n : Nat) : Counter → Prop
  | .valid next => n < next
  | .invalid => True
  | .exhausted => True

/-- The next number lies in its range (R29). -/
def Counter.inRange : Counter → Prop
  | .valid next => 1 ≤ next ∧ next ≤ Config.maxTicketNumber
  | .invalid => True
  | .exhausted => True

/-- The ticket numbers the part holds: in the slots and in the CLOSE records of the journal. -/
def State.heldNumbers (s : State) : List Nat := s.tableNumbers ++ s.journal.filterMap Record.closeNumber

/-- The counter and the number word are in range and agree while the part has power; both have passed every number
the part holds, and no number is held twice (R21, R30, R104, R184). -/
def NumberLaw (s : State) : Prop :=
  s.counter.inRange ∧ s.numberWord.inRange ∧ (s.powered = true → s.numberWord = s.counter) ∧
    (∀ n ∈ s.heldNumbers, s.counter.passed n ∧ s.numberWord.passed n) ∧ s.heldNumbers.Nodup

/-! ### Scale channels -/

/-- The channel record keeps to its ranges, and in FAULT and NO_SIGNAL its run is 0, its freshness timer stopped and
no capture in flight (R1, R5, R9, R12, R17). -/
def Channel.lawful (bridge : Bool) (c : Channel) : Prop :=
  c.run ≤ 255 ∧ c.errorCount ≤ 255 ∧ c.beams.isSome = bridge ∧
    (c.state = .fault ∨ c.state = .noSignal → c.run = 0 ∧ c.freshness = none ∧ c.capture = none) ∧
    (c.state = .over → c.run = 0) ∧
    (c.state = .moving ∨ c.state = .stable ∨ c.state = .over → c.freshness.isSome = true)

def ChannelLaw (s : State) : Prop := ∀ c : Chan, (s.channels[c]).lawful (c != 2)

/-! ### Captures -/

/-- Slot `i` holds a ticket with marker `m`. -/
def State.marks (s : State) (i : Slot) (m : Marker) : Prop := (s.slots[i].bind fun t => t.marker) = some m

/-- Every marker stands for a capture: its channel holds the capture record for its slot and kind, and its port
holds the deferred request with its TAG and CODE; no two markers name one port (R26, R32, R62). -/
def MarkerLaw (s : State) : Prop :=
  (∀ (i : Slot) (m : Marker), s.marks i m →
    ((s.channels[m.channel]).capture.map fun x => (x.kind, x.slot)) = some (m.purpose.kind, i) ∧
      ((s.ports[m.port]).request.map fun q => (q.tag, q.code, q.phase)) = some (m.tag, m.purpose.code, .deferred)) ∧
    ∀ (i k : Slot) (m n : Marker), s.marks i m → s.marks k n → m.port = n.port → i = k

/-- Every capture in flight belongs to a ticket: the slot it names holds a marker for its channel and kind (R1, R26,
R32). -/
def CaptureLaw (s : State) : Prop :=
  ∀ (c : Chan) (x : Capture), (s.channels[c]).capture = some x →
    ((s.slots[x.slot]).bind fun t => t.marker.map fun m => (m.channel, m.purpose.kind)) = some (c, x.kind)

/-- A save in flight has its deferred SAVE_SETTINGS at its port; and, while the part has power, every deferred request
waits for a capture or for a save (R173). -/
def DeferredLaw (s : State) : Prop :=
  (∀ w : Save, s.save = some w →
    ((s.ports[w.port]).request.map fun q => (q.code, q.phase)) = some (0x52, .deferred)) ∧
    ∀ (p : Port) (q : Request), s.powered = true → (s.ports[p]).request = some q → q.phase = .deferred →
      (∃ i m, s.marks i m ∧ m.port = p) ∨ ∃ w, s.save = some w ∧ w.port = p

/-! ### Tickets -/

/-- What a ticket record holds in each of its states (2.3, R23 to R27). -/
def Ticket.stateLaw (t : Ticket) : Prop :=
  match t.state with
  | .opening =>
    t.kind = .truck ∧ t.number = none ∧ (t.marker.map fun m => m.purpose.kind) = some .gross ∧ t.window = none ∧
      t.weighings = [] ∧ t.lines = []
  | .weighing =>
    t.kind = .truck ∧ t.number.isSome = true ∧ (∀ m, t.marker = some m → m.purpose.kind = .dump) ∧ t.window = none ∧
      t.lines.length ≤ 7
  | .counter =>
    t.kind = .walkin ∧ t.number.isSome = true ∧ (∀ m, t.marker = some m → m.purpose.kind = .bin) ∧ t.window = none ∧
      t.lines.length ≤ 7
  | .weighed =>
    t.number.isSome = true ∧ t.marker = none ∧ t.window = none ∧ 1 ≤ t.lines.length ∧ t.lines.length ≤ 8
  | .atWindow =>
    t.number.isSome = true ∧ t.marker = none ∧ t.window.isSome = true ∧ 1 ≤ t.lines.length ∧ t.lines.length ≤ 8

/-- How many weighings a ticket holds for its lines: a truck one more, its gross (R24). -/
def Ticket.weighingCount (t : Ticket) : Nat :=
  match t.kind, t.state with
  | .truck, .opening => 0
  | .truck, _ => t.lines.length + 1
  | .walkin, _ => t.lines.length

/-- The line arithmetic of a line, whatever event formed it last (R73 to R76). -/
def Line.lawful (l : Line) : Prop :=
  l.negative = decide (l.net ≤ 0) ∧ (l.net ≤ 0 → l.autoDed = 0) ∧
    l.payable = payableWeight l.negative l.net l.autoDed l.manualDed ∧
    l.dedClamped = deductClamped l.negative l.net l.autoDed l.manualDed ∧
    l.amount = lineAmount l.payable l.price ∧ l.unpriced = l.price.isNone

/-- A ticket's record is as the spec describes it: its state, its lists, its lines and its total (2.3, R24, R73 to
R77). -/
def Ticket.lawful (t : Ticket) : Prop :=
  t.stateLaw ∧ t.weighings.length = t.weighingCount ∧ (∀ l ∈ t.lines, l.lawful) ∧
    t.total = min (amountSum t.lines) Config.maxAmount ∧
    t.totalClamped = decide (Config.maxAmount < amountSum t.lines)

def TicketLaw (s : State) : Prop := ∀ (i : Slot) (t : Ticket), s.slots[i] = some t → t.lawful

/-- A ticket at the window is held by a PAYOUT port (R87). -/
def HolderLaw (s : State) : Prop :=
  ∀ (i : Slot) (w : Window), (s.slots[i].bind fun t => t.window) = some w → (s.ports[w.holder]).role = .payout

/-! ### Tally -/

/-- Every entry lies in the bucket of its seller, and no seller has two entries (R83 to R85). -/
def TallyLaw (s : State) : Prop :=
  (∀ (b : Fin 64) (w : Fin 4) (e : TallyEntry), s.tally[b][w] = some e → tallyBucket e.seller = b) ∧
    ∀ (b b' : Fin 64) (w w' : Fin 4) (e e' : TallyEntry),
      s.tally[b][w] = some e → s.tally[b'][w'] = some e' → e.seller = e'.seller → b = b' ∧ w = w'

/-! ### Ports and arbiter -/

/-- A port's record keeps to its ranges: at most four frames, three while a request is deferred; the sets hold no
bit outside their events; START and its data stand together; an OFF port hunts and holds no request; and a request
held is one the port's role permits (R166 to R176). -/
def StationPort.lawful (x : StationPort) : Prop :=
  x.output.length ≤ 4 ∧
    (∀ q, x.request = some q → q.phase = .deferred → x.output.length ≤ 3) ∧
    x.latched &&& ~~~latchedEvents = 0 ∧ x.mask &&& ~~~allEvents = 0 ∧
    (x.startData.isSome = true ↔ x.latched &&& Event.start.set ≠ 0) ∧ x.badFrames ≤ 255 ∧
    (x.role = .off → x.receiver = .hunt ∧ x.request = none) ∧
    ∀ q, x.request = some q → (rolesFor q.code).any (fun rs => rs.contains x.role) = true

/-- Every port is lawful, and the port the engine is granted to holds a WAITING request that its role permits, with
room for the answer (R169, R171, R172). -/
def PortLaw (s : State) : Prop :=
  (∀ p : Port, (s.ports[p]).lawful) ∧
    ∀ p : Port, s.requestEngine = some p → (s.ports[p]).grantable = true ∧ s.pointer = p

/-- The law of requests, captures and tickets together: none of its parts stands without the others (R26, R32, R87,
R166 to R173). -/
def RequestLaw (s : State) : Prop :=
  PortLaw s ∧ MarkerLaw s ∧ CaptureLaw s ∧ DeferredLaw s ∧ TicketLaw s ∧ HolderLaw s

/-- The engine does not stay free while a port waits that may be granted (R172). -/
def ArbiterLaw (s : State) : Prop :=
  s.requestEngine = none → s.pendingStart = none → ∀ p : Port, (s.ports[p]).grantable = false

/-! ### Spool and engines -/

/-- The pages of every job, in job order. -/
def State.jobPages (s : State) : List Page := s.jobs.toList.flatMap fun j => (j.map (·.pages)).getD []

/-- Every page is in the free pool or in the page list of exactly one job, and the pool stands in ascending order
(R132). -/
def PageLaw (s : State) : Prop :=
  s.freePages.Pairwise (· < ·) ∧ ∀ p : Page, (s.freePages ++ s.jobPages).count p = 1

/-- A job that stands in a queue. -/
def JobState.queues (x : JobState) : Bool := x != .writing && x != .done

/-- The job record's own law: its counts are in order, and its optional fields stand with its states (R133, R134,
R141). -/
def Job.lawful (j : Job) : Prop :=
  1 ≤ j.pages.length ∧ j.pages.Pairwise (· < ·) ∧ j.written ≤ j.capacity ∧ j.sent ≤ j.written ∧
    1 ≤ j.currentCopy ∧ j.currentCopy ≤ max 1 j.copies ∧
    (j.doneStatus.isSome = true ↔ j.state = .done) ∧
    (j.stall.isSome = true ↔ j.state = .stalled ∧ j.endPending = none) ∧
    (j.endPending.isSome = true → j.state = .printing ∨ j.state = .stalled ∨ j.state = .done) ∧
    (j.owner = .composer → j.closed = true ∧ j.state.queues = true)

def JobLaw (s : State) : Prop := ∀ (jn : JobNo) (j : Job), s.jobs[jn] = some j → j.lawful

/-- A job stands in a queue exactly in the states QUEUED, PRINTING, STALLED and HALTED, in the queue of its own
printer, once; behind the head every job is QUEUED (R135). -/
def QueueLaw (s : State) : Prop :=
  (∀ p : Printer, (s.queues[p]).Nodup) ∧
    (∀ (p : Printer) (jn : JobNo), jn ∈ s.queues[p] →
      ∃ j, s.jobs[jn] = some j ∧ j.printer = p ∧ j.state.queues = true) ∧
    (∀ (jn : JobNo) (j : Job), s.jobs[jn] = some j → j.state.queues = true → jn ∈ s.queues[j.printer]) ∧
    ∀ (p : Printer) (jn : JobNo) (j : Job), jn ∈ (s.queues[p]).tail → s.jobs[jn] = some j → j.state = .queued

/-- The engine record's own law: what its fields hold in each of its states (R152 to R160). -/
def Engine.lawful (e : Engine) : Prop :=
  (e.fault.isSome = true ↔ e.state = .halted) ∧ (e.inhibit.isSome = true ↔ e.state = .inhibited) ∧
    (e.frame.isSome = true → e.state = .sending ∧ e.backoff = none ∧ e.pendingByte.isSome = true) ∧
    (e.backoff.isSome = true → e.state = .sending ∧ e.pendingByte.isSome = true) ∧
    (e.dropping = true → e.frame.isSome = true ∧ e.job = none) ∧
    (e.state = .idle ∨ e.state = .halted ∨ e.state = .off →
      e.job = none ∧ e.position = none ∧ e.pendingByte = none) ∧
    (e.state = .sending ∨ e.state = .inhibited → e.job.isSome = true ∨ e.dropping = true) ∧
    (e.state = .sending → e.pendingByte.isSome = true → e.frame.isSome = true ∨ e.backoff.isSome = true) ∧
    (e.state = .inhibited → e.pendingByte.isSome = true) ∧
    (e.pendingByte.isSome = true → e.dropping = false → e.position.isSome = true)

/-- The engine holds the head of its queue exactly while that head is PRINTING or STALLED; HALTED heads stand behind
HALTED engines; a STALLED job's engine has nothing to send; a stored line being sent is the next unsent one; no
IDLE engine leaves a startable head waiting; OFF follows the enable; and an INHIBITED engine's clock is held low (R135, R139, R141, R144, R155, R158, R162). -/
def EngineLaw (s : State) : Prop :=
  ∀ p : Printer,
    (s.printers[p]).lawful ∧
      (∀ jn, (s.printers[p]).job = some jn →
        ∃ j, s.headJob p = some (jn, j) ∧ (j.state = .printing ∨ j.state = .stalled)) ∧
      (∀ jn j, s.headJob p = some (jn, j) →
        (j.state = .printing ∨ j.state = .stalled → (s.printers[p]).job = some jn) ∧
          (j.state = .halted → (s.printers[p]).state = .halted) ∧
          (j.state = .stalled → j.endPending = none → (s.printers[p]).pendingByte = none) ∧
          ((s.printers[p]).state = .idle → j.startable = false)) ∧
      (∀ jn j n k, (s.printers[p]).job = some jn → s.jobs[jn] = some j →
        (s.printers[p]).position = some { part := .stored n, next := k } → n = j.sent ∧ j.sent < j.written) ∧
      ((s.printers[p]).state = .idle → s.settings.enables[p] = true) ∧
      ((s.printers[p]).state = .off → s.settings.enables[p] = false) ∧
      (s.taking = true → (s.printers[p]).state = .inhibited → (s.printers[p]).clockLow = true)

/-- The law of spool, queues and engines together (R132 to R165). -/
def SpoolLaw (s : State) : Prop := PageLaw s ∧ JobLaw s ∧ QueueLaw s ∧ EngineLaw s

/-! ### The words the claims use of one command -/

/-- The part takes commands, the engine is granted to port `p`, and the request that waits there is this one (R172). -/
def GrantedTo (s : State) (p : Port) (tag code : Byte) (data : List Byte) : Prop :=
  s.taking = true ∧ s.requestEngine = some p ∧
    s.ports[p].request = some { tag := tag, code := code, data := data, phase := .waiting }

/-- After the event the engine is free, or granted by the pointer's order to the first port that waits with room; it
stays free once a start has been called for (R172, R187). -/
def NextGrant (s t : State) : Prop :=
  if t.pendingStart.isSome then t.requestEngine = none ∧ t.pointer = s.pointer
  else
    match (grantOrder s.pointer).find? fun q => (t.ports[q]).grantable with
    | some q => t.requestEngine = some q ∧ t.pointer = q
    | none => t.requestEngine = none ∧ t.pointer = s.pointer

/-- Apart from the port records, the engine's grant and the pointer, `t` is `u`. -/
def Apart (t u : State) : Prop :=
  t = { u with ports := t.ports, requestEngine := t.requestEngine, pointer := t.pointer }

/-- A port whose pending request has ended with a response at the tail of its queue (R171). -/
def answeredPort (x : StationPort) (r : Response) : StationPort :=
  { x with request := none, output := x.output ++ [r] }

/-- A port at which an event was latched, or not. -/
def latchedIf (b : Bool) (e : Event) (x : StationPort) : StationPort :=
  if b then { x with latched := x.latched ||| e.set } else x

/-- Port `p` is answered, no other port record changes, and the next grant follows. -/
def Answered (s t : State) (p : Port) (r : Response) : Prop :=
  (∀ q, q ≠ p → t.ports[q] = s.ports[q]) ∧ t.ports[p] = answeredPort s.ports[p] r ∧ NextGrant s t

/-- An event is latched at every port that `who` picks, port `p` is answered, and the next grant follows. -/
def AnsweredLatching (s t : State) (p : Port) (r : Response) (e : Event) (who : StationPort → Bool) : Prop :=
  (∀ q, q ≠ p → t.ports[q] = latchedIf (who s.ports[q]) e s.ports[q]) ∧
    t.ports[p] = answeredPort (latchedIf (who s.ports[p]) e s.ports[p]) r ∧ NextGrant s t

/-- The one slot whose ticket holds number `n` is `i`, with record `t` (R31). -/
def TicketAt (s : State) (n : Nat) (i : Slot) (t : Ticket) : Prop :=
  1 ≤ n ∧ n ≤ Config.maxTicketNumber ∧ s.slots[i] = some t ∧ t.number = some n ∧
    ∀ (k : Slot) (u : Ticket), s.slots[k] = some u → u.number = some n → k = i

/-- No slot holds a ticket with number `n`, which lies in the range of ticket numbers (R31). -/
def NoTicket (s : State) (n : Nat) : Prop :=
  1 ≤ n ∧ n ≤ Config.maxTicketNumber ∧ ∀ (k : Slot) (u : Ticket), s.slots[k] = some u → u.number ≠ some n

/-- The command is carried out at port `p`: the response is given, and nothing else changes but the next grant. -/
def Refuses (i : Instr) (s : State) (p : Port) (r : Response) : Prop :=
  ∃ t, exec i s = .next t ∧ Apart t s ∧ Answered s t p r

/-- Every port record is first changed by `f`, port `p` is then answered, and the next grant follows. -/
def AnsweredAfter (s t : State) (p : Port) (r : Response) (f : Port → StationPort → StationPort) : Prop :=
  (∀ q, q ≠ p → t.ports[q] = f q s.ports[q]) ∧ t.ports[p] = answeredPort (f p s.ports[p]) r ∧ NextGrant s t

/-- The request of port `p` is left pending in phase DEFERRED, no other port record changes, and the next grant
follows (R173). -/
def DeferredAt (s t : State) (p : Port) (q : Request) : Prop :=
  (∀ k, k ≠ p → t.ports[k] = s.ports[k]) ∧ t.ports[p] = { s.ports[p] with request := some q } ∧ NextGrant s t

/-- The six parts of the state that the Spool Manager and the Printer Engines hold, taken from `v`. -/
def withSpool (u v : State) : State :=
  { u with
    pageMem := v.pageMem, boldMarks := v.boldMarks, freePages := v.freePages, jobs := v.jobs, queues := v.queues,
    printers := v.printers }

/-- The lowest free job number is `j` (R133). -/
def LowestFreeJob (s : State) (j : JobNo) : Prop := s.jobs[j] = none ∧ ∀ k : JobNo, k < j → s.jobs[k] ≠ none

/-- The lowest-numbered FREE slot is `i` (R22). -/
def LowestFreeSlot (s : State) (i : Slot) : Prop := s.slots[i] = none ∧ ∀ k : Slot, k < i → s.slots[k] ≠ none

/-- Channel `c` holds a capture for slot `i`, whose ticket `t` holds the marker `m` of it (R26, R33). -/
def CaptureFor (s : State) (c : Chan) (i : Slot) (t : Ticket) (m : Marker) : Prop :=
  (∃ x, s.channels[c].capture = some x ∧ x.slot = i ∧ x.kind = m.purpose.kind) ∧ s.slots[i] = some t ∧
    t.marker = some m ∧ m.channel = c

/-- What a failed capture leaves: an OPENING slot FREE, any other ticket as it was but for its marker (R34, R35). -/
def afterFailure (t : Ticket) (m : Marker) : Option Ticket :=
  match m.purpose with
  | .gross => none
  | .dump .. | .bin .. => some { t with marker := none }

/-- The byte that completes a good message of status `status` and signed weight `w` arrives at channel `c` (R3,
R4). -/
def GoodMessageAt (s : State) (c : Chan) (b : Byte) (status : Status) (w : Int) : Prop :=
  s.taking = true ∧ b = Config.endMark ∧
    ∃ held : List Byte, s.channels[c].receiver = .assembling held ∧ held.length = 11 ∧
      judgeMessage held b = some (status, w)

/-- The byte that makes the message at channel `c` a bad one arrives: a start mark within it, or a last byte that
leaves it not good (R3, R4, assumption 8). -/
def MessageBreaksAt (s : State) (c : Chan) (b : Byte) : Prop :=
  s.taking = true ∧ ∃ held : List Byte, s.channels[c].receiver = .assembling held ∧
    (b = Config.startMark ∨ (11 ≤ held.length ∧ judgeMessage held b = none))

/-- A printed line of 32 columns, counted from 1: each field's text stands from its column on, and every column that
no field takes holds a space (7.4). -/
def LaidOut (text : Text) (fields : List (Nat × Text)) : Prop :=
  text.length = 32 ∧ ∀ k, k < 32 → text[k]? = some
    ((fields.findSome? fun f => if f.1 ≤ k + 1 then f.2[k + 1 - f.1]? else none).getD 0x20)

/-- The field of a figure that is right-aligned up to a column (R120). -/
def endsAt (column : Nat) (figure : Text) : Nat × Text := (column + 1 - figure.length, figure)

/-- A text of decimal digits that reads as a number (R120). -/
def ReadsAs (digits : Text) (n : Nat) : Prop :=
  (∀ b ∈ digits, 0x30 ≤ b.toNat ∧ b.toNat ≤ 0x39) ∧ digits.foldl (fun v b => 10 * v + (b.toNat - 0x30)) 0 = n

/-- A port record to which the byte or the expiry brought a bad frame (R168). -/
def badFramed (x : StationPort) : StationPort :=
  { x with receiver := .hunt, badFrames := min 255 (x.badFrames + 1), latched := x.latched ||| Event.linkError.set }

/-- The bytes of a request frame: SYNC, LEN, TAG, CODE, data, CHECK (10.9.1). -/
def requestFrame (tag code : Byte) (data : List Byte) : List Byte :=
  let body := [tag, code] ++ data
  let rest := BitVec.ofNat 8 body.length :: body
  Config.sync :: rest ++ [0 - byteSum rest]

/-- The bytes of one copy of a job: the copy marker line where copies are above 1, the written lines, CUT (R158). -/
def copyStream (s : State) (j : Job) (copy : Nat) : List LinkByte :=
  (if 1 < j.copies then copyMarkerBytes { j with currentCopy := copy } else []) ++
    ((List.range j.written).flatMap fun n => storedLineBytes (s.storedLine j n)) ++ [controlCode Config.codeCut]

/-- What a printer that accepts every frame takes in `n` frames, and the state after them. -/
def acceptedRun (p : Printer) : Nat → State → List LinkByte × State
  | 0, s => ([], s)
  | n + 1, s =>
    match exec (.printerFrameEnd p .accepted) s with
    | .next t => ((s.printers[p]).pendingByte.toList ++ (acceptedRun p n t).1, (acceptedRun p n t).2)
    | _ => ([], s)

/-- The engine record of a printer whose engine has nothing to do (R152). -/
def Engine.atRest (e : Engine) : Prop :=
  e.job = none ∧ e.position = none ∧ e.pendingByte = none ∧ e.frame = none ∧ e.backoff = none ∧ e.inhibit = none ∧
    e.dropping = false

/-- The engine with a byte to send: the frame begins, or, with the clock line low, the engine is inhibited with the
inhibit limit in force (R153, R155). -/
def sendsByte (s : State) (e : Engine) (pos : Position) (b : LinkByte) : Engine :=
  if e.clockLow then
    { e with
      state := .inhibited, position := some pos, pendingByte := some b, inhibit := some s.settings.inhibitLimit }
  else { e with state := .sending, position := some pos, pendingByte := some b, frame := some 1 }

/-- The job's record after its end, and the free pool: a COMPOSER job is released, a port job stays in DONE with its
status and its pages (R133, R135, R140). -/
def JobEnded (s u : State) (jn : JobNo) (j : Job) (d : DoneStatus) : Prop :=
  match j.owner with
  | .composer =>
    u.jobs = s.jobs.set jn none ∧ (∀ q, q ∈ u.freePages ↔ q ∈ s.freePages ∨ q ∈ j.pages) ∧
      u.freePages.Pairwise (· < ·)
  | .port _ =>
    u.jobs = s.jobs.set jn (some { j with state := .done, doneStatus := some d, stall := none }) ∧
      u.freePages = s.freePages

/-- The ports with JOB_DONE latched at the owner of a job, if a port owns it (R140). -/
def ownerLatched (j : Job) (q : Port) (x : StationPort) : StationPort :=
  latchedIf (decide (j.owner = .port q)) .jobDone x

/-- The engine that has nothing more to send, IDLE or, with its printer disabled, OFF (R161, R162). -/
def restedEngine (s : State) (p : Printer) : Engine :=
  { s.printers[p] with
    state := if s.settings.enables[p] then .idle else .off
    job := none, position := none, pendingByte := none, frame := none, refusals := 0, backoff := none
    inhibit := none, dropping := false }

/-- The engine of a printer halts with a fault kind: its job becomes HALTED, or leaves the queue and ends with its
pending status, latching JOB_DONE at its owner; the engine holds no job; and PRINTER_HALTED is latched at every port
whose alias table names the printer (R144, R160). -/
def EngineHalts (s t : State) (p : Printer) (k : FaultKind) (refusals : Nat) : Prop :=
  let engine : Engine :=
    { s.printers[p] with
      state := .halted, fault := some k, job := none, position := none, pendingByte := none, frame := none
      backoff := none, inhibit := none, refusals := refusals }
  let halted (q : Port) (x : StationPort) : StationPort :=
    latchedIf (decide (∃ n : Fin 4, s.settings.printersOf[q][n] = some p)) .printerHalted x
  match s.printers[p].job.bind fun jn => s.jobs[jn].map fun j => (jn, j) with
  | none => t = { s with printers := s.printers.set p engine, ports := mapEntries halted s.ports }
  | some (jn, j) =>
    match j.endPending with
    | none =>
      t = { s with
        printers := s.printers.set p engine, jobs := s.jobs.set jn (some { j with state := .halted })
        ports := mapEntries halted s.ports }
    | some x =>
      JobEnded s t jn j x.status ∧
        t = { s with
          printers := s.printers.set p engine, jobs := t.jobs, freePages := t.freePages
          queues := s.queues.set j.printer (s.queues[j.printer].filter fun k => k != jn)
          ports := mapEntries (fun q x => halted q (ownerLatched j q x)) s.ports }

/-- The engine turned to CUT where a copy is to be ended and it stands before the first byte of a line (R159). -/
def turnedToCut (j : Job) (e : Engine) : Engine :=
  if j.endPending.isSome ∧ (e.position.any fun x => x.next = 0 && x.part != .cut) then
    { e with position := some { part := .cut, next := 0 }, pendingByte := some (controlCode Config.codeCut) }
  else e

end Sys2Proof.Machine
end

