-- ==== Sys2Proof/Certificates/Slice0/Obligations.lean ====
section
/-! DEFINITION. The statements about the WT-448, for the provers. Each says of a command, or of every command, what the
rules of the spec say it does: the state it leaves, the port it answers, the ports it latches an event at, and, through
`Apart` and the record updates, that nothing else changes. -/

open Sys2Proof Sys2Proof.Machine

/-! ### The queue, the laws, the whole machine -/

/-- A step carries out the command at the front of the queue on the state with the rest of the queue. On an empty
queue the part idles: the model's choice (assumption 3). -/
def Obligations.StepRunsFrontCommand : Prop :=
  (∀ (s : State) (c : Instr) (rest : List Instr), s.pending = c :: rest →
    step s = exec c { s with pending := rest }) ∧
    ∀ s : State, s.pending = [] → step s = .next s

/-- Every law holds of the state after reset; that this is the cold start of a new part is the model's choice
(assumption 2). -/
def Obligations.LawsHoldAfterReset : Prop :=
  (MemoryLaw State.reset ∧ JournalLaw State.reset ∧ TotalsLaw State.reset ∧ SettingsLaw State.reset ∧
    SaveLaw State.reset ∧ NumberLaw State.reset ∧ ChannelLaw State.reset ∧ TallyLaw State.reset) ∧
    RequestLaw State.reset ∧ ArbiterLaw State.reset ∧ SpoolLaw State.reset

/-- Every page stays in the free pool or in the list of exactly one job; and page memory and bold marks stay in
canonical form, addresses rising and no unwritten byte listed. -/
def Obligations.SpoolMemoryStaysLawful : Prop :=
  (∀ s t : State, PageLaw s → step s = .next t → PageLaw t) ∧
  (∀ s t : State, MemoryLaw s → step s = .next t → MemoryLaw t)

/-- The books keep their laws at every step: the journal holds at most 128 records; every total stays in its range, a
marked one at its maximum, and the day number in 1..65 535; and every tally entry stays in the bucket of its seller,
no seller having two. -/
def Obligations.BooksStayLawful : Prop :=
  (∀ s t : State, JournalLaw s → step s = .next t → JournalLaw t) ∧
  (∀ s t : State, TotalsLaw s → step s = .next t → TotalsLaw t) ∧
  (∀ s t : State, TallyLaw s → step s = .next t → TallyLaw t)

/-- The working settings keep to their ranges with some port OFFICE, and the content of a save in flight equals them.
-/
def Obligations.SettingsStayInRange : Prop :=
  ∀ s t : State, SettingsLaw s → SaveLaw s → step s = .next t → SettingsLaw t ∧ SaveLaw t

/-- No ticket number is held twice, in slots and CLOSE records together, and counter and word have passed every one.
-/
def Obligations.TicketNumbersStayUnique : Prop :=
  ∀ s t : State, NumberLaw s → step s = .next t → NumberLaw t

/-- A channel in FAULT or NO_SIGNAL has no run, no freshness timer and no capture; the counts stay within 255. -/
def Obligations.ChannelsStayLawful : Prop :=
  ∀ s t : State, ChannelLaw s → step s = .next t → ChannelLaw t

/-- Markers, captures and deferred requests stay matched one to one, and the port records keep to their ranges. -/
def Obligations.RequestsStayMatched : Prop :=
  ∀ s t : State, RequestLaw s → step s = .next t → RequestLaw t

/-- The request engine does not stay free while some port waits with room in its output queue. -/
def Obligations.ArbiterNeverIdlesOnWork : Prop :=
  ∀ s t : State, ArbiterLaw s → step s = .next t → ArbiterLaw t

/-- Jobs, queues and engines stay matched: every queued job once in its printer's queue, only the head started, and an
engine's job the head it sends. -/
def Obligations.SpoolStaysMatched : Prop :=
  ∀ s t : State, SpoolLaw s → step s = .next t → SpoolLaw t

/-- A command that cannot occur changes nothing: a request whose CODE is not granted, and, while the part is without
power or RESET is driven, anything but a pin level, the clock's second, power and the RESET line. The model's choice
(assumptions 4, 10, 11). -/
def Obligations.CommandsThatCannotOccurChangeNothing : Prop :=
  (∀ (i : Instr) (code : Byte) (s : State), requestCode i = some code →
    (∀ p tag data, ¬ GrantedTo s p tag code data) → exec i s = .next s) ∧
    ∀ (i : Instr) (s : State), s.taking = false →
      (match i with
        | .beamLevelChange .. | .clockLineLow .. | .clockLineRelease _ | .clockSecond | .powerOn | .resetLine
        | .resetLineRelease | .lossOfPower .. => False
        | _ => True) →
      exec i s = .next s

/-- A granted request whose answer is neither OK nor CLAMPED has changed nothing but its own port's answer and the
next grant. -/
def Obligations.RefusedRequestsChangeNothing : Prop :=
  ∀ (i : Instr) (code tag : Byte) (data : List Byte) (s t : State) (p : Port) (r : Response),
    requestCode i = some code → GrantedTo s p tag code data → exec i s = .next t →
      t.ports[p].output = s.ports[p].output ++ [r] → r.outcome ≠ .ok → r.outcome ≠ .clamped →
        Apart t s ∧ Answered s t p r

/-- A granted request is answered once, with its TAG and CODE, or, if it is one of the four deferred ones, left
pending in phase DEFERRED. -/
def Obligations.GrantedRequestsAreAnsweredOnce : Prop :=
  ∀ (i : Instr) (code tag : Byte) (data : List Byte) (s : State) (p : Port),
    RequestLaw s → requestCode i = some code → GrantedTo s p tag code data →
      ∃ t, exec i s = .next t ∧
        ((∃ o d, t.ports[p].request = none ∧ t.ports[p].output = s.ports[p].output ++ [⟨tag, code, o, d⟩]) ∨
          (code ∈ [(0x10 : Byte), 0x11, 0x13, 0x52] ∧ t.ports[p].request = some ⟨tag, code, data, .deferred⟩ ∧
            t.ports[p].output = s.ports[p].output))

/-- A request whose data has one length only, given data shorter or longer, is answered BAD_PARAM with nothing
changed. -/
def Obligations.RequestsOfFixedLengthRefuseOtherData : Prop :=
  ∀ (i : Instr) (code : Byte) (n : Nat),
    (i, code, n) ∈
      [(.getEvents, 0x01, 0), (.ackEvents, 0x02, 2), (.setMask, 0x03, 2), (.dump, 0x11, 7), (.openWalkin, 0x12, 0),
        (.addBin, 0x13, 6), (.closeWeighing, 0x14, 4), (.deduct, 0x15, 9), (.void, 0x18, 5), (.getTicket, 0x19, 5),
        (.listTickets, 0x1A, 1), (.readScale, 0x20, 1), (.clearScaleFault, 0x21, 1), (.switchPrices, 0x29, 0),
        (.getGrade, 0x2A, 2), (.setContainer, 0x2B, 5), (.reprice, 0x2C, 4), (.review, 0x30, 4),
        (.release, 0x31, 4), (.pay, 0x32, 5), (.drawerKick, 0x33, 0), (.journalPeek, 0x38, 1),
        (.journalPop, 0x39, 5), (.getTotals, 0x3A, 1), (.dayClose, 0x3B, 0), (.reprint, 0x3C, 4),
        (.jobOpen, 0x40, 2), (.jobSubmit, 0x42, 3), (.jobClose, 0x43, 1), (.jobCancel, 0x44, 1),
        (.jobStatus, 0x45, 1), (.jobRelease, 0x46, 1), (.printerResume, 0x48, 1), (.printerFlush, 0x49, 1),
        (.printerRedirect, 0x4A, 2), (.printerStatus, 0x4B, 1), (.getParam, 0x51, 2), (.saveSettings, 0x52, 0),
        (.setNextNumber, 0x53, 4), (.restart, 0x55, 0), (Instr.coldClear, (0x56 : Byte), 0)] →
    ∀ (s : State) (p : Port) (tag : Byte) (data : List Byte), GrantedTo s p tag code data → data.length ≠ n →
      Refuses i s p ⟨tag, code, .badParam, []⟩

/-- The working settings are changed by SET_PARAM, SWITCH_PRICES, SET_CONTAINER, SET_ALIAS and the starts; the image
by a save's completion, the starts and a loss of power; the number word by issuance, SET_NEXT_NUMBER, COLD_CLEAR and a
write cut off by a loss of power. The journal changes at its ends alone: PAY, VOID and DAY_CLOSE append one record at
the tail, JOURNAL_POP removes the head, and a cold start empties it. -/
def Obligations.StoresAndJournalChangeOnlyByTheirCommands : Prop :=
  (∀ (i : Instr) (s t : State), exec i s = .next t →
    (i ∉ [Instr.setParam, .switchPrices, .setContainer, .setAlias, .powerOn, .resetLine, .restartWarmStart,
        .coldClearColdStart] → t.settings = s.settings) ∧
      (i ∉ [Instr.powerOn, .resetLine, .restartWarmStart, .coldClearColdStart] →
        (∀ x, i ≠ .saveCompletion x) → (∀ a b, i ≠ .lossOfPower a b) → t.image = s.image) ∧
      (i ∉ [Instr.openWalkin, .setNextNumber, .coldClear] → (∀ c b, i ≠ .scaleByteReceived c b) →
        (∀ a, i ≠ .lossOfPower a true) → t.numberWord = s.numberWord)) ∧
  (∀ (i : Instr) (s t : State), exec i s = .next t →
    t.journal = s.journal ∨
      (i ∈ [Instr.pay, .void, .dayClose] ∧ ∃ r, t.journal = s.journal ++ [r]) ∨
      (i = .journalPop ∧ ∃ r, s.journal = r :: t.journal) ∨
      (i ∈ [Instr.powerOn, .coldClearColdStart] ∧ t.journal = []))

/-- While a ticket is open its weighings and lines are not removed: one command adds one weighing at the end at most,
and the ticket keeps its kind, its opening port and its opening time. -/
def Obligations.OpenTicketsOnlyGrow : Prop :=
  ∀ (i : Instr) (s t : State) (k : Slot) (a b : Ticket), TicketLaw s → exec i s = .next t →
    s.slots[k] = some a → t.slots[k] = some b → a.number ≠ none → b.number = a.number →
      (∃ ws, b.weighings = a.weighings ++ ws ∧ ws.length ≤ 1 ∧ b.lines.length = a.lines.length + ws.length) ∧
        b.kind = a.kind ∧ b.openedBy = a.openedBy ∧ b.openedAt = a.openedAt

/-! ### Requests that only read, events, tariff -/

/-- LIST_TICKETS and READ_SCALE answer what they read and change nothing, BAD_PARAM out of range. GET_TICKET answers
the named part of a found ticket and changes nothing the spec names; the hold time remaining that part 0 reports is
left open within the time the timer was given (the model's free value, assumption 1). How the parts of a ticket are
encoded follows assumptions 15 and 16; the status byte of READ_SCALE's last reading follows assumption 14, and that the
last reading is one optional group follows assumption 15. -/
def Obligations.TicketsAndScalesAreRead : Prop :=
  (∀ (s : State) (p : Port) (tag : Byte),
    (∀ first : Nat, first < 256 → GrantedTo s p tag 0x1A (enc1 first) →
      if first ≤ 47 then
        ∃ t, exec .listTickets s = .next t ∧ Apart t s ∧ Answered s t p ⟨tag, 0x1A, .ok, listResponse s first⟩
      else Refuses .listTickets s p ⟨tag, 0x1A, .badParam, []⟩) ∧
    (∀ n : Nat, 3 ≤ n → n < 256 → GrantedTo s p tag 0x20 (enc1 n) →
      Refuses .readScale s p ⟨tag, 0x20, .badParam, []⟩) ∧
    (∀ c : Chan, GrantedTo s p tag 0x20 (enc1 c.val) → ∃ t, exec .readScale s = .next t ∧ Apart t s ∧
      Answered s t p ⟨tag, 0x20, .ok, (s.channels[c]).encView⟩)) ∧
  (∀ (s : State) (p : Port) (tag : Byte) (n part : Nat), n < 4294967296 → part < 256 →
    GrantedTo s p tag 0x19 (enc4 n ++ enc1 part) →
    (n = 0 ∨ 99999999 < n ∨ 3 < part → Refuses .getTicket s p ⟨tag, 0x19, .badParam, []⟩) ∧
    (part ≤ 3 → NoTicket s n → Refuses .getTicket s p ⟨tag, 0x19, .noTicket, []⟩) ∧
    ∀ (i : Slot) (t : Ticket), part ≤ 3 → TicketAt s n i t →
      (∃ u, exec .getTicket s = .next u ∧
        Apart u { s with freeReads := s.freeReads + (if part = 0 ∧ t.window.isSome then 1 else 0) } ∧
        Answered s u p ⟨tag, 0x19, .ok, encTicketPart s t part⟩) ∧
      ∀ w, t.window = some w → holdRemaining s w ≤ w.hold)

/-- JOURNAL_PEEK, GET_TOTALS, GET_GRADE and GET_TALLY answer what they read and change nothing, BAD_PARAM out of
range; an empty journal gives JOURNAL_EMPTY. How records and totals are encoded follows assumptions 13, 15 and 16, and
that parts 1 to 3 of a DAY_END record are empty lists is the model's choice (assumption 25). -/
def Obligations.GradesTalliesAndBooksAreRead : Prop :=
  ∀ (s : State) (p : Port) (tag : Byte),
    (∀ part : Nat, part < 256 → GrantedTo s p tag 0x38 (enc1 part) →
      (3 < part → Refuses .journalPeek s p ⟨tag, 0x38, .badParam, []⟩) ∧
      (part ≤ 3 → s.journal = [] → Refuses .journalPeek s p ⟨tag, 0x38, .journalEmpty, []⟩) ∧
        ∀ head rest, part ≤ 3 → s.journal = head :: rest → ∃ t, exec .journalPeek s = .next t ∧ Apart t s ∧
          Answered s t p ⟨tag, 0x38, .ok, enc1 (rest.length + 1) ++ head.encPart part⟩) ∧
    (∀ g : Nat, 65 ≤ g → g < 256 → GrantedTo s p tag 0x3A (enc1 g) →
      Refuses .getTotals s p ⟨tag, 0x3A, .badParam, []⟩) ∧
    (GrantedTo s p tag 0x3A (enc1 0) → ∃ t, exec .getTotals s = .next t ∧ Apart t s ∧
      Answered s t p ⟨tag, 0x3A, .ok, encOverall s⟩) ∧
    (∀ g : GradeIx, GrantedTo s p tag 0x3A (enc1 g.number) → ∃ t, exec .getTotals s = .next t ∧ Apart t s ∧
      Answered s t p ⟨tag, 0x3A, .ok, encGradeTotals s g⟩) ∧
    (∀ bank g : Nat, bank < 256 → g < 256 → 2 ≤ bank ∨ g = 0 ∨ 65 ≤ g → GrantedTo s p tag 0x2A (enc1 bank ++ enc1 g) →
      Refuses .getGrade s p ⟨tag, 0x2A, .badParam, []⟩) ∧
    (∀ (staged : Bool) (g : GradeIx), GrantedTo s p tag 0x2A (encFlag staged ++ enc1 g.number) →
      ∃ t, exec .getGrade s = .next t ∧ Apart t s ∧
        Answered s t p ⟨tag, 0x2A, .ok,
          encEntry (if staged then s.staged[g] else s.settings.active[g]) ++ enc2 s.settings.epoch ++
            encFlag (decide (s.staged[g] ≠ s.settings.active[g]))⟩) ∧
    (∀ id : Text, id.length < 256 → id = [] ∨ 16 < id.length ∨ (∃ b ∈ id, printable b = false) →
      GrantedTo s p tag 0x34 (encText id) → Refuses .getTally s p ⟨tag, 0x34, .badParam, []⟩) ∧
    ∀ id : Text, 1 ≤ id.length → id.length ≤ 16 → (∀ b ∈ id, printable b = true) →
      GrantedTo s p tag 0x34 (encText id) →
        ∃ t, exec .getTally s = .next t ∧ Apart t s ∧
          ∃ d, Answered s t p ⟨tag, 0x34, .ok,
            encText (id.map foldUpper) ++ enc1 (tallyBucket (id.map foldUpper)).val ++
              enc1 (s.emptyWays (tallyBucket (id.map foldUpper))) ++ encOpt encTallyEntry d ++
              enc5 (s.allowance (id.map foldUpper))⟩ ∧
            ∀ w e, d = some (w, e) ↔
              s.tallyWay (id.map foldUpper) = some w ∧ s.tally[tallyBucket (id.map foldUpper)][w] = some e

/-- JOB_STATUS, PRINTER_STATUS and GET_PARAM answer what they read and change nothing, BAD_PARAM out of range or for
no parameter; a free job number gives NO_JOB. How jobs, printers and parameters are encoded follows assumptions 13, 14
and 15. -/
def Obligations.JobsPrintersAndSettingsAreRead : Prop :=
  ∀ (s : State) (p : Port) (tag : Byte),
    (∀ n : Nat, 32 ≤ n → n < 256 → GrantedTo s p tag 0x45 (enc1 n) →
      Refuses .jobStatus s p ⟨tag, 0x45, .badParam, []⟩) ∧
    (∀ n : Nat, 3 ≤ n → n < 256 → GrantedTo s p tag 0x4B (enc1 n) →
      Refuses .printerStatus s p ⟨tag, 0x4B, .badParam, []⟩) ∧
    (∀ jn : JobNo, GrantedTo s p tag 0x45 (enc1 jn.val) →
      (s.jobs[jn] = none → Refuses .jobStatus s p ⟨tag, 0x45, .noJob, []⟩) ∧
        ∀ j, s.jobs[jn] = some j → ∃ t, exec .jobStatus s = .next t ∧ Apart t s ∧
          Answered s t p ⟨tag, 0x45, .ok, encJob s jn j⟩) ∧
    (∀ k : Printer, GrantedTo s p tag 0x4B (enc1 k.val) → ∃ t, exec .printerStatus s = .next t ∧ Apart t s ∧
      Answered s t p ⟨tag, 0x4B, .ok, printerView s k⟩) ∧
    (∀ n ix : Nat, n < 256 → ix < 256 → GrantedTo s p tag 0x51 (enc1 n ++ enc1 ix) →
      (paramItem s n ix = none → Refuses .getParam s p ⟨tag, 0x51, .badParam, []⟩) ∧
        ∀ d, paramItem s n ix = some d → ∃ t, exec .getParam s = .next t ∧ Apart t s ∧
          Answered s t p ⟨tag, 0x51, .ok, d⟩)

/-- GET_EVENTS answers the port's latched and level events, its mask, its START data and its bad-frame count, and
changes nothing. ACK_EVENTS clears the named latched events at the requesting port, START taking its data with it;
SET_MASK replaces the port's mask; a set with a bit outside the eleven events is refused. ATTN is driven exactly while
some event present in the port's set, latched or level, is in its mask; the level events are JOURNAL_WAITING with a
record in the journal and JOURNAL_HIGH with 112, at OFFICE ports alone. That the output is a function of the state, not
driven without power, is the model's (assumption 22), and that the START data is one optional item follows assumption
15. -/
def Obligations.EventSetsAreReadAckedAndMasked : Prop :=
  (∀ (s : State) (p : Port) (tag : Byte),
    (GrantedTo s p tag 0x01 [] → ∃ t, exec .getEvents s = .next t ∧ Apart t s ∧
      Answered s t p ⟨tag, 0x01, .ok,
        encEvents s.ports[p].latched ++ encEvents (levelEvents s.ports[p].role s.journal.length) ++
          encEvents s.ports[p].mask ++ encOpt StartData.enc s.ports[p].startData ++ enc1 s.ports[p].badFrames⟩)) ∧
  (∀ (s : State) (p : Port) (tag : Byte) (e : EventSet),
    (GrantedTo s p tag 0x02 (encEvents e) →
      (e &&& ~~~(0x07FF : EventSet) ≠ 0 → Refuses .ackEvents s p ⟨tag, 0x02, .badParam, []⟩) ∧
        (e &&& ~~~(0x07FF : EventSet) = 0 → ∃ t, exec .ackEvents s = .next t ∧ Apart t s ∧
          (∀ q, q ≠ p → t.ports[q] = s.ports[q]) ∧
          t.ports[p] = answeredPort
            { s.ports[p] with
              latched := s.ports[p].latched &&& ~~~e
              startData := if e.getLsbD 0 then none else s.ports[p].startData }
            ⟨tag, 0x02, .ok, encEvents (s.ports[p].latched &&& ~~~e)⟩ ∧
          NextGrant s t)) ∧
    (GrantedTo s p tag 0x03 (encEvents e) →
      (e &&& ~~~(0x07FF : EventSet) ≠ 0 → Refuses .setMask s p ⟨tag, 0x03, .badParam, []⟩) ∧
        (e &&& ~~~(0x07FF : EventSet) = 0 → ∃ t, exec .setMask s = .next t ∧ Apart t s ∧
          (∀ q, q ≠ p → t.ports[q] = s.ports[q]) ∧
          t.ports[p] = answeredPort { s.ports[p] with mask := e } ⟨tag, 0x03, .ok, encEvents e⟩ ∧ NextGrant s t))) ∧
  (∀ (s : State) (p : Port),
    (s.powered = true → (attnDriven s p = true ↔
      ∃ k : Nat, (s.ports[p].latched ||| levelEvents s.ports[p].role s.journal.length).getLsbD k = true ∧
        s.ports[p].mask.getLsbD k = true)) ∧
    (s.powered = false → attnDriven s p = false)) ∧
  ∀ (role : Role) (records k : Nat), (levelEvents role records).getLsbD k = true ↔
    role = .office ∧ ((k = 9 ∧ 1 ≤ records) ∨ (k = 10 ∧ 112 ≤ records))

/-- SET_GRADE replaces the whole STAGED entry of a grade, its name filled out to 12 characters; SWITCH_PRICES copies
STAGED into ACTIVE, raises the epoch and latches PRICES_SWITCHED at every port; SET_CONTAINER replaces one tare. Each
is refused SETTINGS_BUSY while a save is in flight, and SET_GRADE and SET_CONTAINER are refused BAD_PARAM out of
range. SET_ALIAS replaces one entry of one port's alias table in the working settings: BAD_PARAM out of range, then
SETTINGS_BUSY while a save is in flight. That its answer gives the port's four entries with no count byte is the
model's choice (assumption 23). -/
def Obligations.TariffRequestsEditTheBanks : Prop :=
  (rolesFor 0x28 = some [.office] ∧ rolesFor 0x29 = some [.office] ∧ rolesFor 0x2B = some [.office] ∧
  ∀ (s : State) (p : Port) (tag : Byte),
    (∀ (g : Nat) (name : Text) (price : Option Nat) (rate : Nat) (restricted disabled : Bool), g < 256 →
      name.length < 256 → price.getD 0 < 4294967296 → rate < 65536 →
      GrantedTo s p tag 0x28
        (enc1 g ++ encText name ++ encOpt enc4 price ++ enc2 rate ++ encFlag restricted ++ encFlag disabled) →
        if h : (1 ≤ g ∧ g ≤ 64) ∧ name.length ≤ 12 ∧ (∀ b ∈ name, printable b = true) ∧ price.getD 0 ≤ 999999 ∧ rate ≤ 500 then
          (s.save ≠ none → Refuses .setGrade s p ⟨tag, 0x28, .settingsBusy, []⟩) ∧
          (s.save = none → ∃ t, exec .setGrade s = .next t ∧
            Apart t { s with
              staged := s.staged.set (g - 1)
                ⟨name ++ List.replicate (12 - name.length) 0x20, price, rate, restricted, disabled⟩ (by omega) } ∧
            Answered s t p ⟨tag, 0x28, .ok, []⟩)
        else Refuses .setGrade s p ⟨tag, 0x28, .badParam, []⟩) ∧
    (GrantedTo s p tag 0x29 [] →
      (s.save ≠ none → Refuses .switchPrices s p ⟨tag, 0x29, .settingsBusy, []⟩) ∧
      (s.save = none →
        let epoch := if s.settings.epoch = 65535 then 0 else s.settings.epoch + 1
        s.settings.epoch ≤ 65535 → ∃ t, exec .switchPrices s = .next t ∧
          Apart t { s with settings := { s.settings with active := s.staged, epoch := epoch } } ∧
          AnsweredLatching s t p ⟨tag, 0x29, .ok, enc2 epoch⟩ .pricesSwitched fun _ => true)) ∧
    ∀ (k tare : Nat), k < 256 → tare < 4294967296 → GrantedTo s p tag 0x2B (enc1 k ++ enc4 tare) →
      if h : (1 ≤ k ∧ k ≤ 15) ∧ tare ≤ 100000 then
        (s.save ≠ none → Refuses .setContainer s p ⟨tag, 0x2B, .settingsBusy, []⟩) ∧
        (s.save = none → ∃ t, exec .setContainer s = .next t ∧
          Apart t { s with
            settings := { s.settings with tares := s.settings.tares.set k tare (by omega) } } ∧
          Answered s t p ⟨tag, 0x2B, .ok, []⟩)
      else Refuses .setContainer s p ⟨tag, 0x2B, .badParam, []⟩) ∧
  (∀ (s : State) (p : Port) (tag : Byte) (q entry : Nat) (k : Option Nat), q < 256 → entry < 256 → k.getD 0 < 256 →
    GrantedTo s p tag 0x04 (enc1 q ++ enc1 entry ++ encOpt enc1 k) →
      (4 ≤ q ∨ 4 ≤ entry ∨ 3 ≤ k.getD 0 → Refuses .setAlias s p ⟨tag, 0x04, .badParam, []⟩) ∧
      ∀ (q' : Port) (entry' : Fin 4) (k' : Option Printer), q'.val = q → entry'.val = entry →
        k'.map (fun x : Printer => x.val) = k →
        (s.save ≠ none → Refuses .setAlias s p ⟨tag, 0x04, .settingsBusy, []⟩) ∧
        (s.save = none → ∃ t, exec .setAlias s = .next t ∧
          Apart t { s with
            settings := { s.settings with
              printersOf := s.settings.printersOf.set q' (s.settings.printersOf[q'].set entry' k') } } ∧
          Answered s t p ⟨tag, 0x04, .ok, encEntries (s.settings.printersOf[q'].set entry' k')⟩))

/-! ### Opening, weighing, deducting -/

/-- The checks of OPEN_TRUCK, DUMP and ADD_BIN in their order, each refusal with nothing changed. What starting a
capture does: on a channel in FAULT or NO_SIGNAL the request is answered SCALE_FAULT and nothing changes; on any other
the slot takes the marked ticket, the channel its capture record with the window in force, and the request stays
pending in phase DEFERRED. OPEN_TRUCK, DUMP and ADD_BIN, each past its checks. -/
def Obligations.CaptureRequestsCheckAndStart : Prop :=
  (∀ (s : State) (p : Port) (tag : Byte),
    (∀ (c : Nat) (plate : Text), c < 256 → plate.length < 256 →
      GrantedTo s p tag 0x10 (enc1 c ++ encText plate) →
        if h : c < 2 ∧ plate.length ≤ 10 ∧ ∀ x ∈ plate, printable x = true then
          if s.counter = .invalid ∨ s.counter = .exhausted then Refuses .openTruck s p ⟨tag, 0x10, .noNumber, []⟩
          else if ∀ k : Slot, s.slots[k] ≠ none then Refuses .openTruck s p ⟨tag, 0x10, .tableFull, []⟩
          else if (s.channels[c]'(by omega)).capture ≠ none then Refuses .openTruck s p ⟨tag, 0x10, .channelBusy, []⟩
          else True
        else Refuses .openTruck s p ⟨tag, 0x10, .badParam, []⟩) ∧
    (∀ (n c g final : Nat), n < 4294967296 → c < 256 → g < 256 → final < 256 →
      GrantedTo s p tag 0x11 (enc4 n ++ enc1 c ++ enc1 g ++ enc1 final) →
        if h : (1 ≤ n ∧ n ≤ Config.maxTicketNumber) ∧ c < 2 ∧ (1 ≤ g ∧ g ≤ 64) ∧ final ≤ 1 then
          (NoTicket s n → Refuses .dump s p ⟨tag, 0x11, .noTicket, []⟩) ∧
          ∀ i k, TicketAt s n i k →
            if k.state ≠ .weighing ∨ k.marker ≠ none then Refuses .dump s p ⟨tag, 0x11, .ticketBusy, []⟩
            else if (s.settings.active[g - 1]'(by omega)).disabled then
              Refuses .dump s p ⟨tag, 0x11, .gradeDisabled, []⟩
            else if (s.settings.active[g - 1]'(by omega)).price = none then
              Refuses .dump s p ⟨tag, 0x11, .priceMissing, []⟩
            else if (s.channels[c]'(by omega)).capture ≠ none then Refuses .dump s p ⟨tag, 0x11, .channelBusy, []⟩
            else True
        else Refuses .dump s p ⟨tag, 0x11, .badParam, []⟩) ∧
    ∀ (n g c : Nat), n < 4294967296 → g < 256 → c < 256 →
      GrantedTo s p tag 0x13 (enc4 n ++ enc1 g ++ enc1 c) →
        if h : (1 ≤ n ∧ n ≤ Config.maxTicketNumber) ∧ c < 16 ∧ 1 ≤ g ∧ g ≤ 64 then
          (NoTicket s n → Refuses .addBin s p ⟨tag, 0x13, .noTicket, []⟩) ∧
          ∀ i k, TicketAt s n i k →
            if k.state ≠ .counter ∨ k.marker ≠ none then Refuses .addBin s p ⟨tag, 0x13, .ticketBusy, []⟩
            else if (s.settings.active[g - 1]'(by omega)).disabled then
              Refuses .addBin s p ⟨tag, 0x13, .gradeDisabled, []⟩
            else if (s.settings.active[g - 1]'(by omega)).price = none then
              Refuses .addBin s p ⟨tag, 0x13, .priceMissing, []⟩
            else if s.channels[(2 : Chan)].capture ≠ none then Refuses .addBin s p ⟨tag, 0x13, .channelBusy, []⟩
            else True
        else Refuses .addBin s p ⟨tag, 0x13, .badParam, []⟩) ∧
  (∀ (s : State) (p : Port) (tag : Byte),
    let capture (kind : CaptureKind) (i : Slot) (c : Chan) : Channel :=
      { s.channels[c] with
        capture := some { kind := kind, slot := i, window := s.settings.channels[c].captureWindow } }
    (∀ (b : Bridge) (plate : Text) (n : Nat) (i : Slot), plate.length ≤ 10 → (∀ x ∈ plate, printable x = true) →
      GrantedTo s p tag 0x10 (enc1 b.val ++ encText plate) → s.counter = .valid n → LowestFreeSlot s i →
        s.channels[b.chan].capture = none →
        (s.channels[b.chan].state = .fault ∨ s.channels[b.chan].state = .noSignal →
          Refuses .openTruck s p ⟨tag, 0x10, .scaleFault, []⟩) ∧
        (s.channels[b.chan].state ≠ .fault → s.channels[b.chan].state ≠ .noSignal →
          ∃ t, exec .openTruck s = .next t ∧
            Apart t { s with
              slots := s.slots.set i (some
                { number := none, kind := .truck, state := .opening, openedBy := p, openedAt := none, seller := none,
                  plate := if plate = [] then none else some plate, weighings := [], lines := [], total := 0,
                  totalClamped := false,
                  marker := some { purpose := .gross, channel := b.chan, port := p, tag := tag }, window := none })
              channels := s.channels.set b.chan (capture .gross i b.chan) } ∧
            DeferredAt s t p ⟨tag, 0x10, enc1 b.val ++ encText plate, .deferred⟩)) ∧
    (∀ (b : Bridge) (n : Nat) (g : GradeIx) (final : Bool) (i : Slot) (k : Ticket),
      GrantedTo s p tag 0x11 (enc4 n ++ enc1 b.val ++ enc1 g.number ++ encFlag final) → TicketAt s n i k →
        k.state = .weighing → k.marker = none → (s.settings.active[g]).disabled = false →
        (s.settings.active[g]).price ≠ none → s.channels[b.chan].capture = none →
        (s.channels[b.chan].state = .fault ∨ s.channels[b.chan].state = .noSignal →
          Refuses .dump s p ⟨tag, 0x11, .scaleFault, []⟩) ∧
        (s.channels[b.chan].state ≠ .fault → s.channels[b.chan].state ≠ .noSignal →
          ∃ t, exec .dump s = .next t ∧
            Apart t { s with
              slots := s.slots.set i (some { k with
                marker := some { purpose := .dump g final, channel := b.chan, port := p, tag := tag } })
              channels := s.channels.set b.chan (capture .dump i b.chan) } ∧
            DeferredAt s t p ⟨tag, 0x11, enc4 n ++ enc1 b.val ++ enc1 g.number ++ encFlag final, .deferred⟩)) ∧
    (∀ (n : Nat) (g : GradeIx) (c : Container) (i : Slot) (k : Ticket),
      GrantedTo s p tag 0x13 (enc4 n ++ enc1 g.number ++ enc1 c.val) → TicketAt s n i k →
        k.state = .counter → k.marker = none → (s.settings.active[g]).disabled = false →
        (s.settings.active[g]).price ≠ none → s.channels[(2 : Chan)].capture = none →
        (s.channels[(2 : Chan)].state = .fault ∨ s.channels[(2 : Chan)].state = .noSignal →
          Refuses .addBin s p ⟨tag, 0x13, .scaleFault, []⟩) ∧
        (s.channels[(2 : Chan)].state ≠ .fault → s.channels[(2 : Chan)].state ≠ .noSignal →
          ∃ t, exec .addBin s = .next t ∧
            Apart t { s with
              slots := s.slots.set i (some { k with
                marker := some { purpose := .bin g c, channel := 2, port := p, tag := tag } })
              channels := s.channels.set (2 : Chan) (capture .bin i 2) } ∧
            DeferredAt s t p ⟨tag, 0x13, enc4 n ++ enc1 g.number ++ enc1 c.val, .deferred⟩)))

/-- OPEN_WALKIN: NO_NUMBER with the counter INVALID or EXHAUSTED, then TABLE_FULL with no FREE slot; otherwise the
lowest FREE slot takes a WALKIN record with the counter's number, and counter and word move on together.
CLOSE_WEIGHING: its checks in their order, then the ticket enters WEIGHED and TICKET_READY is latched at every PAYOUT
port. That a ticket in WEIGHING gives WRONG_STATE with a capture in flight too is the model's reading (assumption
17). -/
def Obligations.WalkinsAreOpenedAndClosed : Prop :=
  (∀ (s : State) (p : Port) (tag : Byte), GrantedTo s p tag 0x12 [] →
    (s.counter = .invalid ∨ s.counter = .exhausted → Refuses .openWalkin s p ⟨tag, 0x12, .noNumber, []⟩) ∧
      ∀ n, s.counter = .valid n →
        ((∀ k : Slot, s.slots[k] ≠ none) → Refuses .openWalkin s p ⟨tag, 0x12, .tableFull, []⟩) ∧
        ∀ i, LowestFreeSlot s i → ∃ t, exec .openWalkin s = .next t ∧
          Apart t { s with
            counter := if n = 99999999 then .exhausted else .valid (n + 1)
            numberWord := if n = 99999999 then .exhausted else .valid (n + 1)
            slots := s.slots.set i (some
              { number := some n, kind := .walkin, state := .counter, openedBy := p,
                openedAt := s.clock.map fun c => c.seconds, seller := none, plate := none, weighings := [],
                lines := [], total := 0, totalClamped := false, marker := none, window := none }) } ∧
          Answered s t p ⟨tag, 0x12, .ok, enc4 n⟩) ∧
  (∀ (s : State) (p : Port) (tag : Byte) (n : Nat), n < 4294967296 → GrantedTo s p tag 0x14 (enc4 n) →
    (n = 0 ∨ 99999999 < n → Refuses .closeWeighing s p ⟨tag, 0x14, .badParam, []⟩) ∧
    (NoTicket s n → Refuses .closeWeighing s p ⟨tag, 0x14, .noTicket, []⟩) ∧
    ∀ i t, TicketAt s n i t →
      (t.state = .atWindow ∨ (t.state = .counter ∧ t.marker ≠ none) →
        Refuses .closeWeighing s p ⟨tag, 0x14, .ticketBusy, []⟩) ∧
      (t.state = .weighing ∨ t.state = .weighed → Refuses .closeWeighing s p ⟨tag, 0x14, .wrongState, []⟩) ∧
      (t.state = .counter → t.marker = none → t.lines = [] →
        Refuses .closeWeighing s p ⟨tag, 0x14, .noLines, []⟩) ∧
      (t.state = .counter → t.marker = none → t.lines ≠ [] → ∃ u, exec .closeWeighing s = .next u ∧
        Apart u { s with slots := s.slots.set i (some { t with state := .weighed }) } ∧
        AnsweredLatching s u p ⟨tag, 0x14, .ok, enc4 n ++ enc1 t.lines.length ++ enc5 t.total⟩ .ticketReady
          fun x => x.role = .payout))

/-- The arithmetic of a line whenever it is priced, at its creation or by REPRICE: P, UNPRICED, epoch and RESTRICTED
from the ACTIVE entry, Da rounded up, W and DEDUCT_CLAMPED, A rounded down; N, NEGATIVE, Dm and the grade are kept. A
new line has NEGATIVE by its net and no manual deduction. DEDUCT: its checks in their order, then the named line's Dm
is set, W, DEDUCT_CLAMPED and A are formed again from it, and T and TOTAL_CLAMPED from all lines; N, Da, the price,
the epoch and the other flags are kept. REPRICE: its checks in their order, then every line priced anew from ACTIVE, T
and TOTAL_CLAMPED formed anew, and nothing else of the ticket changed. The bytes of a line in the answer follow
assumption 16. -/
def Obligations.LinesAreFormedAndReformed : Prop :=
  ((∀ (st : Settings) (g : GradeIx) (net : Int),
    let l := newLine st g net
    l.grade = g ∧ l.net = net ∧ l.manualDed = 0 ∧ (l.negative = true ↔ net ≤ 0) ∧ l = l.priceAnew st) ∧
    ∀ (st : Settings) (l : Line),
      let e := st.active[l.grade]
      let l' := l.priceAnew st
      (l'.grade = l.grade ∧ l'.net = l.net ∧ l'.negative = l.negative ∧ l'.manualDed = l.manualDed) ∧
        l'.price = (if e.disabled then none else e.price) ∧ l'.unpriced = l'.price.isNone ∧ l'.epoch = st.epoch ∧
        l'.restricted = e.restricted ∧
        (0 < l.net → (l'.autoDed : Int) = (l.net * e.rate + 999) / 1000) ∧ (l.net ≤ 0 → l'.autoDed = 0) ∧
        (l.negative = true → l'.payable = 0 ∧ l'.dedClamped = false) ∧
        (l.negative = false →
          (l'.net - l'.autoDed - l'.manualDed < 0 → l'.payable = 0 ∧ l'.dedClamped = true) ∧
          (0 ≤ l'.net - l'.autoDed - l'.manualDed →
            (l'.payable : Int) = l'.net - l'.autoDed - l'.manualDed ∧ l'.dedClamped = false)) ∧
        (l'.price = none → l'.amount = 0) ∧
        ∀ price, l'.price = some price → 100 * l'.amount ≤ l'.payable * price ∧ l'.payable * price < 100 * (l'.amount + 1)) ∧
  (∀ (s : State) (p : Port) (tag : Byte) (n index dm : Nat), n < 4294967296 → index < 256 → dm < 4294967296 →
    GrantedTo s p tag 0x15 (enc4 n ++ enc1 index ++ enc4 dm) →
    (n = 0 ∨ 99999999 < n ∨ index = 0 ∨ 8 < index ∨ 999999 < dm →
      Refuses .deduct s p ⟨tag, 0x15, .badParam, []⟩) ∧
    (1 ≤ index → index ≤ 8 → dm ≤ 999999 →
      (NoTicket s n → Refuses .deduct s p ⟨tag, 0x15, .noTicket, []⟩) ∧
      ∀ i t, TicketAt s n i t →
        (t.state = .atWindow ∨ t.marker ≠ none → Refuses .deduct s p ⟨tag, 0x15, .ticketBusy, []⟩) ∧
        (t.state ≠ .atWindow → t.marker = none →
          (t.lines.length < index → Refuses .deduct s p ⟨tag, 0x15, .badParam, []⟩) ∧
          ∀ l, t.lines[index - 1]? = some l →
            let left : Int := l.net - l.autoDed - dm
            let w := if l.negative then 0 else left.toNat
            let l' := { l with
              manualDed := dm
              payable := w
              dedClamped := !l.negative && decide (left < 0)
              amount := match l.price with
                | some price => w * price / 100
                | none => 0 }
            let lines := t.lines.set (index - 1) l'
            let sum := (lines.map fun l => l.amount).sum
            ∃ u, exec .deduct s = .next u ∧
              Apart u { s with
              slots := s.slots.set i (some { t with
                lines := lines, total := min sum 9999999999, totalClamped := decide (9999999999 < sum) }) } ∧
              Answered s u p ⟨tag, 0x15, .ok,
                l'.enc ++ enc5 (min sum 9999999999) ++ encFlag (decide (9999999999 < sum))⟩))) ∧
  (rolesFor 0x2C = some [.office] ∧
  ∀ (s : State) (p : Port) (tag : Byte) (n : Nat), n < 4294967296 → GrantedTo s p tag 0x2C (enc4 n) →
    (n = 0 ∨ 99999999 < n → Refuses .reprice s p ⟨tag, 0x2C, .badParam, []⟩) ∧
    (NoTicket s n → Refuses .reprice s p ⟨tag, 0x2C, .noTicket, []⟩) ∧
    ∀ i t, TicketAt s n i t →
      (t.state = .atWindow ∨ t.marker ≠ none → Refuses .reprice s p ⟨tag, 0x2C, .ticketBusy, []⟩) ∧
      (t.state ≠ .atWindow → t.marker = none →
        let lines := t.lines.map fun l => l.priceAnew s.settings
        let sum := (lines.map fun l => l.amount).sum
        ∃ u, exec .reprice s = .next u ∧
          Apart u { s with
            slots := s.slots.set i (some { t with
              lines := lines, total := min sum 9999999999, totalClamped := decide (9999999999 < sum) }) } ∧
          Answered s u p ⟨tag, 0x2C, .ok,
            enc4 n ++ enc1 t.lines.length ++ enc1 (lines.filter fun l => l.unpriced).length ++ enc2 s.settings.epoch ++
              enc5 (min sum 9999999999) ++ encFlag (decide (9999999999 < sum))⟩))

/-- SET_PLATE and SET_SELLER: form, lookup and state checks, then the plate as given or the seller's ID in upper case,
an empty text standing for none. -/
def Obligations.SellerAndPlateAreSet : Prop :=
  rolesFor 0x17 = some [.scale, .office] ∧ rolesFor 0x16 = some [.scale, .payout, .office] ∧
  ∀ (s : State) (p : Port) (tag : Byte) (n : Nat) (x : Text), n < 4294967296 → x.length < 256 →
    (GrantedTo s p tag 0x17 (enc4 n ++ encText x) →
      (n = 0 ∨ 99999999 < n ∨ 10 < x.length ∨ (∃ b ∈ x, printable b = false) →
        Refuses .setPlate s p ⟨tag, 0x17, .badParam, []⟩) ∧
      (x.length ≤ 10 → (∀ b ∈ x, printable b = true) →
        (NoTicket s n → Refuses .setPlate s p ⟨tag, 0x17, .noTicket, []⟩) ∧
        ∀ i t, TicketAt s n i t →
          (t.state = .atWindow ∨ t.marker ≠ none → Refuses .setPlate s p ⟨tag, 0x17, .ticketBusy, []⟩) ∧
          (t.state ≠ .atWindow → t.marker = none → ∃ u, exec .setPlate s = .next u ∧
            Apart u { s with slots := s.slots.set i (some { t with plate := if x = [] then none else some x }) } ∧
            Answered s u p ⟨tag, 0x17, .ok, []⟩))) ∧
    (GrantedTo s p tag 0x16 (enc4 n ++ encText x) →
      (n = 0 ∨ 99999999 < n ∨ 16 < x.length ∨ (∃ b ∈ x, printable b = false) →
        Refuses .setSeller s p ⟨tag, 0x16, .badParam, []⟩) ∧
      (x.length ≤ 16 → (∀ b ∈ x, printable b = true) →
        (NoTicket s n → Refuses .setSeller s p ⟨tag, 0x16, .noTicket, []⟩) ∧
        ∀ i t, TicketAt s n i t →
          if s.ports[p].role = .payout ∧ t.state ≠ .atWindow then
            Refuses .setSeller s p ⟨tag, 0x16, .wrongState, []⟩
          else if s.ports[p].role = .payout ∧ (∃ w, t.window = some w ∧ w.holder ≠ p) then
            Refuses .setSeller s p ⟨tag, 0x16, .ticketBusy, []⟩
          else if s.ports[p].role ≠ .payout ∧ (t.state = .atWindow ∨ t.marker ≠ none) then
            Refuses .setSeller s p ⟨tag, 0x16, .ticketBusy, []⟩
          else ∃ u, exec .setSeller s = .next u ∧
            Apart u { s with
            slots := s.slots.set i (some { t with
              seller := if x = [] then none else some (x.map foldUpper) }) } ∧
            Answered s u p ⟨tag, 0x16, .ok, []⟩))

/-! ### Readings and captures -/

/-- Rounding: the multiple of the division nearest to the weight, a tie going to the one farther from zero. The
rounded weight is what the channel keeps as its last reading, and the unrounded digits have no effect: two messages
with one status and one rounded weight do the same. -/
def Obligations.ReadingsAreRoundedToTheDivision : Prop :=
  (∀ (d : Nat) (w m : Int), 1 ≤ d → (d : Int) ∣ m →
    (d : Int) ∣ roundWeight d w ∧
      ((roundWeight d w - w).natAbs < (m - w).natAbs ∨
        (roundWeight d w - w).natAbs = (m - w).natAbs ∧ m.natAbs ≤ (roundWeight d w).natAbs)) ∧
    ∀ (s : State) (c : Chan) (b : Byte) (status : Status) (w : Int), GoodMessageAt s c b status w →
      s.channels[c].state ≠ .fault →
        (∃ t, exec (.scaleByteReceived c b) s = .next t ∧
          t.channels[c].lastReading = some ⟨status, roundWeight (s.settings.channels[c].division) w⟩) ∧
        ∀ (held : List Byte) (b' : Byte) (w' : Int),
          let u : State := { s with
            channels := s.channels.set c { s.channels[c] with receiver := .assembling held } }
          GoodMessageAt u c b' status w' →
          roundWeight (s.settings.channels[c].division) w' = roundWeight (s.settings.channels[c].division) w →
            exec (.scaleByteReceived c b') u = exec (.scaleByteReceived c b) s

/-- A good message is taken whole: the thirteen bytes that spell a status, a sign, seven digits and their check, sent
byte by byte to an IDLE receiver, end in what a good message does. -/
def Obligations.ScaleMessagesDecode : Prop :=
  ∀ (c : Chan) (st : Fin 5) (negative : Bool) (w : Nat), w < 10000000 →
    let letter : Byte := [(0x53 : Byte), 0x4D, 0x4F, 0x55, 0x45][st]
    let status : Status := [Status.stable, .motion, .overload, .underload, .error][st]
    let digits := (List.range 7).map fun k => BitVec.ofNat 8 (0x30 + w / 10 ^ (6 - k) % 10)
    let fields := [letter, if negative then 0x2D else 0x2B] ++ digits
    let hex (n : Nat) : Byte := BitVec.ofNat 8 (if n < 10 then 0x30 + n else 0x37 + n)
    let sum := (fields.map fun b => b.toNat).sum % 256
    let weight : Int := if negative then -(w : Int) else w
    judgeMessage (fields ++ [hex (sum / 16), hex (sum % 16)]) 0x0D = some (status, weight) ∧
      ∀ s : State, s.taking = true → s.channels[c].receiver = .idle → s.channels[c].state ≠ .fault →
        s.channels[c].capture = none →
          ([0x02] ++ fields ++ [hex (sum / 16), hex (sum % 16), 0x0D]).foldl
              (fun o b => match o with
                | some u => match exec (.scaleByteReceived c b) u with
                  | .next u' => some u'
                  | _ => none
                | none => none) (some s) =
            some { s with
            channels := s.channels.set c
              (s.channels[c].takeReading s.settings.channels[c] status
                (roundWeight s.settings.channels[c].division weight)) }

/-- A byte at a channel's receiver that completes no message: held, discarded, or, as a start mark, the end of a bad
message; and a message whose last byte does not make it good is bad. A good message that ends no capture, none being
in flight or the one in flight waiting on: FAULT takes nothing; otherwise the freshness timer restarts, the rounded
reading becomes the last reading, OVER is entered out of range, and ref, run and STABLE or MOVING follow in range.
That a start mark in the place of the end mark begins a new message is the model's reading (assumption 8). -/
def Obligations.ReadingsMoveTheChannel : Prop :=
  (∀ (s : State) (c : Chan) (b : Byte), s.taking = true →
    (s.channels[c].receiver = .idle → exec (.scaleByteReceived c b) s = .next
      (if b = 0x02 then
        { s with channels := s.channels.set c { s.channels[c] with receiver := .assembling [] } }
      else s)) ∧
    ∀ held, s.channels[c].receiver = .assembling held →
      (b ≠ 0x02 → held.length < 11 → exec (.scaleByteReceived c b) s = .next
        { s with channels := s.channels.set c { s.channels[c] with receiver := .assembling (held ++ [b]) } }) ∧
      (b = 0x02 ∨ (11 ≤ held.length ∧ judgeMessage held b = none) →
        (s.channels[c].state = .fault ∨
          min 255 (s.channels[c].errorCount + 1) < s.settings.channels[c].errorThreshold) →
        exec (.scaleByteReceived c b) s = .next { s with
        channels := s.channels.set c
          { s.channels[c] with
            receiver := if b = 0x02 then .assembling [] else .idle
            errorCount := min 255 (s.channels[c].errorCount + 1) } })) ∧
  (∀ (s : State) (c : Chan) (b : Byte) (status : Status) (weight : Int), GoodMessageAt s c b status weight →
      let ch := s.channels[c]
      let st := s.settings.channels[c]
      let w := roundWeight st.division weight
      let taken := { ch with receiver := .idle, freshness := some st.freshness, lastReading := some ⟨status, w⟩ }
      let run :=
        if status = .motion then 0
        else if (w - ch.ref).natAbs ≤ st.motionBand * st.division then min 255 (ch.run + 1)
        else 1
      let ref := if status = .stable ∧ (w - ch.ref).natAbs ≤ st.motionBand * st.division then ch.ref else w
      let ch' : Channel :=
        if ch.state = .fault then { ch with receiver := .idle }
        else if (status = .stable ∨ status = .motion) ∧ 0 ≤ w ∧ w ≤ st.capacity then
          { taken with run := run, ref := ref, state := if st.stableCount ≤ run then .stable else .moving }
        else { taken with state := .over, run := 0 }
      (ch.state = .fault ∨ ch.capture = none ∨ ch'.state ≠ .stable ∨ ch'.beamsClear = false) →
        exec (.scaleByteReceived c b) s = .next { s with channels := s.channels.set c ch' })

/-- A reading that leaves the channel STABLE with both beams CLEAR, at or above the minimum, completes the capture: a
gross issues the number and records the GROSS weighing, or frees the slot with NO_NUMBER. A completing reading records
a dump or a bin: the weighing at the end of the list, one line priced from ACTIVE now with the net of its sequence, T
and TOTAL_CLAMPED formed anew, the end of weighing at the final dump or the eighth line with TICKET_READY at every
PAYOUT port, and the deferred response. The bytes of a weighing and a line in the answer follow assumptions 15 and 16.
-/
def Obligations.CapturesComplete : Prop :=
  (∀ (s : State) (c : Chan) (b : Byte) (status : Status) (weight : Int) (i : Slot) (t : Ticket) (m : Marker),
    GoodMessageAt s c b status weight → CaptureFor s c i t m → m.purpose = .gross → s.channels[c].state ≠ .fault →
      let st := s.settings.channels[c]
      let w := roundWeight st.division weight
      let ch := ({ s.channels[c] with receiver := .idle } : Channel).takeReading st status w
      ch.state = .stable → ch.beamsClear = true → (st.minimum * st.division : Nat) ≤ w →
        (∀ n, s.counter = .valid n → exec (.scaleByteReceived c b) s = .next { s with
          channels := s.channels.set c { ch with capture := none }
          counter := if n = 99999999 then .exhausted else .valid (n + 1)
          numberWord := if n = 99999999 then .exhausted else .valid (n + 1)
          slots := s.slots.set i (some { t with
            number := some n, openedAt := s.clock.map (fun x => x.seconds), state := .weighing, marker := none
            weighings := t.weighings ++
              [⟨t.weighings.length + 1, .gross, c, w.toNat, s.clock.map (fun x => x.seconds), none⟩] })
          ports := s.ports.set m.port
            (answeredPort s.ports[m.port] ⟨m.tag, 0x10, .ok, enc4 n ++ enc4 w.toNat⟩) }) ∧
        (s.counter = .invalid ∨ s.counter = .exhausted → exec (.scaleByteReceived c b) s = .next { s with
          channels := s.channels.set c { ch with capture := none }
          slots := s.slots.set i none
          ports := s.ports.set m.port (answeredPort s.ports[m.port] ⟨m.tag, 0x10, .noNumber, []⟩) })) ∧
  (∀ (s : State) (c : Chan) (b : Byte) (status : Status) (weight : Int) (i : Slot) (t : Ticket) (m : Marker)
      (g : GradeIx) (net : Int) (ends : Bool) (kind : WeighingKind) (container : Option Container),
    GoodMessageAt s c b status weight → CaptureFor s c i t m → s.channels[c].state ≠ .fault →
      let st := s.settings.channels[c]
      let w := roundWeight st.division weight
      let ch := ({ s.channels[c] with receiver := .idle } : Channel).takeReading st status w
      ((∃ final, m.purpose = .dump g final ∧ ends = (final || decide (t.lines.length = 7)) ∧
          (∃ last, t.weighings.getLast? = some last ∧ net = (last.weight : Int) - w) ∧
          kind = (if ends then .tare else .dump) ∧ container = none) ∨
        (∃ k, m.purpose = .bin g k ∧ ends = decide (t.lines.length = 7) ∧
          net = w - (if k = 0 then 0 else (s.settings.tares[k] : Int)) ∧ kind = .bin ∧ container = some k)) →
      ch.state = .stable → ch.beamsClear = true → (st.minimum * st.division : Nat) ≤ w →
        let weighing : Weighing :=
          ⟨t.weighings.length + 1, kind, c, w.toNat, s.clock.map (fun x => x.seconds), container⟩
        let line := newLine s.settings g net
        let sum := ((t.lines ++ [line]).map fun l => l.amount).sum
        let t' : Ticket := { t with
          marker := none, state := if ends then .weighed else t.state, weighings := t.weighings ++ [weighing]
          lines := t.lines ++ [line], total := min sum 9999999999, totalClamped := decide (9999999999 < sum) }
        let latched := fun x : StationPort => latchedIf (decide (t'.state = .weighed ∧ x.role = .payout)) .ticketReady x
        ∃ u, exec (.scaleByteReceived c b) s = .next u ∧
          u = { s with
            channels := s.channels.set c { ch with capture := none }
            slots := s.slots.set i (some t')
            ports := u.ports } ∧
          (∀ q, q ≠ m.port → u.ports[q] = latched s.ports[q]) ∧
          u.ports[m.port] = answeredPort (latched s.ports[m.port]) ⟨m.tag, m.purpose.code, .ok,
            enc4 (t.number.getD 0) ++ weighing.enc ++ line.enc ++ t'.state.enc ++ enc5 t'.total ++
              encFlag t'.totalClamped⟩)

/-- How captures fail: below the minimum at a completing reading; at the window's expiry OVERLOAD, BEAM_BROKEN or
NOT_STABLE; and SCALE_FAULT when the signal is lost, which also zeroes the run, stops the freshness timer and latches
SCALE_FAULT at every SCALE and OFFICE port. The failed ticket is as it was, or its OPENING slot is FREE. A bad message
that brings the error count to the threshold takes the channel to FAULT and fails a capture in flight, whether a byte
or the gap timer made it bad. The channel's own timers with no capture in flight: the gap timer makes the partial
message bad and empties the receiver, and the freshness timer takes MOVING, STABLE and OVER to NO_SIGNAL with
SCALE_FAULT latched. That a start mark in the place of the end mark begins a new message is the model's reading
(assumption 8), and that the expiry of a window timer that does not run changes nothing is its choice (assumption
4). -/
def Obligations.CapturesFailAndTimersExpire : Prop :=
  (∀ (s : State) (c : Chan) (i : Slot) (t : Ticket) (m : Marker), CaptureFor s c i t m →
    let failed (ch : Channel) (o : OutcomeCode) (u : State) : State := { u with
      channels := u.channels.set c { ch with capture := none }
      slots := u.slots.set i (afterFailure t m)
      ports := u.ports.set m.port (answeredPort u.ports[m.port] ⟨m.tag, m.purpose.code, o, []⟩) }
    let lost (ch : Channel) (next : ChannelState) : Channel := { ch with state := next, run := 0, freshness := none }
    let latched : State := { s with
    ports := mapEntries
      (fun _ x => latchedIf (decide (x.role = .scale ∨ x.role = .office)) .scaleFault x) s.ports }
    (s.taking = true → exec (.captureWindowExpiry c) s = .next (failed s.channels[c]
      (if s.channels[c].state = .over then .overload
        else if s.channels[c].beamsClear then .notStable else .beamBroken) s)) ∧
    (s.taking = true → s.channels[c].freshness ≠ none →
      (s.channels[c].state = .moving ∨ s.channels[c].state = .stable ∨ s.channels[c].state = .over) →
        exec (.freshnessExpiry c) s = .next (failed (lost s.channels[c] .noSignal) .scaleFault latched)) ∧
    (s.taking = true → ∀ held, s.channels[c].receiver = .assembling held → s.channels[c].state ≠ .fault →
      s.settings.channels[c].errorThreshold ≤ min 255 (s.channels[c].errorCount + 1) →
        exec (.scaleGapExpiry c) s = .next (failed
          (lost { s.channels[c] with receiver := .idle, errorCount := min 255 (s.channels[c].errorCount + 1) } .fault)
          .scaleFault latched)) ∧
    (∀ b, MessageBreaksAt s c b → s.channels[c].state ≠ .fault →
      s.settings.channels[c].errorThreshold ≤ min 255 (s.channels[c].errorCount + 1) →
        exec (.scaleByteReceived c b) s = .next (failed
          (lost { s.channels[c] with
            receiver := if b = 0x02 then .assembling [] else .idle
            errorCount := min 255 (s.channels[c].errorCount + 1) } .fault)
          .scaleFault latched)) ∧
    ∀ b status weight, GoodMessageAt s c b status weight → s.channels[c].state ≠ .fault →
      let st := s.settings.channels[c]
      let w := roundWeight st.division weight
      let ch := ({ s.channels[c] with receiver := .idle } : Channel).takeReading st status w
      ch.state = .stable → ch.beamsClear = true → w < (st.minimum * st.division : Nat) →
        exec (.scaleByteReceived c b) s = .next (failed ch .belowMinimum s)) ∧
  (∀ (s : State) (c : Chan), s.taking = true → s.channels[c].capture = none →
    let latched := mapEntries
      (fun _ x => latchedIf (decide (x.role = .scale ∨ x.role = .office)) .scaleFault x) s.ports
    let count := min 255 (s.channels[c].errorCount + 1)
    (∀ held, s.channels[c].receiver = .assembling held →
      exec (.scaleGapExpiry c) s = .next
        (if s.settings.channels[c].errorThreshold ≤ count ∧ s.channels[c].state ≠ .fault then
          { s with
            ports := latched
            channels := s.channels.set c { s.channels[c] with
              receiver := .idle, errorCount := count, state := .fault, run := 0, freshness := none } }
        else
          { s with channels := s.channels.set c { s.channels[c] with receiver := .idle, errorCount := count } })) ∧
    (∀ b, MessageBreaksAt s c b → s.channels[c].state ≠ .fault → s.settings.channels[c].errorThreshold ≤ count →
      exec (.scaleByteReceived c b) s = .next { s with
        ports := latched
        channels := s.channels.set c { s.channels[c] with
          receiver := if b = 0x02 then .assembling [] else .idle
          errorCount := count, state := .fault, run := 0, freshness := none } }) ∧
    (s.channels[c].freshness ≠ none →
      (s.channels[c].state = .moving ∨ s.channels[c].state = .stable ∨ s.channels[c].state = .over) →
        exec (.freshnessExpiry c) s = .next { s with
          ports := latched
          channels := s.channels.set c { s.channels[c] with state := .noSignal, run := 0, freshness := none } }) ∧
    exec (.captureWindowExpiry c) s = .next s)

/-- CLEAR_SCALE_FAULT: BAD_PARAM for a channel outside 0..2; otherwise the error count is 0, and a channel in FAULT
enters NO_SIGNAL and latches SCALE_FAULT at every SCALE and OFFICE port. A change of a beam's raw level restarts its
debounce timer, and its expiry gives the debounced state the raw level, with no other effect; a level equal to the one
standing is no change. A bridge's RED light is driven exactly while a capture is in flight, a debounced beam is BROKEN,
or the state is FAULT or NO_SIGNAL, and GREEN otherwise. That the lights are functions of the state, neither driven
without power, is the model's (assumption 22). -/
def Obligations.ScaleFaultAndBeams : Prop :=
  (rolesFor 0x21 = some [.scale, .office] ∧
  ∀ (s : State) (p : Port) (tag : Byte) (n : Nat), n < 256 → GrantedTo s p tag 0x21 (enc1 n) →
    if h : n < 3 then
      ∃ t, exec .clearScaleFault s = .next t ∧
        Apart t { s with
        channels := s.channels.set n
          (if s.channels[n].state = .fault then
            { s.channels[n] with errorCount := 0, state := .noSignal, run := 0, freshness := none }
          else { s.channels[n] with errorCount := 0 }) } ∧
        AnsweredLatching s t p ⟨tag, 0x21, .ok, []⟩ .scaleFault
          fun x => decide (s.channels[n].state = .fault) && (x.role == .scale || x.role == .office)
    else Refuses .clearScaleFault s p ⟨tag, 0x21, .badParam, []⟩) ∧
  (∀ (s : State) (b : Bridge) (e : BeamEnd) (l : BeamLevel) (x y : Beam), s.channels[b.chan].beams = some (x, y) →
    let beam := match e with
      | .entry => x
      | .exit => y
    let changed (z : Beam) : State := { s with
    channels := s.channels.set b.chan { s.channels[b.chan] with
      beams := some (match e with
        | .entry => (z, y)
        | .exit => (x, z)) } }
    (s.taking = true → exec (.beamLevelChange b e l) s = .next
      (changed (if beam.raw = l then beam else { beam with raw := l, debounce := some 50 }))) ∧
    (s.taking = true → beam.debounce ≠ none →
      exec (.debounceExpiry b e) s = .next (changed { beam with debounced := beam.raw, debounce := none }))) ∧
  ∀ (s : State) (b : Bridge) (x y : Beam), s.channels[b.chan].beams = some (x, y) →
    (s.powered = true →
      ((lights s b).1 = true ↔ s.channels[b.chan].capture ≠ none ∨ x.debounced = .broken ∨ y.debounced = .broken ∨
        s.channels[b.chan].state = .fault ∨ s.channels[b.chan].state = .noSignal) ∧
      (lights s b).2 = !(lights s b).1) ∧
    (s.powered = false → lights s b = (false, false))

/-! ### The window -/

/-- REVIEW: its checks in their order, then the ticket is AT_WINDOW, held by the requesting port, with its hold timer
running from now with the hold time in force. A hold timer's expiry returns the ticket to WEIGHED, latches
WINDOW_EXPIRED at the former holder and TICKET_READY at every PAYOUT port; a slot with no hold timer running is
untouched. The width of step and rounding in the answer follows assumption 13, and the untouched slot assumption
4. -/
def Obligations.ReviewHoldsUntilTheTimerExpires : Prop :=
  (rolesFor 0x30 = some [.payout] ∧
  ∀ (s : State) (p : Port) (tag : Byte) (n : Nat), n < 4294967296 → GrantedTo s p tag 0x30 (enc4 n) →
    (n = 0 ∨ 99999999 < n → Refuses .review s p ⟨tag, 0x30, .badParam, []⟩) ∧
    (NoTicket s n → Refuses .review s p ⟨tag, 0x30, .noTicket, []⟩) ∧
    ∀ i t, TicketAt s n i t →
      (t.state = .atWindow → (∃ w, t.window = some w ∧ w.holder ≠ p) →
        Refuses .review s p ⟨tag, 0x30, .ticketBusy, []⟩) ∧
      (t.state = .weighing ∨ t.state = .counter → Refuses .review s p ⟨tag, 0x30, .wrongState, []⟩) ∧
      (t.state = .weighed ∨ (t.state = .atWindow ∧ ∃ w, t.window = some w ∧ w.holder = p) →
        ∃ u, exec .review s = .next u ∧
          Apart u { s with
            slots := s.slots.set i (some { t with
              state := .atWindow, window := some { holder := p, hold := s.settings.holdTime } }) } ∧
          Answered s u p ⟨tag, 0x30, .ok,
            enc4 n ++ t.kind.enc ++ encOpt encText t.seller ++ enc5 t.total ++ encFlag t.totalClamped ++
              enc5 s.settings.cashStep ++ enc5 (t.total - t.total % s.settings.cashStep) ++
              enc5 (t.total % s.settings.cashStep) ++ encFlag (t.lines.any fun l => l.restricted) ++
              enc1 (t.lines.filter fun l => l.unpriced).length ++
              encOpt enc5 (t.seller.map fun id => s.settings.cashLimit - s.tallyOf id) ++
              enc2 s.settings.holdTime ++ encList encReviewLine t.lines.zipIdx⟩)) ∧
  (∀ (s : State) (i : Slot), s.taking = true →
    (∀ t w, s.slots[i] = some t → t.window = some w → exec (.holdTimerExpiry i) s = .next { s with
        slots := s.slots.set i (some { t with state := .weighed, window := none })
        ports := mapEntries
          (fun q x => latchedIf (decide (q = w.holder)) .windowExpired
            (latchedIf (decide (x.role = .payout)) .ticketReady x)) s.ports }) ∧
    ((s.slots[i].bind fun t => t.window) = none → exec (.holdTimerExpiry i) s = .next s))

/-- RELEASE: permitted to PAYOUT ports; its checks in their order, then the ticket returns to WEIGHED without its
window part, and TICKET_READY is latched at every PAYOUT port. -/
def Obligations.ReleaseReturnsTheTicket : Prop :=
  rolesFor 0x31 = some [.payout] ∧
  ∀ (s : State) (p : Port) (tag : Byte) (n : Nat), n < 4294967296 → GrantedTo s p tag 0x31 (enc4 n) →
    (n = 0 ∨ 99999999 < n → Refuses .release s p ⟨tag, 0x31, .badParam, []⟩) ∧
    (NoTicket s n → Refuses .release s p ⟨tag, 0x31, .noTicket, []⟩) ∧
    ∀ i t, TicketAt s n i t →
      (t.state = .atWindow → (∃ w, t.window = some w ∧ w.holder ≠ p) →
        Refuses .release s p ⟨tag, 0x31, .ticketBusy, []⟩) ∧
      (t.state ≠ .atWindow → Refuses .release s p ⟨tag, 0x31, .wrongState, []⟩) ∧
      (t.state = .atWindow → (∃ w, t.window = some w ∧ w.holder = p) → ∃ u, exec .release s = .next u ∧
        Apart u { s with slots := s.slots.set i (some { t with state := .weighed, window := none }) } ∧
        AnsweredLatching s u p ⟨tag, 0x31, .ok, enc4 n⟩ .ticketReady fun x => decide (x.role = .payout))

/-- The cash figure: C is the largest multiple of the cash step not above T, R what is left; CASH pays C with rounding
R, and CHEQUE and TRANSFER pay T with rounding 0. The tally lookup: a seller in the table is found with the entry that
names the seller, one in no way of the bucket is not found, and an empty way is the lowest one. The bucket is the top
six bits of the check value, computed bit by bit with the generator 0x1021 from 0xFFFF. Totals add with
saturation: the sum where it does not pass the maximum, else the maximum with the mark set; a marked total takes
nothing more. A payment adds to tickets paid, to the sum of its method, to the rounding sum, and each line's W, A and
1 to its grade. -/
def Obligations.CashTallyAndTotalsAddUp : Prop :=
  (∀ total step : Nat, 1 ≤ step →
    (cashRounding total step = total % step ∧ cashAmount total step + cashRounding total step = total ∧
      step ∣ cashAmount total step ∧ cashRounding total step < step ∧
      ∀ k, step ∣ k → k ≤ total → k ≤ cashAmount total step) ∧
    paidFigures .cash total step = (cashAmount total step, cashRounding total step) ∧
    paidFigures .cheque total step = (total, 0) ∧ paidFigures .transfer total step = (total, 0)) ∧
  (∀ (s : State) (id : Text), TallyLaw s →
    (∀ (b : Fin 64) (w : Fin 4) (e : TallyEntry), s.tally[b][w] = some e → e.seller = id →
      b = tallyBucket id ∧ s.tallyWay id = some w ∧ s.tallyOf id = e.cashToday) ∧
    ((∀ (b : Fin 64) (w : Fin 4) (e : TallyEntry), s.tally[b][w] = some e → e.seller ≠ id) →
      s.tallyWay id = none ∧ s.tallyOf id = 0) ∧
    ∀ w, s.emptyWay id = some w ↔
      s.tally[tallyBucket id][w] = none ∧ ∀ v, v < w → s.tally[tallyBucket id][v] ≠ none) ∧
  ((∀ id : Text,
    let bits := id.flatMap fun b => (List.range 8).map fun k => b.getLsbD (7 - k)
    let value := bits.foldl (fun v bit =>
      if decide (32768 ≤ v) = bit then 2 * v % 65536 else (2 * v % 65536) ^^^ 0x1021) 0xFFFF
    (tallyHash id).toNat = value ∧ (tallyBucket id).val = value / 1024) ∧
    tallyHash (ascii "123456789") = 0x29B1 ∧ tallyBucket (ascii "123456789") = 10) ∧
  ((∀ (max n : Nat) (t : Total),
    (t.mark = true → t.add max n = t) ∧
      (t.mark = false → t.value + n ≤ max → t.add max n = ⟨t.value + n, false⟩) ∧
      (t.mark = false → max < t.value + n → t.add max n = ⟨max, true⟩)) ∧
    ∀ (t : Totals) (m : Method) (paid rounding : Nat) (ls : List Line),
      let u := t.addPayment m paid rounding ls
      u.paid = t.paid.add 999999 1 ∧ u.voided = t.voided ∧ u.rounding = t.rounding.add 999999999999 rounding ∧
        u.cash = (if m = .cash then t.cash.add 999999999999 paid else t.cash) ∧
        u.nonCash = (if m = .cash then t.nonCash else t.nonCash.add 999999999999 paid) ∧
        ∀ g : GradeIx,
          (u.grades[g]).weight = (ls.filter fun l => l.grade = g).foldl
            (fun x l => x.add 999999999999 l.payable) (t.grades[g]).weight ∧
          (u.grades[g]).amount = (ls.filter fun l => l.grade = g).foldl
            (fun x l => x.add 999999999999 l.amount) (t.grades[g]).amount ∧
          (u.grades[g]).count = (ls.filter fun l => l.grade = g).foldl
            (fun x _ => x.add 999999 1) (t.grades[g]).count)

/-- PAY's checks in the order of the spec, for each method: the first that fails gives the outcome and nothing
changes. -/
def Obligations.PayChecksInOrder : Prop :=
  ∀ (s : State) (p : Port) (tag : Byte) (n : Nat), n < 4294967296 →
    (∀ method, 3 ≤ method → method < 256 → GrantedTo s p tag 0x32 (enc4 n ++ enc1 method) →
      Refuses .pay s p ⟨tag, 0x32, .badParam, []⟩) ∧
    ∀ m : Method, GrantedTo s p tag 0x32 (enc4 n ++ m.enc) →
    (n = 0 ∨ 99999999 < n → Refuses .pay s p ⟨tag, 0x32, .badParam, []⟩) ∧
    (NoTicket s n → Refuses .pay s p ⟨tag, 0x32, .noTicket, []⟩) ∧
    ∀ i t, TicketAt s n i t →
      let cash : Bool := m = .cash
      let paid := if cash then cashAmount t.total s.settings.cashStep else t.total
      let rounding := if cash then cashRounding t.total s.settings.cashStep else 0
      let lines := lineCount s.settings false (closeRecordOf s t p (.paid m paid rounding))
      let refuse (o : OutcomeCode) (d : List Byte) : Prop := Refuses .pay s p ⟨tag, 0x32, o, d⟩
      if t.state = .atWindow ∧ (t.window.any fun w => w.holder != p) then refuse .ticketBusy []
      else if t.state ≠ .atWindow then refuse .wrongState []
      else if (t.lines.any fun l => l.unpriced) then refuse .priceMissing []
      else if t.totalClamped then refuse .amountRange []
      else if t.seller = none ∧ (s.settings.anonThreshold < t.total ∨ (t.lines.any fun l => l.restricted) = true) then
        refuse .sellerRequired []
      else if cash ∧ (t.lines.any fun l => l.restricted) then refuse .restricted []
      else if cash ∧ s.settings.cashLimit = 0 then refuse .limit (enc5 0)
      else if cash ∧ (t.seller.any fun id => (s.tallyWay id).isNone && (s.emptyWay id).isNone) then
        refuse .tallyFull []
      else if cash ∧ (t.seller.any fun id => decide (s.settings.cashLimit < s.tallyOf id + paid)) then
        ∃ id, t.seller = some id ∧ refuse .limit (enc5 (s.settings.cashLimit - s.tallyOf id))
      else if 128 ≤ s.journal.length then refuse .journalFull []
      else if s.settings.printersOf[p][(0 : Fin 4)] = none then refuse .noPrinter []
      else if s.freePages.length < (lines + 7) / 8 ∨ (∀ k : JobNo, s.jobs[k] ≠ none) then refuse .spoolFull []
      else True

/-- An accepted PAY, in one event: the seller's tally, the totals, the close record, the slot freed, the receipt
handed to the printer of alias 0 and, for CASH, that printer's drawer kicked. The width of R and the presence byte of
the tally pair in the answer follow assumptions 13 and 15. -/
def Obligations.PaySettlesInOneEvent : Prop :=
  ∀ (s : State) (p : Port) (tag : Byte) (n : Nat) (m : Method) (i : Slot) (t : Ticket) (printer : Printer) (jn : JobNo),
    n < 4294967296 → GrantedTo s p tag 0x32 (enc4 n ++ m.enc) → TicketAt s n i t →
    let cash : Bool := m = .cash
    let paid := if cash then cashAmount t.total s.settings.cashStep else t.total
    let rounding := if cash then cashRounding t.total s.settings.cashStep else 0
    let record : CloseRecord :=
      { day := s.day, number := n, closing := .paid m paid rounding, closingPort := p, closeTime := s.clock,
        kind := t.kind, openedBy := t.openedBy, openedAt := t.openedAt, seller := t.seller, plate := t.plate,
        weighings := t.weighings, lines := t.lines, total := t.total, totalClamped := t.totalClamped }
    t.state = .atWindow → (t.window.any fun w => w.holder != p) = false →
    (t.lines.any fun l => l.unpriced) = false → t.totalClamped = false →
    (t.seller = none → t.total ≤ s.settings.anonThreshold ∧ (t.lines.any fun l => l.restricted) = false) →
    (cash = true → (t.lines.any fun l => l.restricted) = false ∧ s.settings.cashLimit ≠ 0 ∧
      ∀ id, t.seller = some id → (s.tallyWay id ≠ none ∨ s.emptyWay id ≠ none) ∧
        s.tallyOf id + paid ≤ s.settings.cashLimit) →
    s.journal.length < 128 → s.settings.printersOf[p][(0 : Fin 4)] = some printer →
    (lineCount s.settings false record + 7) / 8 ≤ s.freePages.length → LowestFreeJob s jn →
      let spooled := s.handOver jn printer s.settings.receiptCopies false record
      let totals := s.totals.addPayment m paid rounding t.lines
      ∃ u, exec .pay s = .next u ∧
        Apart u { withSpool s (if cash then spooled.kickDrawer printer else spooled) with
          tally := u.tally
          totals := totals
          journal := s.journal ++ [.close record]
          slots := s.slots.set i none } ∧
        AnsweredLatching s u p
          ⟨tag, 0x32, .ok,
            enc4 n ++ m.enc ++ enc5 paid ++ enc5 rounding ++ enc1 jn.val ++
              encOpt (fun c => enc5 c ++ enc5 (s.settings.cashLimit - c))
                (if cash then t.seller.map fun id => s.tallyOf id + paid else none)⟩
          .totalSaturated (fun x => newlyMarked s.totals totals && decide (x.role = .office)) ∧
        (∀ id, cash = true → t.seller = some id → ∃ w,
          (s.tallyWay id = some w ∨ (s.tallyWay id = none ∧ s.emptyWay id = some w)) ∧
          u.tally = s.tally.set (tallyBucket id) (s.tally[tallyBucket id].set w (some
            { seller := id, cashToday := s.tallyOf id + paid
              payouts := min 255 (((s.tallyEntry id).map fun e => e.payouts).getD 0 + 1), lastTicket := n }))) ∧
        (cash = false ∨ t.seller = none → u.tally = s.tally)

/-- DRAWER_KICK, permitted to PAYOUT ports: NO_PRINTER where alias 0 names no printer; otherwise a train starts at an
output at rest, and a running train goes on as it was, whatever the state of the printer's link. A train's phases: an
on phase ends in an off phase; an off phase ends in the next on phase while the pulse number is below the count, and
otherwise ends the train. The DRAWER output is driven exactly in the on phases of a running train. That the expiry at a
train at rest changes nothing is the model's choice (assumption 4), and that the output is a function of the state, not
driven without power, is the model's (assumption 22). -/
def Obligations.DrawerTrainsStartAndRun : Prop :=
  (rolesFor 0x33 = some [.payout] ∧
  ∀ (s : State) (p : Port) (tag : Byte) (data : List Byte), GrantedTo s p tag 0x33 data →
    (data ≠ [] → Refuses .drawerKick s p ⟨tag, 0x33, .badParam, []⟩) ∧
    (data = [] →
      (s.settings.printersOf[p][(0 : Fin 4)] = none → Refuses .drawerKick s p ⟨tag, 0x33, .noPrinter, []⟩) ∧
      ∀ k : Printer, s.settings.printersOf[p][(0 : Fin 4)] = some k →
        (s.printers[k].train ≠ none → ∃ t, exec .drawerKick s = .next t ∧ Apart t s ∧
          Answered s t p ⟨tag, 0x33, .ok, [1]⟩) ∧
        (s.printers[k].train = none → ∃ t, exec .drawerKick s = .next t ∧
          Apart t { s with
            printers := s.printers.set k { s.printers[k] with
              train := some ⟨s.settings.drawerOn, s.settings.drawerOff, s.settings.drawerCount, 1, true⟩ } } ∧
          Answered s t p ⟨tag, 0x33, .ok, [0]⟩))) ∧
  (∀ (s : State) (k : Printer), s.taking = true →
    (s.printers[k].train = none → exec (.drawerPhaseExpiry k) s = .next s) ∧
    ∀ x, s.printers[k].train = some x → exec (.drawerPhaseExpiry k) s = .next { s with
      printers := s.printers.set k { s.printers[k] with
        train :=
          if x.onPhase then some { x with onPhase := false }
          else if x.pulse < x.count then some { x with pulse := x.pulse + 1, onPhase := true }
          else none } }) ∧
  ∀ (s : State) (k : Printer), drawerDriven s k = true ↔
    s.powered = true ∧ ∃ x, s.printers[k].train = some x ∧ x.onPhase = true

/-! ### Journal, day, documents -/

/-- VOID: its checks in their order, then, in one event: a capture in flight is abandoned and its port answered
NO_TICKET, the VOID close record is appended, tickets voided counted, a slip handed over where alias 0 names a printer
and the spool has room, and the slot freed. -/
def Obligations.VoidClosesTheTicket : Prop :=
  rolesFor 0x18 = some [.office] ∧
  ∀ (s : State) (p : Port) (tag : Byte) (n reason : Nat), n < 4294967296 → reason < 256 →
    GrantedTo s p tag 0x18 (enc4 n ++ enc1 reason) →
    (n = 0 ∨ 99999999 < n ∨ reason = 0 ∨ 15 < reason → Refuses .void s p ⟨tag, 0x18, .badParam, []⟩) ∧
    (1 ≤ reason → reason ≤ 15 →
      (NoTicket s n → Refuses .void s p ⟨tag, 0x18, .noTicket, []⟩) ∧
      ∀ i t, TicketAt s n i t →
        (t.state = .atWindow → Refuses .void s p ⟨tag, 0x18, .ticketBusy, []⟩) ∧
        (t.state ≠ .atWindow → 128 ≤ s.journal.length → Refuses .void s p ⟨tag, 0x18, .journalFull, []⟩) ∧
        (t.state ≠ .atWindow → s.journal.length < 128 → MarkerLaw s →
          let record : CloseRecord :=
            { day := s.day, number := n, closing := .voided reason, closingPort := p, closeTime := s.clock,
              kind := t.kind, openedBy := t.openedBy, openedAt := t.openedAt, seller := t.seller, plate := t.plate,
              weighings := t.weighings, lines := t.lines, total := t.total, totalClamped := t.totalClamped }
          let totals := { s.totals with voided := s.totals.voided.add 999999 1 }
          let saturated (x : StationPort) : StationPort :=
            latchedIf (newlyMarked s.totals totals && decide (x.role = .office)) .totalSaturated x
          let abandoned (q : Port) (x : StationPort) : StationPort :=
            match t.marker with
            | some m => if m.port = q then answeredPort x ⟨m.tag, m.purpose.code, .noTicket, []⟩ else x
            | none => x
          ∃ u spooled slip,
            (spooled = s ∧ slip = none ∧
                (s.settings.printersOf[p][(0 : Fin 4)] = none ∨
                  s.freePages.length < (lineCount s.settings false record + 7) / 8 ∨
                  ∀ k : JobNo, s.jobs[k] ≠ none) ∨
              ∃ printer jn, s.settings.printersOf[p][(0 : Fin 4)] = some printer ∧
                (lineCount s.settings false record + 7) / 8 ≤ s.freePages.length ∧ LowestFreeJob s jn ∧
                spooled = s.handOver jn printer 1 false record ∧ slip = some jn) ∧
            exec .void s = .next u ∧
            Apart u { withSpool s spooled with
              channels := (match t.marker with
                | some m => s.channels.set m.channel { s.channels[m.channel] with capture := none }
                | none => s.channels)
              totals := totals
              journal := s.journal ++ [.close record]
              slots := s.slots.set i none } ∧
            AnsweredAfter s u p
              ⟨tag, 0x18, .ok, enc4 n ++ encOpt (fun j : JobNo => enc1 j.val) slip⟩
              fun q x => saturated (abandoned q x)))

/-- JOURNAL_POP, permitted to OFFICE ports: JOURNAL_EMPTY on an empty journal; the head removed where kind and key are
its own; otherwise WRONG_STATE with the head's kind and key and nothing changed. -/
def Obligations.JournalPopRemovesTheNamedHead : Prop :=
  rolesFor 0x39 = some [.office] ∧
  ∀ (s : State) (p : Port) (tag : Byte) (key : Nat), key < 4294967296 →
    (∀ kind, 2 ≤ kind → kind < 256 → GrantedTo s p tag 0x39 (enc1 kind ++ enc4 key) →
      Refuses .journalPop s p ⟨tag, 0x39, .badParam, []⟩) ∧
    ∀ dayEnd : Bool, GrantedTo s p tag 0x39 (encFlag dayEnd ++ enc4 key) →
    (key = 0 ∨ (if dayEnd then 65535 else 99999999) < key → Refuses .journalPop s p ⟨tag, 0x39, .badParam, []⟩) ∧
    (1 ≤ key → key ≤ (if dayEnd then 65535 else 99999999) →
      (s.journal = [] → Refuses .journalPop s p ⟨tag, 0x39, .journalEmpty, []⟩) ∧
      ∀ head rest, s.journal = head :: rest →
        let itsKey : Bool × Nat := match head with
          | .close r => (false, r.number)
          | .dayEnd r => (true, r.day)
        (itsKey = (dayEnd, key) → ∃ t, exec .journalPop s = .next t ∧ Apart t { s with journal := rest } ∧
          Answered s t p ⟨tag, 0x39, .ok, encFlag dayEnd ++ enc4 key ++ enc1 rest.length⟩) ∧
        (itsKey ≠ (dayEnd, key) →
          Refuses .journalPop s p ⟨tag, 0x39, .wrongState, encFlag itsKey.1 ++ enc4 itsKey.2⟩))

/-- DAY_CLOSE, permitted to OFFICE ports: refused while a ticket is AT_WINDOW or the journal is full; otherwise the
DAY_END record is appended from the totals, and totals, marks and tallies are emptied and the day number raised. -/
def Obligations.DayCloseEndsTheDay : Prop :=
  rolesFor 0x3B = some [.office] ∧
  ∀ (s : State) (p : Port) (tag : Byte), GrantedTo s p tag 0x3B [] →
    ((∃ (i : Slot) (t : Ticket), s.slots[i] = some t ∧ t.state = .atWindow) →
      Refuses .dayClose s p ⟨tag, 0x3B, .wrongState, []⟩) ∧
    ((∀ (i : Slot) (t : Ticket), s.slots[i] = some t → t.state ≠ .atWindow) →
      (128 ≤ s.journal.length → Refuses .dayClose s p ⟨tag, 0x3B, .journalFull, []⟩) ∧
      (s.journal.length < 128 →
        let day := if s.day = 65535 then 1 else s.day + 1
        ∃ t, exec .dayClose s = .next t ∧
          Apart t { s with
            journal := s.journal ++ [.dayEnd
              { day := s.day, closingPort := p, closeTime := s.clock, paid := s.totals.paid.value
                voided := s.totals.voided.value, cash := s.totals.cash.value, nonCash := s.totals.nonCash.value
                rounding := s.totals.rounding.value, saturated := s.totals.all.any fun x => x.mark }]
            totals :=
              { grades := Vector.replicate 64 ⟨⟨0, false⟩, ⟨0, false⟩, ⟨0, false⟩⟩
                paid := ⟨0, false⟩, voided := ⟨0, false⟩, cash := ⟨0, false⟩, nonCash := ⟨0, false⟩
                rounding := ⟨0, false⟩ }
            tally := Vector.replicate 64 (Vector.replicate 4 none)
            day := day } ∧
          Answered s t p ⟨tag, 0x3B, .ok, enc2 s.day ++ enc2 day ++ enc1 (s.journal.length + 1)⟩))

/-- REPRINT: BAD_PARAM, NO_TICKET where no CLOSE record of the number stands in the journal, NO_PRINTER, SPOOL_FULL;
otherwise one copy of the duplicate is handed over to the printer of alias 0, and nothing but the spool changes. -/
def Obligations.ReprintHandsOverADuplicate : Prop :=
  rolesFor 0x3C = some [.payout, .office] ∧
  ∀ (s : State) (p : Port) (tag : Byte) (n : Nat), n < 4294967296 → GrantedTo s p tag 0x3C (enc4 n) →
    (n = 0 ∨ 99999999 < n → Refuses .reprint s p ⟨tag, 0x3C, .badParam, []⟩) ∧
    (1 ≤ n → n ≤ 99999999 →
      ((∀ r, .close r ∈ s.journal → r.number ≠ n) → Refuses .reprint s p ⟨tag, 0x3C, .noTicket, []⟩) ∧
      ∀ r, .close r ∈ s.journal → r.number = n → NumberLaw s →
        let lines := lineCount s.settings true r
        (s.settings.printersOf[p][(0 : Fin 4)] = none → Refuses .reprint s p ⟨tag, 0x3C, .noPrinter, []⟩) ∧
        ∀ printer, s.settings.printersOf[p][(0 : Fin 4)] = some printer →
          (s.freePages.length < (lines + 7) / 8 ∨ (∀ k : JobNo, s.jobs[k] ≠ none) →
            Refuses .reprint s p ⟨tag, 0x3C, .spoolFull, []⟩) ∧
          ∀ jn, (lines + 7) / 8 ≤ s.freePages.length → LowestFreeJob s jn →
            ∃ u, exec .reprint s = .next u ∧ Apart u (withSpool s (s.handOver jn printer 1 true r)) ∧
              Answered s u p ⟨tag, 0x3C, .ok,
                enc4 n ++ r.closing.enc ++ enc1 lines ++ enc1 ((lines + 7) / 8) ++ enc1 jn.val⟩)

/-- A document has exactly the lines its count says, each of 32 characters, and the TOTAL line alone in bold; its line
kinds stand in the order of 7.2. Figures are decimal without leading zeros, with a point and a fixed number of digits
after it for weights, prices and amounts. Every kind of line is laid out in the columns of 7.4, a text from its first
column on and a figure up to its last, and every other column holds a space, for values within their ranges. The
composer's hand-over: pages and number allocated, exactly the document's lines written into the slots of the job and
no other byte of page memory changed, the job closed at the tail of its printer's queue, and the start condition
judged. -/
def Obligations.ComposerHandsOverTheDocument : Prop :=
  (∀ (st : Settings) (duplicate : Bool) (r : CloseRecord),
    let count := (textsPresent st.headers).length + (textsPresent st.footers).length + duplicate.toNat +
      r.seller.isSome.toNat + r.plate.isSome.toNat +
      (match r.closing with
        | .paid _ _ q => (decide (0 < q)).toNat
        | .voided _ => 0) +
      r.weighings.length + 2 * r.lines.length + (r.lines.filter fun l => 0 < l.autoDed + l.manualDed).length + 5
    (documentLines st duplicate r).length = count ∧ lineCount st duplicate r = count ∧
      pagesNeeded count = (count + 7) / 8 ∧ (∀ x ∈ documentLines st duplicate r, x.1.length = 32) ∧
      ((documentLines st duplicate r).filter fun x => x.2) = [(totalLine r, true)] ∧
      (documentLines st duplicate r).map (fun x => x.1) =
        ((List.finRange 4).filterMap fun i => st.headers[i]).map centred ++
          (if duplicate then [duplicateLine] else []) ++ [ticketLine r, dateTimeLine r] ++
          r.seller.toList.map sellerLine ++ r.plate.toList.map plateLine ++ r.weighings.map weighingLine ++
          (r.lines.zipIdx.flatMap fun x =>
            [lineA st (x.2 + 1) x.1] ++ (if 0 < x.1.autoDed + x.1.manualDed then [deductionLine x.1] else []) ++
              [lineB x.1]) ++
          [separatorLine, totalLine r, outcomeLine r.closing] ++ roundingLines r.closing ++
          ((List.finRange 2).filterMap fun i => st.footers[i]).map centred) ∧
  ((∀ n, n < 10 ^ 20 → ReadsAs (decimal n) n ∧ decimal n ≠ [] ∧ (9 < n → (decimal n).head? ≠ some 0x30)) ∧
    (∀ w n, ReadsAs (zeroPadded w n) (n % 10 ^ w) ∧ (zeroPadded w n).length = w) ∧
    (∀ w, weightText w = decimal (w / 10) ++ ascii "." ++ zeroPadded 1 w) ∧
    (∀ n : Int, netText n = if n < 0 then ascii "-" ++ weightText n.natAbs else weightText n.natAbs) ∧
    (∀ p, priceText p = decimal (p / 1000) ++ ascii "." ++ zeroPadded 3 p) ∧
    (∀ a, amountText a = decimal (a / 100) ++ ascii "." ++ zeroPadded 2 a) ∧
    ∀ n, optTimeText none = ascii "--:--:--" ∧ optTimeText (some n) = zeroPadded 2 (n / 3600) ++ ascii ":" ++
      zeroPadded 2 (n % 3600 / 60) ++ ascii ":" ++ zeroPadded 2 (n % 60)) ∧
  ((∀ x : Text, x.length ≤ 32 → LaidOut (centred x) [((32 - x.length) / 2 + 1, x)]) ∧
    LaidOut duplicateLine [(8, ascii "*** DUPLICATE ***")] ∧ LaidOut separatorLine [(1, List.replicate 32 0x2D)] ∧
    (∀ id : Text, id.length ≤ 16 → LaidOut (sellerLine id) [(1, ascii "SELLER"), (8, id)]) ∧
    (∀ plate : Text, plate.length ≤ 10 → LaidOut (plateLine plate) [(1, ascii "PLATE"), (8, plate)]) ∧
    (∀ r : CloseRecord,
      (r.number ≤ 99999999 → r.day ≤ 65535 → LaidOut (ticketLine r)
        [(1, ascii "TICKET"), endsAt 15 (decimal r.number),
          (17, match r.kind with
            | .truck => ascii "TRUCK"
            | .walkin => ascii "WALKIN"),
          (24, ascii "DAY"), endsAt 32 (decimal r.day)]) ∧
      (∀ c, r.closeTime = some c → c.date.length = 8 → LaidOut (dateTimeLine r)
        [(1, c.date), (13, ascii "SP" ++ zeroPadded 1 r.closingPort.val), (25, optTimeText (some c.seconds))]) ∧
      (r.closeTime = none → LaidOut (dateTimeLine r)
        [(1, List.replicate 8 0x2D), (13, ascii "SP" ++ zeroPadded 1 r.closingPort.val), (25, optTimeText none)]) ∧
      (r.total ≤ 9999999999 → LaidOut (totalLine r)
        [(1, ascii "TOTAL"), (7, if r.totalClamped then ascii "CLAMPED" else []), endsAt 32 (amountText r.total)])) ∧
    (∀ w : Weighing, w.weight ≤ 1000000 → LaidOut (weighingLine w)
      [(1, zeroPadded 1 w.seq),
        (3, match w.kind with
          | .gross => ascii "GROSS"
          | .dump => ascii "DUMP"
          | .tare => ascii "TARE"
          | .bin => ascii "BIN"),
        (9, match w.kind, w.container with
          | .bin, some k => ascii "C" ++ zeroPadded 2 k.val
          | _, _ => ascii "SC" ++ zeroPadded 1 w.channel.val),
        endsAt 20 (weightText w.weight), (22, ascii "KG"), (25, optTimeText w.time)]) ∧
    (∀ (st : Settings) (l : Line) (index : Nat), st.active[l.grade].name.length = 12 → l.net.natAbs ≤ 1000000 →
      LaidOut (lineA st index l)
        [(1, zeroPadded 1 index), (3, zeroPadded 2 l.grade.number), (6, st.active[l.grade].name),
          endsAt 27 (netText l.net), (29, ascii "KG"), (32, if l.restricted then ascii "R" else [])]) ∧
    (∀ l : Line, l.autoDed ≤ 500000 → l.manualDed ≤ 999999 → LaidOut (deductionLine l)
      [(1, if l.dedClamped then ascii "*" else []), (3, ascii "LESS"), (8, ascii "AUTO"),
        endsAt 20 (weightText l.autoDed), (22, ascii "MAN"), endsAt 32 (weightText l.manualDed)]) ∧
    (∀ l : Line, l.payable ≤ 1000000 → l.price.getD 0 ≤ 999999 → l.amount ≤ 9999999999 → LaidOut (lineB l)
      [endsAt 10 (weightText l.payable), (12, ascii "X"),
        endsAt 20 (match l.price with
          | some p => priceText p
          | none => List.replicate 7 0x2D),
        endsAt 32 (amountText l.amount)]) ∧
    ∀ (m : Method) (paid rounding reason : Nat), paid ≤ 9999999999 → rounding ≤ 9999999999 → reason ≤ 15 →
      LaidOut (outcomeLine (.paid m paid rounding))
        [(1, ascii "PAID"),
          (6, match m with
            | .cash => ascii "CASH"
            | .cheque => ascii "CHEQUE"
            | .transfer => ascii "TRANSFER"),
          endsAt 32 (amountText paid)] ∧
      LaidOut (outcomeLine (.voided reason)) [(1, ascii "VOID"), (6, ascii "REASON"), endsAt 14 (decimal reason)] ∧
      roundingLines (.voided reason) = [] ∧ (rounding = 0 → roundingLines (.paid m paid rounding) = []) ∧
      (0 < rounding → ∃ x, roundingLines (.paid m paid rounding) = [x] ∧
        LaidOut x [(1, ascii "ROUNDING"), endsAt 32 (amountText rounding)])) ∧
  (∀ (s : State) (jn : JobNo) (k : Printer) (copies : Nat) (duplicate : Bool) (r : CloseRecord),
    MemoryLaw s → PageLaw s → s.jobs[jn] = none →
    let lines := lineCount s.settings duplicate r
    let pages := (lines + 7) / 8
    let job : Job :=
      { owner := .composer, printer := k, ticket := some r.number, pages := s.freePages.take pages, written := lines
        closed := true, copies := copies, currentCopy := 1, sent := 0, threshold := 0, state := .queued
        endPending := none, doneStatus := none, stall := none }
    pages ≤ s.freePages.length → ∃ u : State, s.handOver jn k copies duplicate r = u.offer k ∧
      u = { s with
        pageMem := u.pageMem, boldMarks := u.boldMarks, freePages := s.freePages.drop pages
        jobs := s.jobs.set jn (some job), queues := s.queues.set k (s.queues[k] ++ [jn]) } ∧
      (∀ n, n < lines → (documentLines s.settings duplicate r)[n]? = some (u.storedLine job n)) ∧
      (∀ a, (∀ n page slot, n < lines → job.lineSlot n = some (page, slot) →
          a < slotAddress page slot ∨ slotAddress page slot + 32 ≤ a) → memRead u.pageMem a = memRead s.pageMem a) ∧
      ∀ a, (∀ n page slot, n < lines → job.lineSlot n = some (page, slot) → a ≠ markAddress page slot) →
        memRead u.boldMarks a = memRead s.boldMarks a)

/-! ### Spool, queues and engines -/

/-- JOB_OPEN allocates the lowest free pages and the lowest free job number to a WRITING job of the requesting port;
JOB_RELEASE returns a DONE job, or for an OFFICE port a WRITING one, to the free pool. Their checks come first, in
order. -/
def Obligations.JobsAreOpenedAndReleased : Prop :=
  ∀ (s : State) (p : Port) (tag : Byte),
    (∀ entry pages : Nat, entry < 256 → pages < 256 → GrantedTo s p tag 0x40 (enc1 entry ++ enc1 pages) →
      if h : entry < 4 ∧ 1 ≤ pages ∧ pages ≤ 12 then
        match s.settings.printersOf[p][entry]'(by omega) with
        | none => Refuses .jobOpen s p ⟨tag, 0x40, .noPrinter, []⟩
        | some k =>
          (s.freePages.length < pages ∨ (∀ n : JobNo, s.jobs[n] ≠ none) →
            Refuses .jobOpen s p ⟨tag, 0x40, .spoolFull, []⟩) ∧
          ∀ jn, pages ≤ s.freePages.length → LowestFreeJob s jn → ∃ u, exec .jobOpen s = .next u ∧
            Apart u { s with
              freePages := s.freePages.drop pages
              jobs := s.jobs.set jn (some
                { owner := .port p, printer := k, ticket := none, pages := s.freePages.take pages, written := 0
                  closed := false, copies := 1, currentCopy := 1, sent := 0, threshold := 0, state := .writing
                  endPending := none, doneStatus := none, stall := none }) } ∧
            Answered s u p ⟨tag, 0x40, .ok, enc1 jn.val ++ enc1 pages ++ enc1 (8 * pages)⟩
      else Refuses .jobOpen s p ⟨tag, 0x40, .badParam, []⟩) ∧
    (∀ n : Nat, 32 ≤ n → n < 256 → GrantedTo s p tag 0x46 (enc1 n) →
      Refuses .jobRelease s p ⟨tag, 0x46, .badParam, []⟩) ∧
    (∀ jn : JobNo, PageLaw s → GrantedTo s p tag 0x46 (enc1 jn.val) →
      (s.jobs[jn] = none → Refuses .jobRelease s p ⟨tag, 0x46, .noJob, []⟩) ∧
      ∀ j, s.jobs[jn] = some j →
        if j.owner ≠ .port p ∧ s.ports[p].role ≠ .office then Refuses .jobRelease s p ⟨tag, 0x46, .noJob, []⟩
        else if j.state = .done ∨ (j.state = .writing ∧ s.ports[p].role = .office) then
          ∃ u, exec .jobRelease s = .next u ∧
            Apart u { s with jobs := s.jobs.set jn none, freePages := u.freePages } ∧
            (∀ q, q ∈ u.freePages ↔ q ∈ s.freePages ∨ q ∈ j.pages) ∧ u.freePages.Pairwise (· < ·) ∧
            Answered s u p
              ⟨tag, 0x46, .ok, enc1 j.pages.length ++ enc1 (s.freePages.length + j.pages.length)⟩
        else Refuses .jobRelease s p ⟨tag, 0x46, .jobState, []⟩)

/-- JOB_WRITE: its checks in their order; then each line, a byte that is not printable stored as '?', fills the slot
of its line number, no other byte of page memory changes, lines written rises, a QUEUED head is judged and a STALLED
job goes on from line "sent". -/
def Obligations.JobWriteFillsItsSlots : Prop :=
  ∀ (s : State) (p : Port) (tag : Byte) (number : Nat) (ls : List (Text × Bool)), number < 256 →
    (∀ l ∈ ls, l.1.length < 256) → ls.length < 256 →
    GrantedTo s p tag 0x41 (enc1 number ++ encList (fun l : Text × Bool => encText l.1 ++ encFlag l.2) ls) →
    (32 ≤ number ∨ ls.length = 0 ∨ 6 < ls.length ∨ (∃ l ∈ ls, 32 < l.1.length) →
      Refuses .jobWrite s p ⟨tag, 0x41, .badParam, []⟩) ∧
    (∀ jn : JobNo, jn.val = number → 1 ≤ ls.length → ls.length ≤ 6 → (∀ l ∈ ls, l.1.length ≤ 32) →
      SpoolLaw s → MemoryLaw s →
      ((∀ j, s.jobs[jn] = some j → j.owner ≠ .port p) → Refuses .jobWrite s p ⟨tag, 0x41, .noJob, []⟩) ∧
      ∀ j, s.jobs[jn] = some j → j.owner = .port p →
        if j.closed ∨ j.state = .done ∨ j.endPending ≠ none then Refuses .jobWrite s p ⟨tag, 0x41, .jobState, []⟩
        else if 8 * j.pages.length < j.written + ls.length then
          Refuses .jobWrite s p ⟨tag, 0x41, .jobFull, enc1 (8 * j.pages.length - j.written)⟩
        else ∃ t v : State, exec .jobWrite s = .next t ∧
          Answered s t p ⟨tag, 0x41, .ok, enc1 (j.written + ls.length)⟩ ∧
          let j' := { j with written := j.written + ls.length }
          v = { s with
            pageMem := v.pageMem, boldMarks := v.boldMarks, jobs := s.jobs.set jn (some j') } ∧
          (∀ n l, ls[n]? = some l → v.storedLine j (j.written + n) =
            ((l.1.map fun b => if printable b then b else 0x3F) ++ List.replicate (32 - l.1.length) 0x20, l.2)) ∧
          (∀ a, (∀ n page slot, n < ls.length → j.lineSlot (j.written + n) = some (page, slot) →
              a < slotAddress page slot ∨ slotAddress page slot + 32 ≤ a) →
            memRead v.pageMem a = memRead s.pageMem a) ∧
          (∀ a, (∀ n page slot, n < ls.length → j.lineSlot (j.written + n) = some (page, slot) →
              a ≠ markAddress page slot) → memRead v.boldMarks a = memRead s.boldMarks a) ∧
          (j.state = .writing ∨ j.state = .printing ∨ j.state = .halted → Apart t v) ∧
          (j.state = .queued → Apart t (withSpool s (v.offer j.printer))) ∧
          (j.state = .stalled → ∃ b, (storedLineBytes (v.storedLine j j.sent)).head? = some b ∧
            Apart t { v with
              jobs := s.jobs.set jn (some { j' with state := .printing, stall := none })
              printers := s.printers.set j.printer
                (sendsByte s s.printers[j.printer] { part := .stored j.sent, next := 0 } b) }))

/-- JOB_SUBMIT: its checks in their order; then the job takes copies and threshold, is closed where the threshold is
0, joins the tail of its printer's queue as QUEUED, and the head is judged. JOB_CLOSE: its checks in their order; then
the job is closed: a QUEUED head is judged, a STALLED job goes back to PRINTING and sends CUT at once, and a PRINTING
or HALTED one goes on as it was. -/
def Obligations.JobsAreSubmittedAndClosed : Prop :=
  (∀ (s : State) (p : Port) (tag : Byte) (n copies threshold : Nat), n < 256 → copies < 256 → threshold < 256 →
    GrantedTo s p tag 0x42 (enc1 n ++ enc1 copies ++ enc1 threshold) →
    if h : n < 32 ∧ (1 ≤ copies ∧ copies ≤ 3) ∧ threshold ≤ 96 then
      (s.jobs[n] = none → Refuses .jobSubmit s p ⟨tag, 0x42, .noJob, []⟩) ∧
      ∀ j, s.jobs[n] = some j →
        if 8 * j.pages.length < threshold then Refuses .jobSubmit s p ⟨tag, 0x42, .badParam, []⟩
        else if j.owner ≠ .port p then Refuses .jobSubmit s p ⟨tag, 0x42, .noJob, []⟩
        else if j.state ≠ .writing then Refuses .jobSubmit s p ⟨tag, 0x42, .jobState, []⟩
        else if threshold = 0 ∧ j.written = 0 then Refuses .jobSubmit s p ⟨tag, 0x42, .noLines, []⟩
        else
          let u : State := { s with
            jobs := s.jobs.set n (some
              { j with copies := copies, threshold := threshold, closed := decide (threshold = 0), state := .queued })
            queues := s.queues.set j.printer (s.queues[j.printer] ++ [⟨n, h.1⟩]) }
          ∃ t, exec .jobSubmit s = .next t ∧ Apart t (withSpool s (u.offer j.printer)) ∧
            Answered s t p ⟨tag, 0x42, .ok, enc1 (s.queues[j.printer].length + 1)⟩
    else Refuses .jobSubmit s p ⟨tag, 0x42, .badParam, []⟩) ∧
  (∀ (s : State) (p : Port) (tag : Byte) (number : Nat), number < 256 → GrantedTo s p tag 0x43 (enc1 number) →
    (32 ≤ number → Refuses .jobClose s p ⟨tag, 0x43, .badParam, []⟩) ∧
    ∀ jn : JobNo, jn.val = number → SpoolLaw s →
    ((∀ j, s.jobs[jn] = some j → j.owner ≠ .port p) → Refuses .jobClose s p ⟨tag, 0x43, .noJob, []⟩) ∧
    ∀ j, s.jobs[jn] = some j → j.owner = .port p →
      if j.state = .writing ∨ j.state = .done ∨ j.closed ∨ j.endPending ≠ none then
        Refuses .jobClose s p ⟨tag, 0x43, .jobState, []⟩
      else if j.written = 0 then Refuses .jobClose s p ⟨tag, 0x43, .noLines, []⟩
      else ∃ t, exec .jobClose s = .next t ∧ Answered s t p ⟨tag, 0x43, .ok, enc1 j.written⟩ ∧
        let closed : State := { s with jobs := s.jobs.set jn (some { j with closed := true }) }
        (j.state = .printing ∨ j.state = .halted → Apart t closed) ∧
        (j.state = .queued → Apart t (withSpool s (closed.offer j.printer))) ∧
        (j.state = .stalled → j.sent = j.written → Apart t { s with
          jobs := s.jobs.set jn (some { j with closed := true, state := .printing, stall := none })
          printers := s.printers.set j.printer
            (sendsByte s s.printers[j.printer] { part := .cut, next := 0 } ⟨true, 0x0C⟩) }))

/-- JOB_CANCEL: NO_JOB and JOB_STATE first; then, by the job's state, the job ends CANCELLED now (WRITING, QUEUED,
HALTED) or takes the pending end and the engine is turned to CUT (PRINTING, STALLED); JOB_DONE is not latched in the
event of the owner's own cancel. The stall timer of a STALLED job expires: the job takes the pending end UNDERRUN and
the engine sends CUT; any other job is untouched, which is the model's choice (assumption 4). That the job stays
STALLED until the copy end, that its record keeps the end pending, and the order while a frame is in progress, are the
model's (assumptions 9, 18). -/
def Obligations.JobsEndByCancelOrStall : Prop :=
  (∀ (s : State) (p : Port) (tag : Byte) (number : Nat), number < 256 → GrantedTo s p tag 0x44 (enc1 number) →
    (32 ≤ number → Refuses .jobCancel s p ⟨tag, 0x44, .badParam, []⟩) ∧
    ∀ jn : JobNo, jn.val = number → SpoolLaw s →
    (s.jobs[jn] = none → Refuses .jobCancel s p ⟨tag, 0x44, .noJob, []⟩) ∧
    ∀ j, s.jobs[jn] = some j →
      if j.owner ≠ .port p ∧ s.ports[p].role ≠ .office then Refuses .jobCancel s p ⟨tag, 0x44, .noJob, []⟩
      else if j.state = .done then Refuses .jobCancel s p ⟨tag, 0x44, .jobState, []⟩
      else if j.endPending ≠ none then ∃ t, exec .jobCancel s = .next t ∧ Apart t s ∧
        Answered s t p ⟨tag, 0x44, .ok, [1]⟩
      else if j.state = .printing then ∃ t, exec .jobCancel s = .next t ∧
        Answered s t p ⟨tag, 0x44, .ok, [1]⟩ ∧
        let j' := { j with endPending := some PendingEnd.cancelled }
        Apart t { s with
          jobs := s.jobs.set jn (some j')
          printers := s.printers.set j.printer
            (if s.printers[j.printer].frame = none then turnedToCut j' s.printers[j.printer]
              else s.printers[j.printer]) }
      else if j.state = .stalled then ∃ t, exec .jobCancel s = .next t ∧
        Answered s t p ⟨tag, 0x44, .ok, [1]⟩ ∧
        Apart t { s with
          jobs := s.jobs.set jn (some { j with endPending := some .cancelled, stall := none })
          printers := s.printers.set j.printer
            (sendsByte s s.printers[j.printer] { part := .cut, next := 0 } ⟨true, 0x0C⟩) }
      else ∃ t u : State, exec .jobCancel s = .next t ∧
        AnsweredAfter s t p ⟨tag, 0x44, .ok, [0]⟩
          (fun q x => if j.owner = .port p then x else ownerLatched j q x) ∧
        JobEnded s u jn j .cancelled ∧
        u = { s with
          jobs := u.jobs, freePages := u.freePages
          queues := s.queues.set j.printer (s.queues[j.printer].filter fun k => k != jn) } ∧
        Apart t (withSpool s (if j.state = .queued then u.offer j.printer else u))) ∧
  (∀ (s : State) (jn : JobNo), s.taking = true → SpoolLaw s →
    ((∀ j, s.jobs[jn] = some j → j.stall = none) → exec (.stallTimerExpiry jn) s = .next s) ∧
    ∀ j, s.jobs[jn] = some j → j.state = .stalled → j.stall ≠ none → exec (.stallTimerExpiry jn) s = .next { s with
      jobs := s.jobs.set jn (some { j with endPending := some .underrun, stall := none })
      printers := s.printers.set j.printer
        (sendsByte s s.printers[j.printer] { part := .cut, next := 0 } ⟨true, 0x0C⟩) })

/-- PRINTER_RESUME, PRINTER_FLUSH and PRINTER_REDIRECT: the halt cleared and a HALTED head requeued; every job of the
queue ended FLUSHED and the engine made to drop its job; the QUEUED jobs, and a HALTED head behind a HALTED engine,
moved in order to the tail of the target. The mark of a frame that a flush leaves over is the model's own (assumption
21), and so is that a flushed job's record keeps its end pending (assumption 18). -/
def Obligations.PrinterQueuesAreServed : Prop :=
  rolesFor 0x48 = some [.office] ∧ rolesFor 0x49 = some [.office] ∧ rolesFor 0x4A = some [.office] ∧
  (∀ (s : State) (p : Port) (tag : Byte) (n target : Nat), n < 256 → target < 256 →
    (3 ≤ n → GrantedTo s p tag 0x48 (enc1 n) → Refuses .printerResume s p ⟨tag, 0x48, .badParam, []⟩) ∧
    (3 ≤ n → GrantedTo s p tag 0x49 (enc1 n) → Refuses .printerFlush s p ⟨tag, 0x49, .badParam, []⟩) ∧
    (3 ≤ n ∨ 3 ≤ target ∨ n = target → GrantedTo s p tag 0x4A (enc1 n ++ enc1 target) →
      Refuses .printerRedirect s p ⟨tag, 0x4A, .badParam, []⟩)) ∧
  ∀ (s : State) (p : Port) (tag : Byte) (k : Printer), SpoolLaw s →
    (GrantedTo s p tag 0x48 (enc1 k.val) →
      (s.printers[k].state ≠ .halted → Refuses .printerResume s p ⟨tag, 0x48, .wrongState, []⟩) ∧
      (s.printers[k].state = .halted →
        let u : State := { s with
          jobs := (match s.headJob k with
            | some (jn, j) =>
              if j.state = .halted then
                s.jobs.set jn (some { j with state := .queued, sent := 0, stall := none })
              else s.jobs
            | none => s.jobs)
          printers := s.printers.set k { restedEngine s k with fault := none } }
        ∃ t, exec .printerResume s = .next t ∧ Apart t (withSpool s (u.offer k)) ∧
          Answered s t p ⟨tag, 0x48, .ok, []⟩)) ∧
    (GrantedTo s p tag 0x49 (enc1 k.val) → ∃ t, exec .printerFlush s = .next t ∧
      Apart t { s with
        jobs := t.jobs, freePages := t.freePages, queues := s.queues.set k []
        printers := s.printers.set k
          (if s.printers[k].state = .sending ∨ s.printers[k].state = .inhibited then
            if s.printers[k].frame ≠ none then
              { s.printers[k] with job := none, position := none, dropping := true }
            else restedEngine s k
          else s.printers[k]) } ∧
      (∀ jn : JobNo, t.jobs[jn] = if jn ∈ s.queues[k] then s.jobs[jn].bind fun j =>
          if j.owner = .composer then none
          else some { j with state := .done, doneStatus := some .flushed, stall := none }
        else s.jobs[jn]) ∧
      (∀ q, q ∈ t.freePages ↔ q ∈ s.freePages ∨
        ∃ jn ∈ s.queues[k], ∃ j, s.jobs[jn] = some j ∧ j.owner = .composer ∧ q ∈ j.pages) ∧
      AnsweredAfter s t p ⟨tag, 0x49, .ok, enc1 s.queues[k].length⟩
        (fun q x => latchedIf
          (s.queues[k].any fun jn => s.jobs[jn].any fun j => decide (j.owner = .port q)) .jobDone x)) ∧
    ∀ target : Printer, target ≠ k → GrantedTo s p tag 0x4A (enc1 k.val ++ enc1 target.val) →
      let moving (jn : JobNo) : Bool := s.jobs[jn].any fun j =>
        j.state == .queued || (j.state == .halted && s.printers[k].state == .halted)
      ∃ t u : State, exec .printerRedirect s = .next t ∧ Apart t (withSpool s (u.offer target)) ∧
        u = { s with
          jobs := u.jobs
          queues := (s.queues.set k (s.queues[k].filter fun jn => !moving jn)).set target
            (s.queues[target] ++ s.queues[k].filter moving) } ∧
        (∀ jn : JobNo, u.jobs[jn] = if jn ∈ s.queues[k] ∧ moving jn then
            s.jobs[jn].map fun j => { j with state := .queued, sent := 0, stall := none, printer := target }
          else s.jobs[jn]) ∧
        Answered s t p ⟨tag, 0x4A, .ok, enc1 (s.queues[k].filter moving).length⟩

/-- The start condition: an IDLE engine takes a head that is startable, the job enters PRINTING with sent 0, and the
first byte of the copy goes out, the copy marker's where copies are above 1 and otherwise line 0's; any other head or
engine is left as it is. -/
def Obligations.IdleEngineTakesTheStartableHead : Prop :=
  ∀ (s : State) (k : Printer) (jn : JobNo) (j : Job), s.headJob k = some (jn, j) →
    let startable : Bool := j.state == .queued && (j.closed || decide (j.threshold ≤ j.written))
    (s.printers[k].state ≠ .idle ∨ startable = false → s.offer k = s) ∧
    (s.printers[k].state = .idle → startable = true → s.printers[k].atRest → 0 < j.written → j.endPending = none →
      let part := if 1 < j.copies then CopyPart.copyMarker else .stored 0
      ∃ b, (s.partBytes j part).head? = some b ∧ s.offer k = { s with
        jobs := s.jobs.set jn (some { j with state := .printing, sent := 0 })
        printers := s.printers.set k
          (sendsByte s { s.printers[k] with state := .sending, job := some jn } { part := part, next := 0 } b) })

/-- A frame's answer ACCEPTED within a part sends the part's next byte; at the end of a stored line sent rises and the
next written line, or CUT, follows, or the open job stalls; after the copy marker line 0 follows. No frame, no effect.
An accepted CUT is the copy end: the next copy begins while there is one and no end is pending; otherwise the job
leaves its queue and ends, PRINTED or with its pending status, JOB_DONE is latched at its owner, and the engine, IDLE
or OFF, is offered the next head. That an answer without a frame changes nothing is the model's choice (assumption 4),
and that a DONE record keeps its end pending is the model's reading (assumption 18). -/
def Obligations.AcceptedBytesMoveTheEngineOn : Prop :=
  (∀ (s : State) (k : Printer), s.taking = true → EngineLaw s →
    let e := s.printers[k]
    let sent := { e with frame := none, refusals := 0 }
    (∀ a, e.frame = none → exec (.printerFrameEnd k a) s = .next s) ∧
    ∀ jn j part n, e.frame ≠ none → e.job = some jn → s.jobs[jn] = some j → e.position = some ⟨part, n⟩ →
      (∀ b, (s.partBytes j part)[n + 1]? = some b → exec (.printerFrameEnd k .accepted) s = .next { s with
        printers := s.printers.set k (sendsByte s sent ⟨part, n + 1⟩ b) }) ∧
      ((s.partBytes j part).length = n + 1 → part ≠ .cut →
        let j' := { j with sent := match part with
          | .stored _ => j.sent + 1
          | _ => j.sent }
        (j.endPending ≠ none ∨ (j'.written ≤ j'.sent ∧ j.closed = true) →
          exec (.printerFrameEnd k .accepted) s = .next { s with
            jobs := s.jobs.set jn (some j')
            printers := s.printers.set k (sendsByte s sent ⟨.cut, 0⟩ ⟨true, 0x0C⟩) }) ∧
        (j.endPending = none → j'.sent < j'.written → ∃ b,
          (storedLineBytes (s.storedLine j j'.sent)).head? = some b ∧
          exec (.printerFrameEnd k .accepted) s = .next { s with
            jobs := s.jobs.set jn (some j')
            printers := s.printers.set k (sendsByte s sent ⟨.stored j'.sent, 0⟩ b) }) ∧
        (j.endPending = none → j'.written ≤ j'.sent → j.closed = false →
          exec (.printerFrameEnd k .accepted) s = .next { s with
            jobs := s.jobs.set jn (some { j' with state := .stalled, stall := some s.settings.stallTime })
            printers := s.printers.set k { sent with position := none, pendingByte := none } }))) ∧
  (∀ (s : State) (k : Printer) (jn : JobNo) (j : Job), s.taking = true → SpoolLaw s →
    let e := s.printers[k]
    e.frame ≠ none → e.job = some jn → s.jobs[jn] = some j → e.position = some ⟨.cut, 0⟩ →
      (j.endPending = none → j.currentCopy < j.copies → 0 < j.written →
        let j' := { j with currentCopy := j.currentCopy + 1, sent := 0 }
        ∃ b, (copyMarkerBytes j').head? = some b ∧ exec (.printerFrameEnd k .accepted) s = .next { s with
          jobs := s.jobs.set jn (some j')
          printers := s.printers.set k
            (sendsByte s { e with frame := none, refusals := 0 } ⟨.copyMarker, 0⟩ b) }) ∧
      (j.endPending ≠ none ∨ j.copies ≤ j.currentCopy → ∃ u : State,
        exec (.printerFrameEnd k .accepted) s = .next (u.offer k) ∧
        JobEnded s u jn j (match j.endPending with
          | some .cancelled => .cancelled
          | some .underrun => .underrun
          | none => .printed) ∧
        u = { s with
          jobs := u.jobs, freePages := u.freePages
          queues := s.queues.set k (s.queues[k].filter fun x => x != jn)
          printers := s.printers.set k (restedEngine s k)
          ports := mapEntries (fun q x => ownerLatched j q x) s.ports }))

/-- A frame's answer REFUSED raises the refusal count and waits out a backoff of 5 ms with the byte still pending, or,
at the refusal limit, halts the engine; the backoff's expiry begins the frame again; and the answer of a frame that a
flush left over is not acted on. The mark of that frame is the model's own (assumption 21), and so are the turn to CUT
after a first byte (assumption 9), the expiry of a backoff that does not run (assumption 4), and the end pending that
the record of a job ended by the halt keeps (assumption 18). -/
def Obligations.RefusedBytesAreSentAgain : Prop :=
  ∀ (s : State) (k : Printer), s.taking = true → SpoolLaw s →
    let e := s.printers[k]
    (e.frame ≠ none → e.dropping = false →
      (e.refusals + 1 < s.settings.refusalLimit → ∀ jn j, e.job = some jn → s.jobs[jn] = some j →
        exec (.printerFrameEnd k .refused) s = .next { s with
          printers := s.printers.set k
            (turnedToCut j { e with frame := none, refusals := min 15 (e.refusals + 1), backoff := some 5 }) }) ∧
      (s.settings.refusalLimit ≤ e.refusals + 1 → ∃ t, exec (.printerFrameEnd k .refused) s = .next t ∧
        EngineHalts s t k .refused (min 15 (e.refusals + 1)))) ∧
    (e.dropping = true → ∀ a, exec (.printerFrameEnd k a) s = .next
      (({ s with printers := s.printers.set k (restedEngine s k) } : State).offer k)) ∧
    (e.backoff = none → exec (.backoffExpiry k) s = .next s) ∧
    (e.backoff ≠ none → exec (.backoffExpiry k) s = .next { s with
      printers := s.printers.set k
        (if e.clockLow then
          { e with backoff := none, state := .inhibited, inhibit := some s.settings.inhibitLimit }
        else { e with backoff := none, frame := some 1 }) })

/-- The clock line: pulled low in periods 1 to 10 it aborts the frame and inhibits the engine, in periods 11 to 13 the
frame runs on, and without a frame nothing follows; its release lets an INHIBITED engine send its byte; the inhibit
timer's expiry halts the engine. That the command carries the period is the model's (assumption 19), as are the turn
to CUT and the mark of a dropped frame (assumptions 9, 21), and the end pending that the record of a job ended by the
halt keeps (assumption 18). That a pull of a line already low, a release of a line not low and an inhibit expiry
outside INHIBITED change nothing is the model's choice (assumption 4). -/
def Obligations.ClockLineInhibits : Prop :=
  ∀ (s : State) (k : Printer), s.taking = true → SpoolLaw s →
    let e := s.printers[k]
    (∀ period, e.clockLow = true → exec (.clockLineLow k period) s = .next s) ∧
    (∀ period, e.clockLow = false → e.frame = none → exec (.clockLineLow k period) s = .next { s with
      printers := s.printers.set k { e with clockLow := true } }) ∧
    (∀ period, e.clockLow = false → e.frame ≠ none → 10 < period → exec (.clockLineLow k period) s = .next { s with
      printers := s.printers.set k { e with clockLow := true, frame := some period } }) ∧
    (∀ period, e.clockLow = false → e.frame ≠ none → period ≤ 10 →
      (e.dropping = true → exec (.clockLineLow k period) s = .next
        (({ s with printers := s.printers.set k { restedEngine s k with clockLow := true } } : State).offer k)) ∧
      ∀ jn j, e.job = some jn → s.jobs[jn] = some j → exec (.clockLineLow k period) s = .next { s with
        printers := s.printers.set k (turnedToCut j
          { e with
            clockLow := true, frame := none, state := .inhibited, inhibit := some s.settings.inhibitLimit }) }) ∧
    (e.clockLow = false → exec (.clockLineRelease k) s = .next s) ∧
    (e.clockLow = true → exec (.clockLineRelease k) s = .next { s with
      printers := s.printers.set k
        (if e.state = .inhibited then
          { e with clockLow := false, state := .sending, inhibit := none, frame := some 1 }
        else { e with clockLow := false }) }) ∧
    (e.state ≠ .inhibited → exec (.inhibitTimerExpiry k) s = .next s) ∧
    (e.state = .inhibited → ∃ t, exec (.inhibitTimerExpiry k) s = .next t ∧
      EngineHalts s t k .inhibitTimeout e.refusals)

/-- A closed job that an IDLE engine takes is sent, to a printer that accepts every frame, as its copies one after
another: the copy marker line where copies are above 1, every written line in order, bold where marked, and CUT; and
after the last CUT the job has left its queue. The part drives twelve periods of a byte's frame: the start bit 0, the
eight data bits least significant first, the kind bit, a parity bit that makes the ones among data, kind and parity
odd in number, and the stop bit 1; the four control codes have kind 1. -/
def Obligations.PrinterTakesTheWholeJob : Prop :=
  (∀ (s : State) (k : Printer) (jn : JobNo) (j : Job), s.taking = true → JobLaw s → QueueLaw s → s.headJob k = some (jn, j) →
    s.printers[k].state = .idle → s.printers[k].atRest → s.printers[k].clockLow = false → j.state = .queued →
    j.closed = true → j.endPending = none → j.currentCopy = 1 → 1 ≤ j.copies → 0 < j.written →
      let stream := (List.range j.copies).flatMap fun c => copyStream s j (c + 1)
      let run := acceptedRun k stream.length (s.offer k)
      run.1 = stream ∧ jn ∉ run.2.queues[k] ∧ run.2.queues[k] = s.queues[k].tail) ∧
  (∀ b : LinkByte,
    let bits := frameBits b
    bits.length = 12 ∧ bits[0]? = some false ∧ (∀ i, i < 8 → bits[i + 1]? = some (b.data.getLsbD i)) ∧
      bits[9]? = some b.control ∧ ((bits.drop 1).take 10).count true % 2 = 1 ∧ bits[11]? = some true) ∧
  controlCode Config.codeLF = ⟨true, 0x0A⟩ ∧ controlCode Config.codeCut = ⟨true, 0x0C⟩ ∧
    controlCode Config.codeBoldOn = ⟨true, 0x0E⟩ ∧ controlCode Config.codeBoldOff = ⟨true, 0x0F⟩

/-! ### Settings, stores, clock -/

/-- SET_PARAM: BAD_PARAM for a parameter, index or value that is none, and for one that would leave no OFFICE port,
SETTINGS_BUSY while a save is in flight; otherwise the fitted value is set, answered CLAMPED where it differs from the
value given. A printer disabled while its engine is IDLE turns it OFF, and one enabled while its engine is OFF turns
it IDLE and offers it its head. What SET_PARAM sets for a number: the number itself where it is one the parameter
takes, and otherwise the nearer bound, or, for a division, a cash step and a drawer time, the largest allowed value
below. The numbers and indexes of 11.6 and no others name the parameters that may be set; data has the form of its
parameter's value alone; each parameter is one item of the working settings; and the parameters read only are the
alias entries, the tares, the counter, the clock and the save condition, under their numbers. How values are encoded
follows assumptions 13 and 14, and the optional items of counter and clock assumption 15. -/
def Obligations.SetParamSetsTheFittedValue : Prop :=
  ((∀ (s : State) (p : Port) (tag : Byte) (data : List Byte), data.length < 2 → GrantedTo s p tag 0x50 data →
    Refuses .setParam s p ⟨tag, 0x50, .badParam, []⟩) ∧
  (∀ (s : State) (p : Port) (tag n ix : Byte) (data : List Byte), GrantedTo s p tag 0x50 (n :: ix :: data) →
    ((paramOf n.toNat ix.toNat).bind fun q => q.decode data) = none →
      Refuses .setParam s p ⟨tag, 0x50, .badParam, []⟩) ∧
  ∀ (s : State) (p : Port) (tag n ix : Byte) (q : Param) (v : ParamValue), paramOf n.toNat ix.toNat = some q →
    q.decode v.enc = some v → GrantedTo s p tag 0x50 (n :: ix :: v.enc) →
    let settings := putSetting s.settings q (q.fit v)
    if (∀ k : Port, settings.roles[k] ≠ .office) then Refuses .setParam s p ⟨tag, 0x50, .badParam, []⟩
    else if s.save ≠ none then Refuses .setParam s p ⟨tag, 0x50, .settingsBusy, []⟩
    else ∃ t, exec .setParam s = .next t ∧
      Answered s t p ⟨tag, 0x50, if q.fit v = v then .ok else .clamped, (q.fit v).enc⟩ ∧
      let set : State := { s with settings := settings }
      ((∀ k, q ≠ .enable k) → Apart t set) ∧
      ∀ k b, q = .enable k → v = .enable b →
        (s.printers[k].state = .idle → b = false →
          Apart t { set with printers := s.printers.set k { s.printers[k] with state := .off } }) ∧
        (s.printers[k].state = .off → b = true →
          Apart t (withSpool set
            (({ set with printers := s.printers.set k { s.printers[k] with state := .idle } } : State).offer k))) ∧
        ((s.printers[k].state = .idle ∧ b = true) ∨ (s.printers[k].state = .off ∧ b = false) ∨
          (s.printers[k].state ≠ .idle ∧ s.printers[k].state ≠ .off) → Apart t set)) ∧
  ((∀ lo hi n : Nat, lo ≤ hi →
    (lo ≤ n → n ≤ hi → clamp lo hi n = n) ∧ (n < lo → clamp lo hi n = lo) ∧ (hi < n → clamp lo hi n = hi)) ∧
    (∀ n, ChannelItem.fit n .capacity = clamp 1 1000000 n ∧ ChannelItem.fit n .motionBand = clamp 0 9 n ∧
      ChannelItem.fit n .stableCount = clamp 2 20 n ∧ ChannelItem.fit n .captureWindow = clamp 1 30 n ∧
      ChannelItem.fit n .minimum = clamp 0 1000 n ∧ ChannelItem.fit n .freshness = clamp 200 2000 n ∧
      ChannelItem.fit n .errorThreshold = clamp 1 255 n) ∧
    (∀ n, NumericItem.fit n .holdTime = clamp 30 3600 n ∧ NumericItem.fit n .cashLimit = clamp 0 9999999999 n ∧
      NumericItem.fit n .anonThreshold = clamp 0 9999999999 n ∧ NumericItem.fit n .receiptCopies = clamp 1 3 n ∧
      NumericItem.fit n .stallTime = clamp 5 120 n ∧ NumericItem.fit n .inhibitLimit = clamp 1 120 n ∧
      NumericItem.fit n .refusalLimit = clamp 1 15 n ∧ NumericItem.fit n .drawerCount = clamp 1 4 n) ∧
    (∀ n, IsGreatest {k | k ∈ [1, 2, 5, 10, 20, 50, 100, 200, 500] ∧ k ≤ clamp 1 500 n}
      (ChannelItem.fit n .division)) ∧
    (∀ n, IsGreatest {k | k ∈ [1, 2, 5, 10, 20, 50, 100] ∧ k ≤ clamp 1 100 n} (NumericItem.fit n .cashStep)) ∧
    ∀ n, IsGreatest {k | 10 ∣ k ∧ k ≤ clamp 10 250 n} (NumericItem.fit n .drawerOn) ∧
      NumericItem.fit n .drawerOff = NumericItem.fit n .drawerOn) ∧
  (∀ (n ix : Nat) (q : Param), paramOf n ix = some q ↔ (n, ix, q) ∈
    ([(1, ChannelItem.capacity), (2, .division), (3, .motionBand), (4, .stableCount), (5, .captureWindow),
        (6, .minimum), (7, .freshness), (8, .errorThreshold)].flatMap fun x =>
      (List.finRange 3).map fun c => (x.1, c.val, Param.channel x.2 c)) ++
    ([(16, NumericItem.holdTime), (17, .cashStep), (18, .cashLimit), (19, .anonThreshold), (20, .receiptCopies),
        (32, .stallTime), (33, .inhibitLimit), (34, .refusalLimit), (35, .drawerOn), (36, .drawerOff),
        (37, .drawerCount)].map fun x => (x.1, 0, Param.numeric x.2)) ++
    ((List.finRange 4).map fun i => (24, i.val + 1, Param.header i)) ++
    ((List.finRange 2).map fun i => (25, i.val + 1, Param.footer i)) ++
    ((List.finRange 3).map fun k => (38, k.val, Param.enable k)) ++
    ((List.finRange 4).map fun k => (40, k.val, Param.role k))) ∧
  ((∀ (q : Param) (data : List Byte) (v : ParamValue), q.decode data = some v ↔ data = v.enc ∧
    match q, v with
    | .channel .., .number n => n < 2 ^ 40
    | .numeric _, .number n => n < 2 ^ 40
    | .header _, .text x => x.all (fun y => decide (1 ≤ y.length ∧ y.length ≤ 32) && y.all printable) = true
    | .footer _, .text x => x.all (fun y => decide (1 ≤ y.length ∧ y.length ≤ 32) && y.all printable) = true
    | .enable _, .enable _ => True
    | .role _, .role _ => True
    | _, _ => False) ∧
    (∀ n, (ParamValue.number n).enc = (List.range 5).map fun k => BitVec.ofNat 8 (n / 256 ^ (4 - k))) ∧
    (ParamValue.text none).enc = [0] ∧
    (∀ x : Text, (ParamValue.text (some x)).enc = [1, BitVec.ofNat 8 x.length] ++ x) ∧
    (ParamValue.enable true).enc = [0] ∧ (ParamValue.enable false).enc = [1] ∧ (ParamValue.role .scale).enc = [0] ∧
    (ParamValue.role .payout).enc = [1] ∧ (ParamValue.role .office).enc = [2] ∧ (ParamValue.role .off).enc = [3]) ∧
  (∀ (st : Settings) (q : Param) (v w : ParamValue), q.decode w.enc = some w → q.fit w = v →
    getSetting (putSetting st q v) q = v ∧
      (∀ q', q' ≠ q → getSetting (putSetting st q v) q' = getSetting st q') ∧
      (putSetting st q v).printersOf = st.printersOf ∧ (putSetting st q v).active = st.active ∧
      (putSetting st q v).epoch = st.epoch ∧ (putSetting st q v).tares = st.tares) ∧
  (∀ st : Settings,
    (∀ c : Chan,
      (getSetting st (.channel .capacity c) = .number st.channels[c].capacity ∧
        getSetting st (.channel .division c) = .number st.channels[c].division ∧
        getSetting st (.channel .motionBand c) = .number st.channels[c].motionBand ∧
        getSetting st (.channel .stableCount c) = .number st.channels[c].stableCount) ∧
      getSetting st (.channel .captureWindow c) = .number st.channels[c].captureWindow ∧
        getSetting st (.channel .minimum c) = .number st.channels[c].minimum ∧
        getSetting st (.channel .freshness c) = .number st.channels[c].freshness ∧
        getSetting st (.channel .errorThreshold c) = .number st.channels[c].errorThreshold) ∧
    (getSetting st (.numeric .holdTime) = .number st.holdTime ∧
      getSetting st (.numeric .cashStep) = .number st.cashStep ∧
      getSetting st (.numeric .cashLimit) = .number st.cashLimit ∧
      getSetting st (.numeric .anonThreshold) = .number st.anonThreshold ∧
      getSetting st (.numeric .receiptCopies) = .number st.receiptCopies) ∧
    (getSetting st (.numeric .stallTime) = .number st.stallTime ∧
      getSetting st (.numeric .inhibitLimit) = .number st.inhibitLimit ∧
      getSetting st (.numeric .refusalLimit) = .number st.refusalLimit ∧
      getSetting st (.numeric .drawerOn) = .number st.drawerOn ∧
      getSetting st (.numeric .drawerOff) = .number st.drawerOff ∧
      getSetting st (.numeric .drawerCount) = .number st.drawerCount) ∧
    (∀ i, getSetting st (.header i) = .text st.headers[i]) ∧ (∀ i, getSetting st (.footer i) = .text st.footers[i]) ∧
    (∀ k, getSetting st (.enable k) = .enable st.enables[k]) ∧ ∀ k, getSetting st (.role k) = .role st.roles[k]) ∧
  ∀ (s : State) (n ix : Nat),
    (∀ q, paramOf n ix = some q → paramItem s n ix = some (getSetting s.settings q).enc) ∧
    (∀ (k : Port) (entry : Fin 4), paramItem s 48 (4 * k.val + entry.val) =
      some (encOpt (fun x : Printer => enc1 x.val) s.settings.printersOf[k][entry])) ∧
    (∀ c : Container, paramItem s 49 c.val = some (enc5 (if c = 0 then 0 else s.settings.tares[c]))) ∧
    (paramItem s 56 0 = some (match s.counter with
      | .valid next => [0, 1] ++ enc4 next
      | .invalid => [1, 0]
      | .exhausted => [2, 0])) ∧
    (paramItem s 57 0 = some (match s.clock with
      | none => [0]
      | some c => [1] ++ enc4 c.seconds ++ encText c.date)) ∧
    (paramItem s 58 0 = some (if s.save = none then [0] else [1])) ∧
    (paramOf n ix = none → ¬ (n = 48 ∧ ix < 16) → ¬ (n = 49 ∧ ix < 16) →
      ¬ ((n = 56 ∨ n = 57 ∨ n = 58) ∧ ix = 0) → paramItem s n ix = none)

/-- SAVE_SETTINGS: SETTINGS_BUSY while a save is in flight; otherwise the working settings are taken as the content
and the request stays pending in phase DEFERRED. At the completion the image takes what was read back, its check good
and the answer OK where that equals the content, and STORE_FAULT with a failing check where it differs. That a
completion with no save in flight changes nothing is the model's choice (assumption 4). -/
def Obligations.SavesCompleteWithTheReadBack : Prop :=
  (∀ (s : State) (p : Port) (tag : Byte), GrantedTo s p tag 0x52 [] →
    (s.save ≠ none → Refuses .saveSettings s p ⟨tag, 0x52, .settingsBusy, []⟩) ∧
    (s.save = none → ∃ t, exec .saveSettings s = .next t ∧ Apart t { s with save := some ⟨s.settings, p⟩ } ∧
      DeferredAt s t p ⟨tag, 0x52, [], .deferred⟩)) ∧
    ∀ (s : State) (readBack : Settings), s.taking = true →
      (s.save = none → exec (.saveCompletion readBack) s = .next s) ∧
      ∀ content p tag, s.save = some ⟨content, p⟩ → s.ports[p].request = some ⟨tag, 0x52, [], .deferred⟩ →
        (readBack = content → exec (.saveCompletion readBack) s = .next { s with
          image := ⟨content, true⟩, save := none
          ports := s.ports.set p (answeredPort s.ports[p] ⟨tag, 0x52, .ok, []⟩) }) ∧
        (readBack ≠ content → exec (.saveCompletion readBack) s = .next { s with
          image := ⟨readBack, false⟩, save := none
          ports := s.ports.set p (answeredPort s.ports[p] ⟨tag, 0x52, .storeFault, []⟩) })

/-- SET_NEXT_NUMBER: BAD_PARAM out of range, at or below a VALID counter's next number, on an EXHAUSTED counter, and,
on an INVALID one, at or below any number held in a slot or a CLOSE record; otherwise counter and word take the
number. The yard clock: SET_CLOCK takes seconds 0..86 399 and a date text of 8 printable characters, refused BAD_PARAM
otherwise; while it is set each second adds one, 86 399 being followed by 0 with the date text unchanged. -/
def Obligations.NumberCounterAndClockAreSet : Prop :=
  (rolesFor 0x53 = some [.office] ∧
  ∀ (s : State) (p : Port) (tag : Byte) (n : Nat), n < 4294967296 → GrantedTo s p tag 0x53 (enc4 n) →
    let allowed := (1 ≤ n ∧ n ≤ 99999999) ∧ match s.counter with
      | .valid next => next < n
      | .exhausted => False
      | .invalid =>
        (∀ (i : Slot) (t : Ticket) (k : Nat), s.slots[i] = some t → t.number = some k → k < n) ∧
          ∀ r, .close r ∈ s.journal → r.number < n
    (¬ allowed → Refuses .setNextNumber s p ⟨tag, 0x53, .badParam, []⟩) ∧
    (allowed → ∃ t, exec .setNextNumber s = .next t ∧
      Apart t { s with counter := .valid n, numberWord := .valid n } ∧ Answered s t p ⟨tag, 0x53, .ok, enc4 n⟩)) ∧
  (rolesFor 0x54 = some [.office] ∧
  (∀ (s : State) (p : Port) (tag : Byte) (seconds : Nat) (date : Text), seconds < 4294967296 → date.length < 256 →
    GrantedTo s p tag 0x54 (enc4 seconds ++ encText date) →
      if seconds ≤ 86399 ∧ date.length = 8 ∧ ∀ b ∈ date, printable b = true then
        ∃ t, exec .setClock s = .next t ∧ Apart t { s with clock := some ⟨seconds, date⟩ } ∧
          Answered s t p ⟨tag, 0x54, .ok, []⟩
      else Refuses .setClock s p ⟨tag, 0x54, .badParam, []⟩) ∧
    ∀ s : State,
      (s.clock = none → exec .clockSecond s = .next s) ∧
      ∀ c, s.clock = some c → exec .clockSecond s = .next { s with
        clock := some { c with seconds := if c.seconds < 86399 then c.seconds + 1 else 0 } })

/-- RESTART and COLD_CLEAR: SETTINGS_BUSY while a save is in flight, and WRONG_STATE for COLD_CLEAR while a slot is
not FREE or the journal holds a record; otherwise OK, after which nothing more is granted, COLD_CLEAR leaving counter
and word INVALID. Power lost: a save in flight ends with the image check failing, a write of the number word cut off
leaves it failing, and the marker goes invalid where the battery does not hold. RESET driven and released: at the
release the debounced beams take the levels standing, and each printer's clock line acts as if the level standing came
then, a low one as a pull in the period of the engine's frame and a high one as a release. A start row that was not
called for, power already there, RESET already driven and a release of a RESET not driven change nothing, the model's
choice (assumption 4). Without power or with RESET driven only the level at a beam's or a clock line's pin changes. What
the release takes, what the pins do meanwhile and what RESET does without power are the model's choice (assumptions 10,
11, 12, 20). -/
def Obligations.StartsAreCalledAndPowerIsLost : Prop :=
  (∀ (s : State) (p : Port) (tag : Byte),
    (GrantedTo s p tag 0x55 [] →
      (s.save ≠ none → Refuses .restart s p ⟨tag, 0x55, .settingsBusy, []⟩) ∧
      (s.save = none → ∃ t, exec .restart s = .next t ∧ Apart t { s with pendingStart := some ⟨.warm, false⟩ } ∧
        Answered s t p ⟨tag, 0x55, .ok, []⟩ ∧ t.requestEngine = none)) ∧
    (GrantedTo s p tag 0x56 [] →
      (s.save ≠ none → Refuses .coldClear s p ⟨tag, 0x56, .settingsBusy, []⟩) ∧
      (s.save = none → (∃ i : Slot, s.slots[i] ≠ none) ∨ s.journal ≠ [] →
        Refuses .coldClear s p ⟨tag, 0x56, .wrongState, []⟩) ∧
      (s.save = none → (∀ i : Slot, s.slots[i] = none) → s.journal = [] → ∃ t, exec .coldClear s = .next t ∧
        Apart t { s with counter := .invalid, numberWord := .invalid, pendingStart := some ⟨.cold, false⟩ } ∧
        Answered s t p ⟨tag, 0x56, .ok, []⟩ ∧ t.requestEngine = none))) ∧
  (∀ (s : State),
    (∀ holds cut : Bool, s.powered = true → exec (.lossOfPower holds cut) s = .next { s with
      powered := false
      image := if s.save = none then s.image else { s.image with checkGood := false }
      save := none
      numberWord := if cut then .invalid else s.numberWord
      markerValid := s.markerValid && holds }) ∧
    (∀ holds cut : Bool, s.powered = false → exec (.lossOfPower holds cut) s = .next { s with
      markerValid := s.markerValid && holds }) ∧
    (s.powered = true → exec .powerOn s = .next s) ∧
    (s.resetDriven = true → exec .resetLine s = .next s) ∧
    (s.powered = false → s.resetDriven = false → exec .resetLine s = .next { s with resetDriven := true }) ∧
    (s.resetDriven = false → exec .resetLineRelease s = .next s) ∧
    (s.powered = false → s.resetDriven = true → exec .resetLineRelease s = .next { s with resetDriven := false }) ∧
    (s.powered = true → s.resetDriven = true → (∀ k : Printer, s.printers[k].clockLow = false ∧
        s.printers[k].state ≠ .inhibited) → exec .resetLineRelease s = .next { s with
      resetDriven := false
      channels := mapEntries (fun _ c => { c with
        beams := c.beams.map fun b => (⟨b.1.raw, b.1.raw, none⟩, ⟨b.2.raw, b.2.raw, none⟩) }) s.channels }) ∧
    (∀ (b : Bridge) (e : BeamEnd) (l : BeamLevel) (x y : Beam), s.taking = false →
      s.channels[b.chan].beams = some (x, y) → exec (.beamLevelChange b e l) s = .next { s with
      channels := s.channels.set b.chan { s.channels[b.chan] with
        beams := some (match e with
          | .entry => ({ x with raw := l }, y)
          | .exit => (x, { y with raw := l })) } }) ∧
    (s.powered = true → s.resetDriven = true →
      let released : State := { s with
        resetDriven := false
        channels := mapEntries (fun _ c => { c with
          beams := c.beams.map fun b => (⟨b.1.raw, b.1.raw, none⟩, ⟨b.2.raw, b.2.raw, none⟩) }) s.channels }
      let standing (u : State) (k : Printer) : State :=
        let arrives (low : Bool) (i : Instr) : State :=
          match exec i { u with printers := u.printers.set k { u.printers[k] with clockLow := low } } with
          | .next v => v
          | _ => u
        if u.printers[k].clockLow then arrives false (.clockLineLow k (u.printers[k].frame.getD 1))
        else arrives true (.clockLineRelease k)
      exec .resetLineRelease s = .next ([(0 : Printer), 1, 2].foldl standing released)) ∧
    (∀ (k : Printer) (period : Nat), s.taking = false →
      exec (.clockLineLow k period) s = .next { s with
        printers := s.printers.set k { s.printers[k] with clockLow := true } } ∧
      exec (.clockLineRelease k) s = .next { s with
        printers := s.printers.set k { s.printers[k] with clockLow := false } }) ∧
    ((∀ x, s.pendingStart ≠ some ⟨x, true⟩) →
      exec .restartWarmStart s = .next s ∧ exec .coldClearColdStart s = .next s))

/-! ### Station lines -/

/-- A request frame sent byte by byte to a hunting port is judged whole: BUSY where a request is pending, then
UNKNOWN_REQUEST, then ROLE_DENIED, each answered at the port while fewer than three frames wait there, and otherwise
it becomes the port's pending request, WAITING, with the TAG, CODE and data sent. A response frame: SYNC, LEN, TAG,
CODE, OUTCOME, data, CHECK, the mod-256 sum of LEN through CHECK being 0, which a receiver that counts LEN bytes and
the CHECK judges good. -/
def Obligations.RequestFramesReachThePort : Prop :=
  (∀ (x : StationPort) (tag code : Byte) (data : List Byte), x.role ≠ .off → x.receiver = .hunt →
    data.length ≤ 238 →
    (requestFrame tag code data).foldl (fun y b => y.takeByte b) x =
      (let answered (o : OutcomeCode) : StationPort :=
        if 3 ≤ x.output.length then x else { x with output := x.output ++ [⟨tag, code, o, []⟩] }
      if x.request ≠ none then answered .busy
      else match rolesFor code with
        | none => answered .unknownRequest
        | some roles =>
          if x.role ∈ roles then { x with request := some ⟨tag, code, data, .waiting⟩ } else answered .roleDenied)) ∧
  (∀ r : Response, r.data.length ≤ 237 → ∃ check : Byte,
    r.bytes = [0xC3, BitVec.ofNat 8 (r.data.length + 3), r.tag, r.code, r.outcome.toByte] ++ r.data ++ [check] ∧
      byteSum r.bytes.tail = 0 ∧
      frameGood (BitVec.ofNat 8 (r.data.length + 3)) ([r.tag, r.code, r.outcome.toByte] ++ r.data ++ [check]) = true)

/-- One byte at a port's receiver, by its state: 0xC3 leaves HUNT, the LEN byte enters BODY, a byte of the body is
held, and the last one empties the receiver, a bad frame being counted and latched as LINK_ERROR; an OFF port takes
nothing. A request that becomes WAITING may be granted in the same event. A port's gap timer makes the partial frame
bad and empties the receiver; a frame sent in full leaves the head of the output queue, which may let the port be
granted, and, where it was the OK of RESTART or COLD_CLEAR, lets the start follow: the mark of it is the model's
(assumption 20). That a gap expiry in HUNT and a sent response where none waits change nothing is the model's choice
(assumption 4). -/
def Obligations.PortBytesMoveTheReceiver : Prop :=
  (∀ (s : State) (p : Port) (b : Byte), s.taking = true →
    let x := s.ports[p]
    let becomes (y : StationPort) : Prop :=
      ∃ t, exec (.portByteReceived p b) s = .next t ∧ Apart t s ∧ t.ports = s.ports.set p y ∧
        (if s.requestEngine ≠ none then t.requestEngine = s.requestEngine ∧ t.pointer = s.pointer else NextGrant s t)
    (x.role = .off → becomes x) ∧
    (x.role ≠ .off →
      (x.receiver = .hunt → becomes (if b = 0xC3 then { x with receiver := .length } else x)) ∧
      (x.receiver = .length → becomes { x with receiver := .body b [] (b.toNat + 1) }) ∧
      ∀ len held expected, x.receiver = .body len held expected →
        (1 < expected → becomes { x with receiver := .body len (held ++ [b]) (expected - 1) }) ∧
        (expected ≤ 1 → (len.toNat < 2 ∨ 240 < len.toNat ∨ byteSum (len :: (held ++ [b])) ≠ 0) →
          becomes (badFramed x)) ∧
        (expected ≤ 1 → 2 ≤ len.toNat → len.toNat ≤ 240 → byteSum (len :: (held ++ [b])) = 0 →
          ∀ tag code data, held = tag :: code :: data →
            becomes (({ x with receiver := .hunt } : StationPort).goodFrame tag code data)))) ∧
  (∀ (s : State) (p : Port), s.taking = true →
    exec (.portGapExpiry p) s = .next
      (if s.ports[p].receiver = .hunt then s else { s with ports := s.ports.set p (badFramed s.ports[p]) }) ∧
    (s.ports[p].output = [] → exec (.responseSent p) s = .next s) ∧
    ∀ r rest, s.ports[p].output = r :: rest →
      ∃ t, exec (.responseSent p) s = .next t ∧
        Apart t { s with
          pendingStart :=
            if r.outcome = .ok ∧ (r.code = 0x55 ∨ r.code = 0x56) then
              s.pendingStart.map fun x => { x with sent := true }
            else s.pendingStart } ∧
        t.ports = s.ports.set p { s.ports[p] with output := rest } ∧
        (if s.requestEngine ≠ none then t.requestEngine = s.requestEngine ∧ t.pointer = s.pointer else NextGrant s t))

/-! ### Starts -/

/-- A warm start, from power with the marker valid, from RESET, or as RESTART called for it: the stores are loaded,
the channels, ports and arbiter take their start values, OPENING slots are freed, markers and window parts removed and
AT_WINDOW tickets returned to WEIGHED, started heads requeued or ended, nothing latched but START, and everything else
retained; then every queue is offered to its engine. What the pins and the stores hold across RESET and power follows
assumptions 10, 11 and 12; that a job ended at the start keeps its end pending in its DONE record follows assumption
18. -/
def Obligations.WarmStartKeepsRetainedState : Prop :=
  ∀ (s : State), SpoolLaw s →
    let image : SettingsImage := if s.save = none then s.image else { s.image with checkGood := false }
    let settings := if image.checkGood then image.content else factorySettings
    let started (u : State) : Prop :=
      u.settings = settings ∧ u.image = image ∧ u.counter = s.numberWord ∧ u.numberWord = s.numberWord ∧
      u.save = none ∧ u.pendingStart = none ∧ u.requestEngine = none ∧ u.pointer = 3 ∧ u.clock = s.clock ∧
      (∀ p : Port, u.ports[p] =
        { role := settings.roles[p], receiver := .hunt, request := none, output := [], latched := 1
          startData := some ⟨.warm, !image.checkGood⟩, mask := 0x07FF, badFrames := 0 }) ∧
      (∀ c : Chan, u.channels[c] =
        { state := .noSignal, lastReading := none, ref := 0, run := 0, errorCount := 0, freshness := none
          receiver := .idle, capture := none
          beams := s.channels[c].beams.map fun b => (⟨b.1.raw, b.1.raw, none⟩, ⟨b.2.raw, b.2.raw, none⟩) }) ∧
      (∀ i : Slot, u.slots[i] = s.slots[i].bind fun t =>
        if t.state = .opening then none
        else if t.state = .atWindow then some { t with marker := none, window := none, state := .weighed }
        else some { t with marker := none }) ∧
      (u.staged = s.staged ∧ u.tally = s.tally ∧ u.journal = s.journal ∧ u.totals = s.totals ∧ u.day = s.day ∧
        u.markerValid = s.markerValid ∧ u.pageMem = s.pageMem ∧ u.boldMarks = s.boldMarks ∧ u.pending = s.pending) ∧
      ∃ v : State, u = v.offerAll ∧
        (∀ k : Printer, v.printers[k] =
          { state := if settings.enables[k] then .idle else .off, fault := none, job := none, position := none
            pendingByte := none, frame := none, refusals := 0, backoff := none, inhibit := none
            clockLow := s.printers[k].clockLow, dropping := false, train := none }) ∧
        (∀ k : Printer, v.queues[k] = s.queues[k].filter fun jn =>
          !(s.jobs[jn].any fun j => j.endPending.isSome)) ∧
        ∀ jn : JobNo, v.jobs[jn] = s.jobs[jn].bind fun j =>
          if j.state = .printing ∨ j.state = .stalled ∨ j.state = .halted then
            match j.endPending with
            | none => some { j with state := .queued, sent := 0, stall := none }
            | some e =>
              if j.owner = .composer then none
              else some { j with
                state := .done, stall := none
                doneStatus := some (match e with
                  | .cancelled => .cancelled
                  | .underrun => .underrun) }
          else some { j with stall := none }
    (s.powered = false → s.markerValid = true → ∃ u, exec .powerOn s = .next u ∧ started u ∧ u.powered = true ∧
      u.resetDriven = s.resetDriven) ∧
    (s.powered = true → s.resetDriven = false → ∃ u, exec .resetLine s = .next u ∧ started u ∧ u.powered = true ∧
      u.resetDriven = true) ∧
    (s.taking = true → s.pendingStart = some ⟨.warm, true⟩ → ∃ u, exec .restartWarmStart s = .next u ∧ started u ∧
      u.taking = true)

/-- A cold start, from power with the marker invalid or as COLD_CLEAR called for it: the stores are loaded as at a
warm start, and every other piece of state takes its cold value; the marker is valid again. What the pins and the
stores hold across power follows assumptions 11 and 12; that page memory and bold marks keep the bytes they held is the
model's choice (assumption 6), and so is that the start is cold, and cold alone, where power comes while RESET is driven
(assumption 24). -/
def Obligations.ColdStartEmptiesTheState : Prop :=
  ∀ (s : State),
    let image : SettingsImage := if s.save = none then s.image else { s.image with checkGood := false }
    let settings := if image.checkGood then image.content else factorySettings
    let cold : State := { s with
      powered := true, markerValid := true, image := image, settings := settings, counter := s.numberWord
      save := none, clock := none, pendingStart := none, requestEngine := none, pointer := 3
      ports := Vector.ofFn fun p =>
        { role := settings.roles[p], receiver := .hunt, request := none, output := [], latched := 1
          startData := some ⟨.cold, !image.checkGood⟩, mask := 0x07FF, badFrames := 0 }
      channels := Vector.ofFn fun c =>
        { state := .noSignal, lastReading := none, ref := 0, run := 0, errorCount := 0, freshness := none
          receiver := .idle, capture := none
          beams := s.channels[c].beams.map fun b => (⟨b.1.raw, b.1.raw, none⟩, ⟨b.2.raw, b.2.raw, none⟩) }
      slots := Vector.replicate 48 none
      staged := settings.active
      tally := Vector.replicate 64 (Vector.replicate 4 none)
      journal := [], totals := .zero, day := 1
      freePages := List.finRange 96, jobs := Vector.replicate 32 none, queues := Vector.replicate 3 []
      printers := Vector.ofFn fun k =>
        { state := if settings.enables[k] then .idle else .off, fault := none, job := none, position := none
          pendingByte := none, frame := none, refusals := 0, backoff := none, inhibit := none
          clockLow := s.printers[k].clockLow, dropping := false, train := none } }
    (s.powered = false → s.markerValid = false → exec .powerOn s = .next cold) ∧
    (s.taking = true → s.pendingStart = some ⟨.cold, true⟩ → exec .coldClearColdStart s = .next cold)
end

