-- ==== Sys2Proof/Laws/Memory.lean ====
section
/-! SUPPORT. The spool's memory: a read after a write, and every memory operation keeps the canonical form. -/

namespace Sys2Proof.Machine

/-- A lower bound may be lowered. -/
theorem memSortedFrom_mono {m : Memory} {lo lo' : Nat} (h : memSortedFrom lo m = true) (hl : lo' ≤ lo) :
    memSortedFrom lo' m = true := by
  cases m with
  | nil => rfl
  | cons x m => simp [memSortedFrom] at h ⊢; exact ⟨⟨by omega, h.1.2⟩, h.2⟩

/-- An address below every listed one reads as unwritten. -/
theorem memRead_below {m : Memory} {lo a : Nat} (h : memSortedFrom lo m = true) (ha : a < lo) :
    memRead m a = Config.unwrittenByte := by
  induction m generalizing lo with
  | nil => rfl
  | cons x m ih =>
    obtain ⟨x, v⟩ := x
    simp only [memSortedFrom, Bool.and_eq_true, decide_eq_true_eq] at h
    have : a ≠ x := by omega
    simp [memRead, this, ih h.2 (by omega)]

/-- A write keeps the canonical form. -/
theorem memWrite_sorted {m : Memory} {lo a : Nat} (b : Byte) (h : memSortedFrom lo m = true) (ha : lo ≤ a) :
    memSortedFrom lo (memWrite m a b) = true := by
  induction m generalizing lo with
  | nil => by_cases hb : b = Config.unwrittenByte <;> simp [memWrite, memSortedFrom, hb, ha]
  | cons x m ih =>
    obtain ⟨x, v⟩ := x
    simp only [memSortedFrom, Bool.and_eq_true, decide_eq_true_eq] at h
    obtain ⟨⟨hx, hv⟩, hm⟩ := h
    unfold memWrite
    by_cases h1 : a < x
    · by_cases hb : b = Config.unwrittenByte
      · simp [h1, hb, memSortedFrom, hx, hv, hm]
      · simp [h1, hb, memSortedFrom, ha, hv, hm]
    · by_cases h2 : a = x
      · subst h2
        by_cases hb : b = Config.unwrittenByte
        · simp [hb]; exact memSortedFrom_mono hm (by omega)
        · simp [hb, memSortedFrom, ha, hm]
      · simp [h1, h2, memSortedFrom, hx, hv, ih hm (by omega)]

theorem memWrite_wf {m : Memory} (a : Nat) (b : Byte) (h : m.wf = true) : Memory.wf (memWrite m a b) = true :=
  memWrite_sorted b h (Nat.zero_le a)

theorem memWriteAll_wf {m : Memory} (a : Nat) (bs : List Byte) (h : m.wf = true) :
    Memory.wf (memWriteAll m a bs) = true := by
  induction bs generalizing m a with
  | nil => exact h
  | cons b bs ih => exact ih (a + 1) (memWrite_wf a b h)

/-- What a write does to every read, in a memory in canonical form. -/
theorem memRead_memWrite_from {m : Memory} {lo : Nat} (a c : Nat) (b : Byte) (h : memSortedFrom lo m = true) :
    memRead (memWrite m a b) c = if c = a then b else memRead m c := by
  induction m generalizing lo with
  | nil =>
    by_cases hb : b = Config.unwrittenByte
    · by_cases hc : c = a <;> simp [memWrite, memRead, hb]
    · by_cases hc : c = a <;> simp [memWrite, memRead, hb, hc]
  | cons x m ih =>
    obtain ⟨x, v⟩ := x
    simp only [memSortedFrom, Bool.and_eq_true, decide_eq_true_eq] at h
    obtain ⟨⟨hx, hv⟩, hm⟩ := h
    unfold memWrite
    by_cases h1 : a < x
    · have below : memRead ((x, v) :: m) a = Config.unwrittenByte := by
        simp [memRead, show a ≠ x by omega, memRead_below hm (show a < x + 1 by omega)]
      by_cases hb : b = Config.unwrittenByte
      · by_cases hc : c = a
        · subst hc; simp [h1, hb, below]
        · simp [h1, hb, hc]
      · by_cases hc : c = a <;> simp [h1, hb, hc, memRead]
    · by_cases h2 : a = x
      · subst h2
        by_cases hb : b = Config.unwrittenByte
        · by_cases hc : c = a
          · subst hc; simp [hb, memRead_below hm (Nat.lt_succ_self c)]
          · simp [hb, hc, memRead]
        · by_cases hc : c = a <;> simp [hb, hc, memRead]
      · by_cases hc : c = x
        · subst hc; simp [h1, h2, memRead]; omega
        · simp [h1, h2, memRead, hc, ih hm]

/-- A read after a write: the written byte there, the old byte anywhere else. -/
theorem memRead_memWrite {m : Memory} (a c : Nat) (b : Byte) (h : m.wf = true) :
    memRead (memWrite m a b) c = if c = a then b else memRead m c := memRead_memWrite_from a c b h

/-- A read after a write of consecutive bytes. -/
theorem memRead_memWriteAll {m : Memory} (a c : Nat) (bs : List Byte) (h : m.wf = true) :
    memRead (memWriteAll m a bs) c =
      if a ≤ c then (bs[c - a]?).getD (memRead m c) else memRead m c := by
  induction bs generalizing m a with
  | nil => simp [memWriteAll]
  | cons b bs ih =>
    rw [memWriteAll, ih (a + 1) (memWrite_wf a b h), memRead_memWrite a c b h]
    by_cases h1 : a + 1 ≤ c
    · have e : c - a = (c - (a + 1)) + 1 := by omega
      have hne : c ≠ a := by omega
      simp only [h1, show a ≤ c by omega, if_true, e, List.getElem?_cons_succ, if_neg hne]
    · by_cases h2 : c = a
      · subst h2; simp
      · simp [h1, h2, show ¬ a ≤ c by omega]

/-- Bytes written come back as they were written. -/
theorem memReadAll_memWriteAll {m : Memory} (a : Nat) (bs : List Byte) (h : m.wf = true) :
    memReadAll (memWriteAll m a bs) a bs.length = bs := by
  apply List.ext_getElem
  · simp [memReadAll]
  · intro k h1 h2
    simp [memReadAll, memRead_memWriteAll a (a + k) bs h, h2]

/-- A line written keeps both memories in canonical form. -/
theorem State.writeLine_wf {s : State} (j : Job) (n : Nat) (l : Text × Bool)
    (h : s.pageMem.wf = true ∧ s.boldMarks.wf = true) :
    (s.writeLine j n l).pageMem.wf = true ∧ (s.writeLine j n l).boldMarks.wf = true := by
  unfold State.writeLine
  split
  · exact h
  · exact ⟨memWriteAll_wf _ _ h.1, memWrite_wf _ _ h.2⟩

theorem State.writeLines_wf {s : State} (j : Job) (n : Nat) (ls : List (Text × Bool))
    (h : s.pageMem.wf = true ∧ s.boldMarks.wf = true) :
    (s.writeLines j n ls).pageMem.wf = true ∧ (s.writeLines j n ls).boldMarks.wf = true := by
  induction ls generalizing s n with
  | nil => exact h
  | cons l ls ih => exact ih (n + 1) (State.writeLine_wf j n l h)

/-- A line fills its slot exactly. -/
@[simp] theorem fillLine_length (t : Text) : (fillLine t).length = 32 := by
  simp [fillLine, Config.slotBytes]

end Sys2Proof.Machine
end

