-- ==== Sys2Proof/Laws/Operands.lean ====
section
/-! SUPPORT. The encoding of R179 read back: numbers of each width, texts, and the request forms built of them. -/

namespace Sys2Proof.Machine

theorem toNat_ofNat8 (n : Nat) : (BitVec.ofNat 8 n).toNat = n % 256 := by simp

theorem enc1_eq (n : Nat) : enc1 n = [BitVec.ofNat 8 n] := by simp [enc1, beBytes]

theorem enc2_eq (n : Nat) : enc2 n = [BitVec.ofNat 8 (n / 256), BitVec.ofNat 8 n] := by simp [enc2, beBytes]

theorem enc4_eq (n : Nat) :
    enc4 n = [BitVec.ofNat 8 (n / 16777216), BitVec.ofNat 8 (n / 65536), BitVec.ofNat 8 (n / 256), BitVec.ofNat 8 n] := by
  simp [enc4, beBytes]

theorem enc5_eq (n : Nat) :
    enc5 n = [BitVec.ofNat 8 (n / 4294967296), BitVec.ofNat 8 (n / 16777216), BitVec.ofNat 8 (n / 65536),
      BitVec.ofNat 8 (n / 256), BitVec.ofNat 8 n] := by
  simp [enc5, beBytes]

/-- Two bytes read back. -/
theorem fromBytes_two (n : Nat) (h : n < 65536) : fromBytes [BitVec.ofNat 8 (n / 256), BitVec.ofNat 8 n] = n := by
  simp only [fromBytes, List.foldl, toNat_ofNat8]; omega

/-- Four bytes read back. -/
theorem fromBytes_four (n : Nat) (h : n < 4294967296) :
    fromBytes [BitVec.ofNat 8 (n / 16777216), BitVec.ofNat 8 (n / 65536), BitVec.ofNat 8 (n / 256), BitVec.ofNat 8 n] =
      n := by
  simp only [fromBytes, List.foldl, toNat_ofNat8]; omega

/-- Five bytes read back. -/
theorem fromBytes_five (n : Nat) (h : n < 1099511627776) :
    fromBytes [BitVec.ofNat 8 (n / 4294967296), BitVec.ofNat 8 (n / 16777216), BitVec.ofNat 8 (n / 65536),
      BitVec.ofNat 8 (n / 256), BitVec.ofNat 8 n] = n := by
  simp only [fromBytes, List.foldl, toNat_ofNat8]; omega

/-- A text read back, with what follows it. -/
theorem takeText_encText (max : Nat) (t rest : List Byte) (h : t.length ≤ max) (h' : t.length < 256) :
    takeText max (encText t ++ rest) = some (t, rest) := by
  have e : (BitVec.ofNat 8 t.length).toNat = t.length := by rw [toNat_ofNat8]; omega
  simp [takeText, encText, enc1_eq, e, h]

theorem takeText_encText_end (max : Nat) (t : List Byte) (h : t.length ≤ max) (h' : t.length < 256) :
    takeText max (encText t) = some (t, []) := by
  simpa using takeText_encText max t [] h h'

/-! ### Request forms -/

theorem decodeOne_enc (a : Nat) (h : a < 256) : decodeOne (enc1 a) = some a := by
  simp [enc1_eq, decodeOne]; omega

theorem decodeTwo_enc (a b : Nat) (h : a < 256) (h' : b < 256) : decodeTwo (enc1 a ++ enc1 b) = some (a, b) := by
  simp [enc1_eq, decodeTwo]; omega

theorem decodeThree_enc (a b c : Nat) (h : a < 256) (h' : b < 256) (h'' : c < 256) :
    decodeThree (enc1 a ++ enc1 b ++ enc1 c) = some (a, b, c) := by
  simp [enc1_eq, decodeThree]; omega

theorem decodeNumber_enc (n : Nat) (h : n < 4294967296) : decodeNumber (enc4 n) = some n := by
  simp only [enc4_eq, decodeNumber, fromBytes_four n h]

theorem decodeNumberOne_enc (n a : Nat) (h : n < 4294967296) (h' : a < 256) :
    decodeNumberOne (enc4 n ++ enc1 a) = some (n, a) := by
  simp only [enc4_eq, enc1_eq, List.cons_append, List.nil_append, decodeNumberOne, fromBytes_four n h, toNat_ofNat8]
  congr 2; omega

theorem decodeEvents_enc (e : EventSet) : decodeEvents (encEvents e) = some e := by
  simp only [encEvents, enc2_eq, decodeEvents, fromBytes_two e.toNat e.isLt]; simp

theorem decodeDump_enc (n c g : Nat) (f : Bool) (h : n < 4294967296) (hc : c < 256) (hg : g < 256) :
    decodeDump (enc4 n ++ enc1 c ++ enc1 g ++ encFlag f) = some (n, c, g, f) := by
  have hf : decFlag (if f then 1 else 0) = some f := by cases f <;> decide
  simp only [enc4_eq, enc1_eq, encFlag, List.cons_append, List.nil_append, decodeDump, fromBytes_four n h, hf,
    Option.map_some, toNat_ofNat8]
  congr 3 <;> simp <;> omega

theorem decodeAddBin_enc (n g k : Nat) (h : n < 4294967296) (hg : g < 256) (hk : k < 256) :
    decodeAddBin (enc4 n ++ enc1 g ++ enc1 k) = some (n, g, k) := by
  simp only [enc4_eq, enc1_eq, List.cons_append, List.nil_append, decodeAddBin, fromBytes_four n h, toNat_ofNat8]
  congr 3 <;> omega

theorem decodeDeduct_enc (n i d : Nat) (h : n < 4294967296) (hi : i < 256) (hd : d < 4294967296) :
    decodeDeduct (enc4 n ++ enc1 i ++ enc4 d) = some (n, i, d) := by
  simp only [enc4_eq, enc1_eq, List.cons_append, List.nil_append, decodeDeduct, fromBytes_four n h,
    fromBytes_four d hd, toNat_ofNat8]
  congr 3; omega

theorem decodeNumberText_enc (max n : Nat) (t : Text) (h : n < 4294967296) (ht : t.length ≤ max)
    (ht' : t.length < 256) : decodeNumberText max (enc4 n ++ encText t) = some (n, t) := by
  simp only [enc4_eq, List.cons_append, List.nil_append, decodeNumberText, takeText_encText_end max t ht ht',
    fromBytes_four n h]

theorem decodeOpenTruck_enc (c : Nat) (t : Text) (hc : c < 256) (ht : t.length ≤ 10) :
    decodeOpenTruck (enc1 c ++ encText t) = some (c, t) := by
  simp only [enc1_eq, List.cons_append, List.nil_append, decodeOpenTruck,
    takeText_encText_end 10 t ht (by omega), toNat_ofNat8]
  congr 2; omega

theorem decodePay_enc (n : Nat) (m : Method) (h : n < 4294967296) : decodePay (enc4 n ++ m.enc) = some (n, m) := by
  cases m <;>
    simp [enc4_eq, Method.enc, decodePay, decMethod, fromBytes_four n h]

theorem decodeText_enc (max : Nat) (t : Text) (ht : t.length ≤ max) (ht' : t.length < 256) :
    decodeText max (encText t) = some t := by
  simp [decodeText, takeText_encText_end max t ht ht']

theorem decodePop_enc (k : Bool) (n : Nat) (h : n < 4294967296) : decodePop (encFlag k ++ enc4 n) = some (k, n) := by
  cases k <;> simp [encFlag, enc4_eq, decodePop, decFlag, fromBytes_four n h]

theorem decodeSetClock_enc (n : Nat) (t : Text) (h : n < 4294967296) (ht : t.length ≤ 8) :
    decodeSetClock (enc4 n ++ encText t) = some (n, t) := by
  simp only [enc4_eq, List.cons_append, List.nil_append, decodeSetClock,
    takeText_encText_end 8 t ht (by omega), fromBytes_four n h]

theorem decodeSetContainer_enc (k n : Nat) (hk : k < 256) (h : n < 4294967296) :
    decodeSetContainer (enc1 k ++ enc4 n) = some (k, n) := by
  simp only [enc4_eq, enc1_eq, List.cons_append, List.nil_append, decodeSetContainer, fromBytes_four n h, toNat_ofNat8]
  congr 2; omega

theorem decodeGetGrade_enc (b : Bool) (g : Nat) (hg : g < 256) : decodeGetGrade (encFlag b ++ enc1 g) = some (b, g) := by
  cases b <;> simp [encFlag, enc1_eq, decodeGetGrade, decFlag] <;> omega

theorem decodeNumeric_enc (n : Nat) (h : n < 1099511627776) : decodeNumeric (enc5 n) = some n := by
  simp only [enc5_eq, decodeNumeric, fromBytes_five n h]

theorem decodeOptText_enc (t : Option Text) (h : ∀ x, t = some x → x.length ≤ 32) :
    decodeOptText (encOpt encText t) = some t := by
  cases t with
  | none => rfl
  | some x =>
    have hx := h x rfl
    simp [encOpt, decodeOptText, decodeText_enc 32 x hx (by omega)]

theorem decodeSetAlias_enc (p e : Nat) (q : Option Nat) (hp : p < 256) (he : e < 256)
    (hq : ∀ x, q = some x → x < 256) : decodeSetAlias (enc1 p ++ enc1 e ++ encOpt enc1 q) = some (p, e, q) := by
  cases q with
  | none => simp [enc1_eq, encOpt, decodeSetAlias]; omega
  | some x =>
    have hx := hq x rfl
    simp [enc1_eq, encOpt, decodeSetAlias]; omega

theorem decodeSetGrade_enc (g : Nat) (name : Text) (price : Option Nat) (rate : Nat) (r d : Bool) (hg : g < 256)
    (hn : name.length ≤ 12) (hp : ∀ x, price = some x → x < 4294967296) (hr : rate < 65536) :
    decodeSetGrade (enc1 g ++ encText name ++ encOpt enc4 price ++ enc2 rate ++ encFlag r ++ encFlag d) =
      some (g, name, price, rate, r, d) := by
  have e : enc1 g ++ encText name ++ encOpt enc4 price ++ enc2 rate ++ encFlag r ++ encFlag d =
      BitVec.ofNat 8 g :: (encText name ++ (encOpt enc4 price ++ (enc2 rate ++ (encFlag r ++ encFlag d)))) := by
    simp [enc1_eq]
  have eg : (BitVec.ofNat 8 g).toNat = g := by rw [toNat_ofNat8]; omega
  have er := fromBytes_two rate hr
  rw [e]
  simp only [decodeSetGrade, takeText_encText 12 name _ hn (by omega), eg]
  cases price with
  | none => cases r <;> cases d <;> simp [encOpt, takeOpt4, enc2_eq, encFlag, decFlag, er]
  | some x =>
    have ex := fromBytes_four x (hp x rfl)
    cases r <;> cases d <;> simp [encOpt, enc4_eq, takeOpt4, enc2_eq, encFlag, decFlag, er, ex]

/-- The lines of a JOB_WRITE, each a text with its bold mark. -/
def encLines (ls : List (Text × Bool)) : List Byte := ls.flatMap fun l => encText l.1 ++ encFlag l.2

theorem takeLines_enc (ls : List (Text × Bool)) (h : ∀ l ∈ ls, l.1.length ≤ 32) :
    takeLines ls.length (encLines ls) = some ls := by
  induction ls with
  | nil => rfl
  | cons l ls ih =>
    have hl := h l (by simp)
    have ih := ih (fun x hx => h x (by simp [hx]))
    have hf : decFlag (if l.2 then 1 else 0) = some l.2 := by cases l.2 <;> decide
    have e : encLines (l :: ls) = encText l.1 ++ ((if l.2 then 1 else 0) :: encLines ls) := by
      simp [encLines, encFlag]
    rw [e, List.length_cons, takeLines, takeText_encText 32 l.1 _ hl (by omega)]
    simp only [hf, ih]

theorem decodeJobWrite_enc (j : Nat) (ls : List (Text × Bool)) (hj : j < 256) (hn : ls.length < 256)
    (h : ∀ l ∈ ls, l.1.length ≤ 32) : decodeJobWrite (enc1 j ++ enc1 ls.length ++ encLines ls) = some (j, ls) := by
  have e : (BitVec.ofNat 8 ls.length).toNat = ls.length := by rw [toNat_ofNat8]; omega
  simp only [enc1_eq, List.cons_append, List.nil_append, decodeJobWrite, e, takeLines_enc ls h, Option.map_some,
    toNat_ofNat8]
  congr 2; omega

end Sys2Proof.Machine
end

