-- ==== Sys2Proof/Laws/State.lean ====
section
/-! SUPPORT. One lemma per field per update of the state, each true by `rfl`, so that no proof unfolds an update. -/

namespace Sys2Proof.Machine

variable (s : State)

/-! ### setPort -/

@[simp] theorem State.setPort_pending (p : Port) (x : StationPort) : (s.setPort p x).pending = s.pending := rfl
@[simp] theorem State.setPort_powered (p : Port) (x : StationPort) : (s.setPort p x).powered = s.powered := rfl
@[simp] theorem State.setPort_resetDriven (p : Port) (x : StationPort) :
    (s.setPort p x).resetDriven = s.resetDriven := rfl
@[simp] theorem State.setPort_markerValid (p : Port) (x : StationPort) :
    (s.setPort p x).markerValid = s.markerValid := rfl
@[simp] theorem State.setPort_image (p : Port) (x : StationPort) : (s.setPort p x).image = s.image := rfl
@[simp] theorem State.setPort_numberWord (p : Port) (x : StationPort) :
    (s.setPort p x).numberWord = s.numberWord := rfl
@[simp] theorem State.setPort_settings (p : Port) (x : StationPort) : (s.setPort p x).settings = s.settings := rfl
@[simp] theorem State.setPort_save (p : Port) (x : StationPort) : (s.setPort p x).save = s.save := rfl
@[simp] theorem State.setPort_clock (p : Port) (x : StationPort) : (s.setPort p x).clock = s.clock := rfl
@[simp] theorem State.setPort_pendingStart (p : Port) (x : StationPort) :
    (s.setPort p x).pendingStart = s.pendingStart := rfl
@[simp] theorem State.setPort_ports (p : Port) (x : StationPort) : (s.setPort p x).ports = s.ports.set p x := rfl
@[simp] theorem State.setPort_requestEngine (p : Port) (x : StationPort) :
    (s.setPort p x).requestEngine = s.requestEngine := rfl
@[simp] theorem State.setPort_pointer (p : Port) (x : StationPort) : (s.setPort p x).pointer = s.pointer := rfl
@[simp] theorem State.setPort_channels (p : Port) (x : StationPort) : (s.setPort p x).channels = s.channels := rfl
@[simp] theorem State.setPort_slots (p : Port) (x : StationPort) : (s.setPort p x).slots = s.slots := rfl
@[simp] theorem State.setPort_counter (p : Port) (x : StationPort) : (s.setPort p x).counter = s.counter := rfl
@[simp] theorem State.setPort_staged (p : Port) (x : StationPort) : (s.setPort p x).staged = s.staged := rfl
@[simp] theorem State.setPort_tally (p : Port) (x : StationPort) : (s.setPort p x).tally = s.tally := rfl
@[simp] theorem State.setPort_journal (p : Port) (x : StationPort) : (s.setPort p x).journal = s.journal := rfl
@[simp] theorem State.setPort_totals (p : Port) (x : StationPort) : (s.setPort p x).totals = s.totals := rfl
@[simp] theorem State.setPort_day (p : Port) (x : StationPort) : (s.setPort p x).day = s.day := rfl
@[simp] theorem State.setPort_pageMem (p : Port) (x : StationPort) : (s.setPort p x).pageMem = s.pageMem := rfl
@[simp] theorem State.setPort_boldMarks (p : Port) (x : StationPort) : (s.setPort p x).boldMarks = s.boldMarks := rfl
@[simp] theorem State.setPort_freePages (p : Port) (x : StationPort) : (s.setPort p x).freePages = s.freePages := rfl
@[simp] theorem State.setPort_jobs (p : Port) (x : StationPort) : (s.setPort p x).jobs = s.jobs := rfl
@[simp] theorem State.setPort_queues (p : Port) (x : StationPort) : (s.setPort p x).queues = s.queues := rfl
@[simp] theorem State.setPort_printers (p : Port) (x : StationPort) : (s.setPort p x).printers = s.printers := rfl
@[simp] theorem State.setPort_freeReads (p : Port) (x : StationPort) : (s.setPort p x).freeReads = s.freeReads := rfl

/-! ### setChannel -/

@[simp] theorem State.setChannel_pending (c : Chan) (x : Channel) : (s.setChannel c x).pending = s.pending := rfl
@[simp] theorem State.setChannel_powered (c : Chan) (x : Channel) : (s.setChannel c x).powered = s.powered := rfl
@[simp] theorem State.setChannel_resetDriven (c : Chan) (x : Channel) :
    (s.setChannel c x).resetDriven = s.resetDriven := rfl
@[simp] theorem State.setChannel_markerValid (c : Chan) (x : Channel) :
    (s.setChannel c x).markerValid = s.markerValid := rfl
@[simp] theorem State.setChannel_image (c : Chan) (x : Channel) : (s.setChannel c x).image = s.image := rfl
@[simp] theorem State.setChannel_numberWord (c : Chan) (x : Channel) :
    (s.setChannel c x).numberWord = s.numberWord := rfl
@[simp] theorem State.setChannel_settings (c : Chan) (x : Channel) : (s.setChannel c x).settings = s.settings := rfl
@[simp] theorem State.setChannel_save (c : Chan) (x : Channel) : (s.setChannel c x).save = s.save := rfl
@[simp] theorem State.setChannel_clock (c : Chan) (x : Channel) : (s.setChannel c x).clock = s.clock := rfl
@[simp] theorem State.setChannel_pendingStart (c : Chan) (x : Channel) :
    (s.setChannel c x).pendingStart = s.pendingStart := rfl
@[simp] theorem State.setChannel_ports (c : Chan) (x : Channel) : (s.setChannel c x).ports = s.ports := rfl
@[simp] theorem State.setChannel_requestEngine (c : Chan) (x : Channel) :
    (s.setChannel c x).requestEngine = s.requestEngine := rfl
@[simp] theorem State.setChannel_pointer (c : Chan) (x : Channel) : (s.setChannel c x).pointer = s.pointer := rfl
@[simp] theorem State.setChannel_channels (c : Chan) (x : Channel) :
    (s.setChannel c x).channels = s.channels.set c x := rfl
@[simp] theorem State.setChannel_slots (c : Chan) (x : Channel) : (s.setChannel c x).slots = s.slots := rfl
@[simp] theorem State.setChannel_counter (c : Chan) (x : Channel) : (s.setChannel c x).counter = s.counter := rfl
@[simp] theorem State.setChannel_staged (c : Chan) (x : Channel) : (s.setChannel c x).staged = s.staged := rfl
@[simp] theorem State.setChannel_tally (c : Chan) (x : Channel) : (s.setChannel c x).tally = s.tally := rfl
@[simp] theorem State.setChannel_journal (c : Chan) (x : Channel) : (s.setChannel c x).journal = s.journal := rfl
@[simp] theorem State.setChannel_totals (c : Chan) (x : Channel) : (s.setChannel c x).totals = s.totals := rfl
@[simp] theorem State.setChannel_day (c : Chan) (x : Channel) : (s.setChannel c x).day = s.day := rfl
@[simp] theorem State.setChannel_pageMem (c : Chan) (x : Channel) : (s.setChannel c x).pageMem = s.pageMem := rfl
@[simp] theorem State.setChannel_boldMarks (c : Chan) (x : Channel) :
    (s.setChannel c x).boldMarks = s.boldMarks := rfl
@[simp] theorem State.setChannel_freePages (c : Chan) (x : Channel) :
    (s.setChannel c x).freePages = s.freePages := rfl
@[simp] theorem State.setChannel_jobs (c : Chan) (x : Channel) : (s.setChannel c x).jobs = s.jobs := rfl
@[simp] theorem State.setChannel_queues (c : Chan) (x : Channel) : (s.setChannel c x).queues = s.queues := rfl
@[simp] theorem State.setChannel_printers (c : Chan) (x : Channel) : (s.setChannel c x).printers = s.printers := rfl
@[simp] theorem State.setChannel_freeReads (c : Chan) (x : Channel) :
    (s.setChannel c x).freeReads = s.freeReads := rfl

/-! ### setSlot -/

@[simp] theorem State.setSlot_pending (i : Slot) (x : Option Ticket) : (s.setSlot i x).pending = s.pending := rfl
@[simp] theorem State.setSlot_powered (i : Slot) (x : Option Ticket) : (s.setSlot i x).powered = s.powered := rfl
@[simp] theorem State.setSlot_resetDriven (i : Slot) (x : Option Ticket) :
    (s.setSlot i x).resetDriven = s.resetDriven := rfl
@[simp] theorem State.setSlot_markerValid (i : Slot) (x : Option Ticket) :
    (s.setSlot i x).markerValid = s.markerValid := rfl
@[simp] theorem State.setSlot_image (i : Slot) (x : Option Ticket) : (s.setSlot i x).image = s.image := rfl
@[simp] theorem State.setSlot_numberWord (i : Slot) (x : Option Ticket) :
    (s.setSlot i x).numberWord = s.numberWord := rfl
@[simp] theorem State.setSlot_settings (i : Slot) (x : Option Ticket) : (s.setSlot i x).settings = s.settings := rfl
@[simp] theorem State.setSlot_save (i : Slot) (x : Option Ticket) : (s.setSlot i x).save = s.save := rfl
@[simp] theorem State.setSlot_clock (i : Slot) (x : Option Ticket) : (s.setSlot i x).clock = s.clock := rfl
@[simp] theorem State.setSlot_pendingStart (i : Slot) (x : Option Ticket) :
    (s.setSlot i x).pendingStart = s.pendingStart := rfl
@[simp] theorem State.setSlot_ports (i : Slot) (x : Option Ticket) : (s.setSlot i x).ports = s.ports := rfl
@[simp] theorem State.setSlot_requestEngine (i : Slot) (x : Option Ticket) :
    (s.setSlot i x).requestEngine = s.requestEngine := rfl
@[simp] theorem State.setSlot_pointer (i : Slot) (x : Option Ticket) : (s.setSlot i x).pointer = s.pointer := rfl
@[simp] theorem State.setSlot_channels (i : Slot) (x : Option Ticket) : (s.setSlot i x).channels = s.channels := rfl
@[simp] theorem State.setSlot_slots (i : Slot) (x : Option Ticket) : (s.setSlot i x).slots = s.slots.set i x := rfl
@[simp] theorem State.setSlot_counter (i : Slot) (x : Option Ticket) : (s.setSlot i x).counter = s.counter := rfl
@[simp] theorem State.setSlot_staged (i : Slot) (x : Option Ticket) : (s.setSlot i x).staged = s.staged := rfl
@[simp] theorem State.setSlot_tally (i : Slot) (x : Option Ticket) : (s.setSlot i x).tally = s.tally := rfl
@[simp] theorem State.setSlot_journal (i : Slot) (x : Option Ticket) : (s.setSlot i x).journal = s.journal := rfl
@[simp] theorem State.setSlot_totals (i : Slot) (x : Option Ticket) : (s.setSlot i x).totals = s.totals := rfl
@[simp] theorem State.setSlot_day (i : Slot) (x : Option Ticket) : (s.setSlot i x).day = s.day := rfl
@[simp] theorem State.setSlot_pageMem (i : Slot) (x : Option Ticket) : (s.setSlot i x).pageMem = s.pageMem := rfl
@[simp] theorem State.setSlot_boldMarks (i : Slot) (x : Option Ticket) :
    (s.setSlot i x).boldMarks = s.boldMarks := rfl
@[simp] theorem State.setSlot_freePages (i : Slot) (x : Option Ticket) :
    (s.setSlot i x).freePages = s.freePages := rfl
@[simp] theorem State.setSlot_jobs (i : Slot) (x : Option Ticket) : (s.setSlot i x).jobs = s.jobs := rfl
@[simp] theorem State.setSlot_queues (i : Slot) (x : Option Ticket) : (s.setSlot i x).queues = s.queues := rfl
@[simp] theorem State.setSlot_printers (i : Slot) (x : Option Ticket) : (s.setSlot i x).printers = s.printers := rfl
@[simp] theorem State.setSlot_freeReads (i : Slot) (x : Option Ticket) :
    (s.setSlot i x).freeReads = s.freeReads := rfl

/-! ### setJob -/

@[simp] theorem State.setJob_pending (j : JobNo) (x : Option Job) : (s.setJob j x).pending = s.pending := rfl
@[simp] theorem State.setJob_powered (j : JobNo) (x : Option Job) : (s.setJob j x).powered = s.powered := rfl
@[simp] theorem State.setJob_resetDriven (j : JobNo) (x : Option Job) :
    (s.setJob j x).resetDriven = s.resetDriven := rfl
@[simp] theorem State.setJob_markerValid (j : JobNo) (x : Option Job) :
    (s.setJob j x).markerValid = s.markerValid := rfl
@[simp] theorem State.setJob_image (j : JobNo) (x : Option Job) : (s.setJob j x).image = s.image := rfl
@[simp] theorem State.setJob_numberWord (j : JobNo) (x : Option Job) : (s.setJob j x).numberWord = s.numberWord := rfl
@[simp] theorem State.setJob_settings (j : JobNo) (x : Option Job) : (s.setJob j x).settings = s.settings := rfl
@[simp] theorem State.setJob_save (j : JobNo) (x : Option Job) : (s.setJob j x).save = s.save := rfl
@[simp] theorem State.setJob_clock (j : JobNo) (x : Option Job) : (s.setJob j x).clock = s.clock := rfl
@[simp] theorem State.setJob_pendingStart (j : JobNo) (x : Option Job) :
    (s.setJob j x).pendingStart = s.pendingStart := rfl
@[simp] theorem State.setJob_ports (j : JobNo) (x : Option Job) : (s.setJob j x).ports = s.ports := rfl
@[simp] theorem State.setJob_requestEngine (j : JobNo) (x : Option Job) :
    (s.setJob j x).requestEngine = s.requestEngine := rfl
@[simp] theorem State.setJob_pointer (j : JobNo) (x : Option Job) : (s.setJob j x).pointer = s.pointer := rfl
@[simp] theorem State.setJob_channels (j : JobNo) (x : Option Job) : (s.setJob j x).channels = s.channels := rfl
@[simp] theorem State.setJob_slots (j : JobNo) (x : Option Job) : (s.setJob j x).slots = s.slots := rfl
@[simp] theorem State.setJob_counter (j : JobNo) (x : Option Job) : (s.setJob j x).counter = s.counter := rfl
@[simp] theorem State.setJob_staged (j : JobNo) (x : Option Job) : (s.setJob j x).staged = s.staged := rfl
@[simp] theorem State.setJob_tally (j : JobNo) (x : Option Job) : (s.setJob j x).tally = s.tally := rfl
@[simp] theorem State.setJob_journal (j : JobNo) (x : Option Job) : (s.setJob j x).journal = s.journal := rfl
@[simp] theorem State.setJob_totals (j : JobNo) (x : Option Job) : (s.setJob j x).totals = s.totals := rfl
@[simp] theorem State.setJob_day (j : JobNo) (x : Option Job) : (s.setJob j x).day = s.day := rfl
@[simp] theorem State.setJob_pageMem (j : JobNo) (x : Option Job) : (s.setJob j x).pageMem = s.pageMem := rfl
@[simp] theorem State.setJob_boldMarks (j : JobNo) (x : Option Job) : (s.setJob j x).boldMarks = s.boldMarks := rfl
@[simp] theorem State.setJob_freePages (j : JobNo) (x : Option Job) : (s.setJob j x).freePages = s.freePages := rfl
@[simp] theorem State.setJob_jobs (j : JobNo) (x : Option Job) : (s.setJob j x).jobs = s.jobs.set j x := rfl
@[simp] theorem State.setJob_queues (j : JobNo) (x : Option Job) : (s.setJob j x).queues = s.queues := rfl
@[simp] theorem State.setJob_printers (j : JobNo) (x : Option Job) : (s.setJob j x).printers = s.printers := rfl
@[simp] theorem State.setJob_freeReads (j : JobNo) (x : Option Job) : (s.setJob j x).freeReads = s.freeReads := rfl

/-! ### setQueue -/

@[simp] theorem State.setQueue_pending (p : Printer) (q : List JobNo) : (s.setQueue p q).pending = s.pending := rfl
@[simp] theorem State.setQueue_powered (p : Printer) (q : List JobNo) : (s.setQueue p q).powered = s.powered := rfl
@[simp] theorem State.setQueue_resetDriven (p : Printer) (q : List JobNo) :
    (s.setQueue p q).resetDriven = s.resetDriven := rfl
@[simp] theorem State.setQueue_markerValid (p : Printer) (q : List JobNo) :
    (s.setQueue p q).markerValid = s.markerValid := rfl
@[simp] theorem State.setQueue_image (p : Printer) (q : List JobNo) : (s.setQueue p q).image = s.image := rfl
@[simp] theorem State.setQueue_numberWord (p : Printer) (q : List JobNo) :
    (s.setQueue p q).numberWord = s.numberWord := rfl
@[simp] theorem State.setQueue_settings (p : Printer) (q : List JobNo) : (s.setQueue p q).settings = s.settings := rfl
@[simp] theorem State.setQueue_save (p : Printer) (q : List JobNo) : (s.setQueue p q).save = s.save := rfl
@[simp] theorem State.setQueue_clock (p : Printer) (q : List JobNo) : (s.setQueue p q).clock = s.clock := rfl
@[simp] theorem State.setQueue_pendingStart (p : Printer) (q : List JobNo) :
    (s.setQueue p q).pendingStart = s.pendingStart := rfl
@[simp] theorem State.setQueue_ports (p : Printer) (q : List JobNo) : (s.setQueue p q).ports = s.ports := rfl
@[simp] theorem State.setQueue_requestEngine (p : Printer) (q : List JobNo) :
    (s.setQueue p q).requestEngine = s.requestEngine := rfl
@[simp] theorem State.setQueue_pointer (p : Printer) (q : List JobNo) : (s.setQueue p q).pointer = s.pointer := rfl
@[simp] theorem State.setQueue_channels (p : Printer) (q : List JobNo) : (s.setQueue p q).channels = s.channels := rfl
@[simp] theorem State.setQueue_slots (p : Printer) (q : List JobNo) : (s.setQueue p q).slots = s.slots := rfl
@[simp] theorem State.setQueue_counter (p : Printer) (q : List JobNo) : (s.setQueue p q).counter = s.counter := rfl
@[simp] theorem State.setQueue_staged (p : Printer) (q : List JobNo) : (s.setQueue p q).staged = s.staged := rfl
@[simp] theorem State.setQueue_tally (p : Printer) (q : List JobNo) : (s.setQueue p q).tally = s.tally := rfl
@[simp] theorem State.setQueue_journal (p : Printer) (q : List JobNo) : (s.setQueue p q).journal = s.journal := rfl
@[simp] theorem State.setQueue_totals (p : Printer) (q : List JobNo) : (s.setQueue p q).totals = s.totals := rfl
@[simp] theorem State.setQueue_day (p : Printer) (q : List JobNo) : (s.setQueue p q).day = s.day := rfl
@[simp] theorem State.setQueue_pageMem (p : Printer) (q : List JobNo) : (s.setQueue p q).pageMem = s.pageMem := rfl
@[simp] theorem State.setQueue_boldMarks (p : Printer) (q : List JobNo) :
    (s.setQueue p q).boldMarks = s.boldMarks := rfl
@[simp] theorem State.setQueue_freePages (p : Printer) (q : List JobNo) :
    (s.setQueue p q).freePages = s.freePages := rfl
@[simp] theorem State.setQueue_jobs (p : Printer) (q : List JobNo) : (s.setQueue p q).jobs = s.jobs := rfl
@[simp] theorem State.setQueue_queues (p : Printer) (q : List JobNo) :
    (s.setQueue p q).queues = s.queues.set p q := rfl
@[simp] theorem State.setQueue_printers (p : Printer) (q : List JobNo) : (s.setQueue p q).printers = s.printers := rfl
@[simp] theorem State.setQueue_freeReads (p : Printer) (q : List JobNo) :
    (s.setQueue p q).freeReads = s.freeReads := rfl

/-! ### setEngine -/

@[simp] theorem State.setEngine_pending (p : Printer) (x : Engine) : (s.setEngine p x).pending = s.pending := rfl
@[simp] theorem State.setEngine_powered (p : Printer) (x : Engine) : (s.setEngine p x).powered = s.powered := rfl
@[simp] theorem State.setEngine_resetDriven (p : Printer) (x : Engine) :
    (s.setEngine p x).resetDriven = s.resetDriven := rfl
@[simp] theorem State.setEngine_markerValid (p : Printer) (x : Engine) :
    (s.setEngine p x).markerValid = s.markerValid := rfl
@[simp] theorem State.setEngine_image (p : Printer) (x : Engine) : (s.setEngine p x).image = s.image := rfl
@[simp] theorem State.setEngine_numberWord (p : Printer) (x : Engine) :
    (s.setEngine p x).numberWord = s.numberWord := rfl
@[simp] theorem State.setEngine_settings (p : Printer) (x : Engine) : (s.setEngine p x).settings = s.settings := rfl
@[simp] theorem State.setEngine_save (p : Printer) (x : Engine) : (s.setEngine p x).save = s.save := rfl
@[simp] theorem State.setEngine_clock (p : Printer) (x : Engine) : (s.setEngine p x).clock = s.clock := rfl
@[simp] theorem State.setEngine_pendingStart (p : Printer) (x : Engine) :
    (s.setEngine p x).pendingStart = s.pendingStart := rfl
@[simp] theorem State.setEngine_ports (p : Printer) (x : Engine) : (s.setEngine p x).ports = s.ports := rfl
@[simp] theorem State.setEngine_requestEngine (p : Printer) (x : Engine) :
    (s.setEngine p x).requestEngine = s.requestEngine := rfl
@[simp] theorem State.setEngine_pointer (p : Printer) (x : Engine) : (s.setEngine p x).pointer = s.pointer := rfl
@[simp] theorem State.setEngine_channels (p : Printer) (x : Engine) : (s.setEngine p x).channels = s.channels := rfl
@[simp] theorem State.setEngine_slots (p : Printer) (x : Engine) : (s.setEngine p x).slots = s.slots := rfl
@[simp] theorem State.setEngine_counter (p : Printer) (x : Engine) : (s.setEngine p x).counter = s.counter := rfl
@[simp] theorem State.setEngine_staged (p : Printer) (x : Engine) : (s.setEngine p x).staged = s.staged := rfl
@[simp] theorem State.setEngine_tally (p : Printer) (x : Engine) : (s.setEngine p x).tally = s.tally := rfl
@[simp] theorem State.setEngine_journal (p : Printer) (x : Engine) : (s.setEngine p x).journal = s.journal := rfl
@[simp] theorem State.setEngine_totals (p : Printer) (x : Engine) : (s.setEngine p x).totals = s.totals := rfl
@[simp] theorem State.setEngine_day (p : Printer) (x : Engine) : (s.setEngine p x).day = s.day := rfl
@[simp] theorem State.setEngine_pageMem (p : Printer) (x : Engine) : (s.setEngine p x).pageMem = s.pageMem := rfl
@[simp] theorem State.setEngine_boldMarks (p : Printer) (x : Engine) :
    (s.setEngine p x).boldMarks = s.boldMarks := rfl
@[simp] theorem State.setEngine_freePages (p : Printer) (x : Engine) :
    (s.setEngine p x).freePages = s.freePages := rfl
@[simp] theorem State.setEngine_jobs (p : Printer) (x : Engine) : (s.setEngine p x).jobs = s.jobs := rfl
@[simp] theorem State.setEngine_queues (p : Printer) (x : Engine) : (s.setEngine p x).queues = s.queues := rfl
@[simp] theorem State.setEngine_printers (p : Printer) (x : Engine) :
    (s.setEngine p x).printers = s.printers.set p x := rfl
@[simp] theorem State.setEngine_freeReads (p : Printer) (x : Engine) :
    (s.setEngine p x).freeReads = s.freeReads := rfl

/-! ### writeCounter -/

@[simp] theorem State.writeCounter_pending (c : Counter) : (s.writeCounter c).pending = s.pending := rfl
@[simp] theorem State.writeCounter_powered (c : Counter) : (s.writeCounter c).powered = s.powered := rfl
@[simp] theorem State.writeCounter_resetDriven (c : Counter) : (s.writeCounter c).resetDriven = s.resetDriven := rfl
@[simp] theorem State.writeCounter_markerValid (c : Counter) : (s.writeCounter c).markerValid = s.markerValid := rfl
@[simp] theorem State.writeCounter_image (c : Counter) : (s.writeCounter c).image = s.image := rfl
@[simp] theorem State.writeCounter_numberWord (c : Counter) : (s.writeCounter c).numberWord = c := rfl
@[simp] theorem State.writeCounter_settings (c : Counter) : (s.writeCounter c).settings = s.settings := rfl
@[simp] theorem State.writeCounter_save (c : Counter) : (s.writeCounter c).save = s.save := rfl
@[simp] theorem State.writeCounter_clock (c : Counter) : (s.writeCounter c).clock = s.clock := rfl
@[simp] theorem State.writeCounter_pendingStart (c : Counter) :
    (s.writeCounter c).pendingStart = s.pendingStart := rfl
@[simp] theorem State.writeCounter_ports (c : Counter) : (s.writeCounter c).ports = s.ports := rfl
@[simp] theorem State.writeCounter_requestEngine (c : Counter) :
    (s.writeCounter c).requestEngine = s.requestEngine := rfl
@[simp] theorem State.writeCounter_pointer (c : Counter) : (s.writeCounter c).pointer = s.pointer := rfl
@[simp] theorem State.writeCounter_channels (c : Counter) : (s.writeCounter c).channels = s.channels := rfl
@[simp] theorem State.writeCounter_slots (c : Counter) : (s.writeCounter c).slots = s.slots := rfl
@[simp] theorem State.writeCounter_counter (c : Counter) : (s.writeCounter c).counter = c := rfl
@[simp] theorem State.writeCounter_staged (c : Counter) : (s.writeCounter c).staged = s.staged := rfl
@[simp] theorem State.writeCounter_tally (c : Counter) : (s.writeCounter c).tally = s.tally := rfl
@[simp] theorem State.writeCounter_journal (c : Counter) : (s.writeCounter c).journal = s.journal := rfl
@[simp] theorem State.writeCounter_totals (c : Counter) : (s.writeCounter c).totals = s.totals := rfl
@[simp] theorem State.writeCounter_day (c : Counter) : (s.writeCounter c).day = s.day := rfl
@[simp] theorem State.writeCounter_pageMem (c : Counter) : (s.writeCounter c).pageMem = s.pageMem := rfl
@[simp] theorem State.writeCounter_boldMarks (c : Counter) : (s.writeCounter c).boldMarks = s.boldMarks := rfl
@[simp] theorem State.writeCounter_freePages (c : Counter) : (s.writeCounter c).freePages = s.freePages := rfl
@[simp] theorem State.writeCounter_jobs (c : Counter) : (s.writeCounter c).jobs = s.jobs := rfl
@[simp] theorem State.writeCounter_queues (c : Counter) : (s.writeCounter c).queues = s.queues := rfl
@[simp] theorem State.writeCounter_printers (c : Counter) : (s.writeCounter c).printers = s.printers := rfl
@[simp] theorem State.writeCounter_freeReads (c : Counter) : (s.writeCounter c).freeReads = s.freeReads := rfl

/-! ### latchWhere -/

@[simp] theorem State.latchWhere_pending (e : Event) (f : Port → StationPort → Bool) :
    (s.latchWhere e f).pending = s.pending := rfl
@[simp] theorem State.latchWhere_powered (e : Event) (f : Port → StationPort → Bool) :
    (s.latchWhere e f).powered = s.powered := rfl
@[simp] theorem State.latchWhere_resetDriven (e : Event) (f : Port → StationPort → Bool) :
    (s.latchWhere e f).resetDriven = s.resetDriven := rfl
@[simp] theorem State.latchWhere_markerValid (e : Event) (f : Port → StationPort → Bool) :
    (s.latchWhere e f).markerValid = s.markerValid := rfl
@[simp] theorem State.latchWhere_image (e : Event) (f : Port → StationPort → Bool) :
    (s.latchWhere e f).image = s.image := rfl
@[simp] theorem State.latchWhere_numberWord (e : Event) (f : Port → StationPort → Bool) :
    (s.latchWhere e f).numberWord = s.numberWord := rfl
@[simp] theorem State.latchWhere_settings (e : Event) (f : Port → StationPort → Bool) :
    (s.latchWhere e f).settings = s.settings := rfl
@[simp] theorem State.latchWhere_save (e : Event) (f : Port → StationPort → Bool) :
    (s.latchWhere e f).save = s.save := rfl
@[simp] theorem State.latchWhere_clock (e : Event) (f : Port → StationPort → Bool) :
    (s.latchWhere e f).clock = s.clock := rfl
@[simp] theorem State.latchWhere_pendingStart (e : Event) (f : Port → StationPort → Bool) :
    (s.latchWhere e f).pendingStart = s.pendingStart := rfl
@[simp] theorem State.latchWhere_ports (e : Event) (f : Port → StationPort → Bool) :
    (s.latchWhere e f).ports = mapEntries (fun p x => if f p x then x.latch e else x) s.ports := rfl
@[simp] theorem State.latchWhere_requestEngine (e : Event) (f : Port → StationPort → Bool) :
    (s.latchWhere e f).requestEngine = s.requestEngine := rfl
@[simp] theorem State.latchWhere_pointer (e : Event) (f : Port → StationPort → Bool) :
    (s.latchWhere e f).pointer = s.pointer := rfl
@[simp] theorem State.latchWhere_channels (e : Event) (f : Port → StationPort → Bool) :
    (s.latchWhere e f).channels = s.channels := rfl
@[simp] theorem State.latchWhere_slots (e : Event) (f : Port → StationPort → Bool) :
    (s.latchWhere e f).slots = s.slots := rfl
@[simp] theorem State.latchWhere_counter (e : Event) (f : Port → StationPort → Bool) :
    (s.latchWhere e f).counter = s.counter := rfl
@[simp] theorem State.latchWhere_staged (e : Event) (f : Port → StationPort → Bool) :
    (s.latchWhere e f).staged = s.staged := rfl
@[simp] theorem State.latchWhere_tally (e : Event) (f : Port → StationPort → Bool) :
    (s.latchWhere e f).tally = s.tally := rfl
@[simp] theorem State.latchWhere_journal (e : Event) (f : Port → StationPort → Bool) :
    (s.latchWhere e f).journal = s.journal := rfl
@[simp] theorem State.latchWhere_totals (e : Event) (f : Port → StationPort → Bool) :
    (s.latchWhere e f).totals = s.totals := rfl
@[simp] theorem State.latchWhere_day (e : Event) (f : Port → StationPort → Bool) :
    (s.latchWhere e f).day = s.day := rfl
@[simp] theorem State.latchWhere_pageMem (e : Event) (f : Port → StationPort → Bool) :
    (s.latchWhere e f).pageMem = s.pageMem := rfl
@[simp] theorem State.latchWhere_boldMarks (e : Event) (f : Port → StationPort → Bool) :
    (s.latchWhere e f).boldMarks = s.boldMarks := rfl
@[simp] theorem State.latchWhere_freePages (e : Event) (f : Port → StationPort → Bool) :
    (s.latchWhere e f).freePages = s.freePages := rfl
@[simp] theorem State.latchWhere_jobs (e : Event) (f : Port → StationPort → Bool) :
    (s.latchWhere e f).jobs = s.jobs := rfl
@[simp] theorem State.latchWhere_queues (e : Event) (f : Port → StationPort → Bool) :
    (s.latchWhere e f).queues = s.queues := rfl
@[simp] theorem State.latchWhere_printers (e : Event) (f : Port → StationPort → Bool) :
    (s.latchWhere e f).printers = s.printers := rfl
@[simp] theorem State.latchWhere_freeReads (e : Event) (f : Port → StationPort → Bool) :
    (s.latchWhere e f).freeReads = s.freeReads := rfl

/-! ### respond -/

@[simp] theorem State.respond_pending (p : Port) (r : Response) : (s.respond p r).pending = s.pending := rfl
@[simp] theorem State.respond_powered (p : Port) (r : Response) : (s.respond p r).powered = s.powered := rfl
@[simp] theorem State.respond_resetDriven (p : Port) (r : Response) :
    (s.respond p r).resetDriven = s.resetDriven := rfl
@[simp] theorem State.respond_markerValid (p : Port) (r : Response) :
    (s.respond p r).markerValid = s.markerValid := rfl
@[simp] theorem State.respond_image (p : Port) (r : Response) : (s.respond p r).image = s.image := rfl
@[simp] theorem State.respond_numberWord (p : Port) (r : Response) : (s.respond p r).numberWord = s.numberWord := rfl
@[simp] theorem State.respond_settings (p : Port) (r : Response) : (s.respond p r).settings = s.settings := rfl
@[simp] theorem State.respond_save (p : Port) (r : Response) : (s.respond p r).save = s.save := rfl
@[simp] theorem State.respond_clock (p : Port) (r : Response) : (s.respond p r).clock = s.clock := rfl
@[simp] theorem State.respond_pendingStart (p : Port) (r : Response) :
    (s.respond p r).pendingStart = s.pendingStart := rfl
@[simp] theorem State.respond_ports (p : Port) (r : Response) :
    (s.respond p r).ports = s.ports.set p (s.ports[p].respond r) := rfl
@[simp] theorem State.respond_requestEngine (p : Port) (r : Response) :
    (s.respond p r).requestEngine = s.requestEngine := rfl
@[simp] theorem State.respond_pointer (p : Port) (r : Response) : (s.respond p r).pointer = s.pointer := rfl
@[simp] theorem State.respond_channels (p : Port) (r : Response) : (s.respond p r).channels = s.channels := rfl
@[simp] theorem State.respond_slots (p : Port) (r : Response) : (s.respond p r).slots = s.slots := rfl
@[simp] theorem State.respond_counter (p : Port) (r : Response) : (s.respond p r).counter = s.counter := rfl
@[simp] theorem State.respond_staged (p : Port) (r : Response) : (s.respond p r).staged = s.staged := rfl
@[simp] theorem State.respond_tally (p : Port) (r : Response) : (s.respond p r).tally = s.tally := rfl
@[simp] theorem State.respond_journal (p : Port) (r : Response) : (s.respond p r).journal = s.journal := rfl
@[simp] theorem State.respond_totals (p : Port) (r : Response) : (s.respond p r).totals = s.totals := rfl
@[simp] theorem State.respond_day (p : Port) (r : Response) : (s.respond p r).day = s.day := rfl
@[simp] theorem State.respond_pageMem (p : Port) (r : Response) : (s.respond p r).pageMem = s.pageMem := rfl
@[simp] theorem State.respond_boldMarks (p : Port) (r : Response) : (s.respond p r).boldMarks = s.boldMarks := rfl
@[simp] theorem State.respond_freePages (p : Port) (r : Response) : (s.respond p r).freePages = s.freePages := rfl
@[simp] theorem State.respond_jobs (p : Port) (r : Response) : (s.respond p r).jobs = s.jobs := rfl
@[simp] theorem State.respond_queues (p : Port) (r : Response) : (s.respond p r).queues = s.queues := rfl
@[simp] theorem State.respond_printers (p : Port) (r : Response) : (s.respond p r).printers = s.printers := rfl
@[simp] theorem State.respond_freeReads (p : Port) (r : Response) : (s.respond p r).freeReads = s.freeReads := rfl

/-! ### deferRequest -/

@[simp] theorem State.deferRequest_pending (p : Port) : (s.deferRequest p).pending = s.pending := rfl
@[simp] theorem State.deferRequest_powered (p : Port) : (s.deferRequest p).powered = s.powered := rfl
@[simp] theorem State.deferRequest_resetDriven (p : Port) : (s.deferRequest p).resetDriven = s.resetDriven := rfl
@[simp] theorem State.deferRequest_markerValid (p : Port) : (s.deferRequest p).markerValid = s.markerValid := rfl
@[simp] theorem State.deferRequest_image (p : Port) : (s.deferRequest p).image = s.image := rfl
@[simp] theorem State.deferRequest_numberWord (p : Port) : (s.deferRequest p).numberWord = s.numberWord := rfl
@[simp] theorem State.deferRequest_settings (p : Port) : (s.deferRequest p).settings = s.settings := rfl
@[simp] theorem State.deferRequest_save (p : Port) : (s.deferRequest p).save = s.save := rfl
@[simp] theorem State.deferRequest_clock (p : Port) : (s.deferRequest p).clock = s.clock := rfl
@[simp] theorem State.deferRequest_pendingStart (p : Port) : (s.deferRequest p).pendingStart = s.pendingStart := rfl
@[simp] theorem State.deferRequest_ports (p : Port) :
    (s.deferRequest p).ports = s.ports.set p
      { s.ports[p] with request := s.ports[p].request.map fun q => { q with phase := .deferred } } := rfl
@[simp] theorem State.deferRequest_requestEngine (p : Port) :
    (s.deferRequest p).requestEngine = s.requestEngine := rfl
@[simp] theorem State.deferRequest_pointer (p : Port) : (s.deferRequest p).pointer = s.pointer := rfl
@[simp] theorem State.deferRequest_channels (p : Port) : (s.deferRequest p).channels = s.channels := rfl
@[simp] theorem State.deferRequest_slots (p : Port) : (s.deferRequest p).slots = s.slots := rfl
@[simp] theorem State.deferRequest_counter (p : Port) : (s.deferRequest p).counter = s.counter := rfl
@[simp] theorem State.deferRequest_staged (p : Port) : (s.deferRequest p).staged = s.staged := rfl
@[simp] theorem State.deferRequest_tally (p : Port) : (s.deferRequest p).tally = s.tally := rfl
@[simp] theorem State.deferRequest_journal (p : Port) : (s.deferRequest p).journal = s.journal := rfl
@[simp] theorem State.deferRequest_totals (p : Port) : (s.deferRequest p).totals = s.totals := rfl
@[simp] theorem State.deferRequest_day (p : Port) : (s.deferRequest p).day = s.day := rfl
@[simp] theorem State.deferRequest_pageMem (p : Port) : (s.deferRequest p).pageMem = s.pageMem := rfl
@[simp] theorem State.deferRequest_boldMarks (p : Port) : (s.deferRequest p).boldMarks = s.boldMarks := rfl
@[simp] theorem State.deferRequest_freePages (p : Port) : (s.deferRequest p).freePages = s.freePages := rfl
@[simp] theorem State.deferRequest_jobs (p : Port) : (s.deferRequest p).jobs = s.jobs := rfl
@[simp] theorem State.deferRequest_queues (p : Port) : (s.deferRequest p).queues = s.queues := rfl
@[simp] theorem State.deferRequest_printers (p : Port) : (s.deferRequest p).printers = s.printers := rfl
@[simp] theorem State.deferRequest_freeReads (p : Port) : (s.deferRequest p).freeReads = s.freeReads := rfl

/-! ### callStart -/

@[simp] theorem State.callStart_pending (k : StartKind) : (s.callStart k).pending = s.pending := rfl
@[simp] theorem State.callStart_powered (k : StartKind) : (s.callStart k).powered = s.powered := rfl
@[simp] theorem State.callStart_resetDriven (k : StartKind) : (s.callStart k).resetDriven = s.resetDriven := rfl
@[simp] theorem State.callStart_markerValid (k : StartKind) : (s.callStart k).markerValid = s.markerValid := rfl
@[simp] theorem State.callStart_image (k : StartKind) : (s.callStart k).image = s.image := rfl
@[simp] theorem State.callStart_numberWord (k : StartKind) : (s.callStart k).numberWord = s.numberWord := rfl
@[simp] theorem State.callStart_settings (k : StartKind) : (s.callStart k).settings = s.settings := rfl
@[simp] theorem State.callStart_save (k : StartKind) : (s.callStart k).save = s.save := rfl
@[simp] theorem State.callStart_clock (k : StartKind) : (s.callStart k).clock = s.clock := rfl
@[simp] theorem State.callStart_pendingStart (k : StartKind) :
    (s.callStart k).pendingStart = some { kind := k, sent := false } := rfl
@[simp] theorem State.callStart_ports (k : StartKind) : (s.callStart k).ports = s.ports := rfl
@[simp] theorem State.callStart_requestEngine (k : StartKind) : (s.callStart k).requestEngine = s.requestEngine := rfl
@[simp] theorem State.callStart_pointer (k : StartKind) : (s.callStart k).pointer = s.pointer := rfl
@[simp] theorem State.callStart_channels (k : StartKind) : (s.callStart k).channels = s.channels := rfl
@[simp] theorem State.callStart_slots (k : StartKind) : (s.callStart k).slots = s.slots := rfl
@[simp] theorem State.callStart_counter (k : StartKind) : (s.callStart k).counter = s.counter := rfl
@[simp] theorem State.callStart_staged (k : StartKind) : (s.callStart k).staged = s.staged := rfl
@[simp] theorem State.callStart_tally (k : StartKind) : (s.callStart k).tally = s.tally := rfl
@[simp] theorem State.callStart_journal (k : StartKind) : (s.callStart k).journal = s.journal := rfl
@[simp] theorem State.callStart_totals (k : StartKind) : (s.callStart k).totals = s.totals := rfl
@[simp] theorem State.callStart_day (k : StartKind) : (s.callStart k).day = s.day := rfl
@[simp] theorem State.callStart_pageMem (k : StartKind) : (s.callStart k).pageMem = s.pageMem := rfl
@[simp] theorem State.callStart_boldMarks (k : StartKind) : (s.callStart k).boldMarks = s.boldMarks := rfl
@[simp] theorem State.callStart_freePages (k : StartKind) : (s.callStart k).freePages = s.freePages := rfl
@[simp] theorem State.callStart_jobs (k : StartKind) : (s.callStart k).jobs = s.jobs := rfl
@[simp] theorem State.callStart_queues (k : StartKind) : (s.callStart k).queues = s.queues := rfl
@[simp] theorem State.callStart_printers (k : StartKind) : (s.callStart k).printers = s.printers := rfl
@[simp] theorem State.callStart_freeReads (k : StartKind) : (s.callStart k).freeReads = s.freeReads := rfl

/-! ### stage -/

@[simp] theorem State.stage_pending (g : GradeIx) (e : GradeEntry) : (s.stage g e).pending = s.pending := rfl
@[simp] theorem State.stage_powered (g : GradeIx) (e : GradeEntry) : (s.stage g e).powered = s.powered := rfl
@[simp] theorem State.stage_resetDriven (g : GradeIx) (e : GradeEntry) :
    (s.stage g e).resetDriven = s.resetDriven := rfl
@[simp] theorem State.stage_markerValid (g : GradeIx) (e : GradeEntry) :
    (s.stage g e).markerValid = s.markerValid := rfl
@[simp] theorem State.stage_image (g : GradeIx) (e : GradeEntry) : (s.stage g e).image = s.image := rfl
@[simp] theorem State.stage_numberWord (g : GradeIx) (e : GradeEntry) : (s.stage g e).numberWord = s.numberWord := rfl
@[simp] theorem State.stage_settings (g : GradeIx) (e : GradeEntry) : (s.stage g e).settings = s.settings := rfl
@[simp] theorem State.stage_save (g : GradeIx) (e : GradeEntry) : (s.stage g e).save = s.save := rfl
@[simp] theorem State.stage_clock (g : GradeIx) (e : GradeEntry) : (s.stage g e).clock = s.clock := rfl
@[simp] theorem State.stage_pendingStart (g : GradeIx) (e : GradeEntry) :
    (s.stage g e).pendingStart = s.pendingStart := rfl
@[simp] theorem State.stage_ports (g : GradeIx) (e : GradeEntry) : (s.stage g e).ports = s.ports := rfl
@[simp] theorem State.stage_requestEngine (g : GradeIx) (e : GradeEntry) :
    (s.stage g e).requestEngine = s.requestEngine := rfl
@[simp] theorem State.stage_pointer (g : GradeIx) (e : GradeEntry) : (s.stage g e).pointer = s.pointer := rfl
@[simp] theorem State.stage_channels (g : GradeIx) (e : GradeEntry) : (s.stage g e).channels = s.channels := rfl
@[simp] theorem State.stage_slots (g : GradeIx) (e : GradeEntry) : (s.stage g e).slots = s.slots := rfl
@[simp] theorem State.stage_counter (g : GradeIx) (e : GradeEntry) : (s.stage g e).counter = s.counter := rfl
@[simp] theorem State.stage_staged (g : GradeIx) (e : GradeEntry) : (s.stage g e).staged = s.staged.set g e := rfl
@[simp] theorem State.stage_tally (g : GradeIx) (e : GradeEntry) : (s.stage g e).tally = s.tally := rfl
@[simp] theorem State.stage_journal (g : GradeIx) (e : GradeEntry) : (s.stage g e).journal = s.journal := rfl
@[simp] theorem State.stage_totals (g : GradeIx) (e : GradeEntry) : (s.stage g e).totals = s.totals := rfl
@[simp] theorem State.stage_day (g : GradeIx) (e : GradeEntry) : (s.stage g e).day = s.day := rfl
@[simp] theorem State.stage_pageMem (g : GradeIx) (e : GradeEntry) : (s.stage g e).pageMem = s.pageMem := rfl
@[simp] theorem State.stage_boldMarks (g : GradeIx) (e : GradeEntry) : (s.stage g e).boldMarks = s.boldMarks := rfl
@[simp] theorem State.stage_freePages (g : GradeIx) (e : GradeEntry) : (s.stage g e).freePages = s.freePages := rfl
@[simp] theorem State.stage_jobs (g : GradeIx) (e : GradeEntry) : (s.stage g e).jobs = s.jobs := rfl
@[simp] theorem State.stage_queues (g : GradeIx) (e : GradeEntry) : (s.stage g e).queues = s.queues := rfl
@[simp] theorem State.stage_printers (g : GradeIx) (e : GradeEntry) : (s.stage g e).printers = s.printers := rfl
@[simp] theorem State.stage_freeReads (g : GradeIx) (e : GradeEntry) : (s.stage g e).freeReads = s.freeReads := rfl

/-! ### append -/

@[simp] theorem State.append_pending (r : Record) : (s.append r).pending = s.pending := rfl
@[simp] theorem State.append_powered (r : Record) : (s.append r).powered = s.powered := rfl
@[simp] theorem State.append_resetDriven (r : Record) : (s.append r).resetDriven = s.resetDriven := rfl
@[simp] theorem State.append_markerValid (r : Record) : (s.append r).markerValid = s.markerValid := rfl
@[simp] theorem State.append_image (r : Record) : (s.append r).image = s.image := rfl
@[simp] theorem State.append_numberWord (r : Record) : (s.append r).numberWord = s.numberWord := rfl
@[simp] theorem State.append_settings (r : Record) : (s.append r).settings = s.settings := rfl
@[simp] theorem State.append_save (r : Record) : (s.append r).save = s.save := rfl
@[simp] theorem State.append_clock (r : Record) : (s.append r).clock = s.clock := rfl
@[simp] theorem State.append_pendingStart (r : Record) : (s.append r).pendingStart = s.pendingStart := rfl
@[simp] theorem State.append_ports (r : Record) : (s.append r).ports = s.ports := rfl
@[simp] theorem State.append_requestEngine (r : Record) : (s.append r).requestEngine = s.requestEngine := rfl
@[simp] theorem State.append_pointer (r : Record) : (s.append r).pointer = s.pointer := rfl
@[simp] theorem State.append_channels (r : Record) : (s.append r).channels = s.channels := rfl
@[simp] theorem State.append_slots (r : Record) : (s.append r).slots = s.slots := rfl
@[simp] theorem State.append_counter (r : Record) : (s.append r).counter = s.counter := rfl
@[simp] theorem State.append_staged (r : Record) : (s.append r).staged = s.staged := rfl
@[simp] theorem State.append_tally (r : Record) : (s.append r).tally = s.tally := rfl
@[simp] theorem State.append_journal (r : Record) : (s.append r).journal = s.journal ++ [r] := rfl
@[simp] theorem State.append_totals (r : Record) : (s.append r).totals = s.totals := rfl
@[simp] theorem State.append_day (r : Record) : (s.append r).day = s.day := rfl
@[simp] theorem State.append_pageMem (r : Record) : (s.append r).pageMem = s.pageMem := rfl
@[simp] theorem State.append_boldMarks (r : Record) : (s.append r).boldMarks = s.boldMarks := rfl
@[simp] theorem State.append_freePages (r : Record) : (s.append r).freePages = s.freePages := rfl
@[simp] theorem State.append_jobs (r : Record) : (s.append r).jobs = s.jobs := rfl
@[simp] theorem State.append_queues (r : Record) : (s.append r).queues = s.queues := rfl
@[simp] theorem State.append_printers (r : Record) : (s.append r).printers = s.printers := rfl
@[simp] theorem State.append_freeReads (r : Record) : (s.append r).freeReads = s.freeReads := rfl

/-! ### setTally -/

@[simp] theorem State.setTally_pending (b : Fin 64) (w : Fin 4) (e : TallyEntry) :
    (s.setTally b w e).pending = s.pending := rfl
@[simp] theorem State.setTally_powered (b : Fin 64) (w : Fin 4) (e : TallyEntry) :
    (s.setTally b w e).powered = s.powered := rfl
@[simp] theorem State.setTally_resetDriven (b : Fin 64) (w : Fin 4) (e : TallyEntry) :
    (s.setTally b w e).resetDriven = s.resetDriven := rfl
@[simp] theorem State.setTally_markerValid (b : Fin 64) (w : Fin 4) (e : TallyEntry) :
    (s.setTally b w e).markerValid = s.markerValid := rfl
@[simp] theorem State.setTally_image (b : Fin 64) (w : Fin 4) (e : TallyEntry) :
    (s.setTally b w e).image = s.image := rfl
@[simp] theorem State.setTally_numberWord (b : Fin 64) (w : Fin 4) (e : TallyEntry) :
    (s.setTally b w e).numberWord = s.numberWord := rfl
@[simp] theorem State.setTally_settings (b : Fin 64) (w : Fin 4) (e : TallyEntry) :
    (s.setTally b w e).settings = s.settings := rfl
@[simp] theorem State.setTally_save (b : Fin 64) (w : Fin 4) (e : TallyEntry) :
    (s.setTally b w e).save = s.save := rfl
@[simp] theorem State.setTally_clock (b : Fin 64) (w : Fin 4) (e : TallyEntry) :
    (s.setTally b w e).clock = s.clock := rfl
@[simp] theorem State.setTally_pendingStart (b : Fin 64) (w : Fin 4) (e : TallyEntry) :
    (s.setTally b w e).pendingStart = s.pendingStart := rfl
@[simp] theorem State.setTally_ports (b : Fin 64) (w : Fin 4) (e : TallyEntry) :
    (s.setTally b w e).ports = s.ports := rfl
@[simp] theorem State.setTally_requestEngine (b : Fin 64) (w : Fin 4) (e : TallyEntry) :
    (s.setTally b w e).requestEngine = s.requestEngine := rfl
@[simp] theorem State.setTally_pointer (b : Fin 64) (w : Fin 4) (e : TallyEntry) :
    (s.setTally b w e).pointer = s.pointer := rfl
@[simp] theorem State.setTally_channels (b : Fin 64) (w : Fin 4) (e : TallyEntry) :
    (s.setTally b w e).channels = s.channels := rfl
@[simp] theorem State.setTally_slots (b : Fin 64) (w : Fin 4) (e : TallyEntry) :
    (s.setTally b w e).slots = s.slots := rfl
@[simp] theorem State.setTally_counter (b : Fin 64) (w : Fin 4) (e : TallyEntry) :
    (s.setTally b w e).counter = s.counter := rfl
@[simp] theorem State.setTally_staged (b : Fin 64) (w : Fin 4) (e : TallyEntry) :
    (s.setTally b w e).staged = s.staged := rfl
@[simp] theorem State.setTally_tally (b : Fin 64) (w : Fin 4) (e : TallyEntry) :
    (s.setTally b w e).tally = s.tally.set b (s.tally[b].set w (some e)) := rfl
@[simp] theorem State.setTally_journal (b : Fin 64) (w : Fin 4) (e : TallyEntry) :
    (s.setTally b w e).journal = s.journal := rfl
@[simp] theorem State.setTally_totals (b : Fin 64) (w : Fin 4) (e : TallyEntry) :
    (s.setTally b w e).totals = s.totals := rfl
@[simp] theorem State.setTally_day (b : Fin 64) (w : Fin 4) (e : TallyEntry) : (s.setTally b w e).day = s.day := rfl
@[simp] theorem State.setTally_pageMem (b : Fin 64) (w : Fin 4) (e : TallyEntry) :
    (s.setTally b w e).pageMem = s.pageMem := rfl
@[simp] theorem State.setTally_boldMarks (b : Fin 64) (w : Fin 4) (e : TallyEntry) :
    (s.setTally b w e).boldMarks = s.boldMarks := rfl
@[simp] theorem State.setTally_freePages (b : Fin 64) (w : Fin 4) (e : TallyEntry) :
    (s.setTally b w e).freePages = s.freePages := rfl
@[simp] theorem State.setTally_jobs (b : Fin 64) (w : Fin 4) (e : TallyEntry) :
    (s.setTally b w e).jobs = s.jobs := rfl
@[simp] theorem State.setTally_queues (b : Fin 64) (w : Fin 4) (e : TallyEntry) :
    (s.setTally b w e).queues = s.queues := rfl
@[simp] theorem State.setTally_printers (b : Fin 64) (w : Fin 4) (e : TallyEntry) :
    (s.setTally b w e).printers = s.printers := rfl
@[simp] theorem State.setTally_freeReads (b : Fin 64) (w : Fin 4) (e : TallyEntry) :
    (s.setTally b w e).freeReads = s.freeReads := rfl

/-! ### allocate -/

@[simp] theorem State.allocate_pending (j : JobNo) (n : Nat) (x : Job) : (s.allocate j n x).pending = s.pending := rfl
@[simp] theorem State.allocate_powered (j : JobNo) (n : Nat) (x : Job) : (s.allocate j n x).powered = s.powered := rfl
@[simp] theorem State.allocate_resetDriven (j : JobNo) (n : Nat) (x : Job) :
    (s.allocate j n x).resetDriven = s.resetDriven := rfl
@[simp] theorem State.allocate_markerValid (j : JobNo) (n : Nat) (x : Job) :
    (s.allocate j n x).markerValid = s.markerValid := rfl
@[simp] theorem State.allocate_image (j : JobNo) (n : Nat) (x : Job) : (s.allocate j n x).image = s.image := rfl
@[simp] theorem State.allocate_numberWord (j : JobNo) (n : Nat) (x : Job) :
    (s.allocate j n x).numberWord = s.numberWord := rfl
@[simp] theorem State.allocate_settings (j : JobNo) (n : Nat) (x : Job) :
    (s.allocate j n x).settings = s.settings := rfl
@[simp] theorem State.allocate_save (j : JobNo) (n : Nat) (x : Job) : (s.allocate j n x).save = s.save := rfl
@[simp] theorem State.allocate_clock (j : JobNo) (n : Nat) (x : Job) : (s.allocate j n x).clock = s.clock := rfl
@[simp] theorem State.allocate_pendingStart (j : JobNo) (n : Nat) (x : Job) :
    (s.allocate j n x).pendingStart = s.pendingStart := rfl
@[simp] theorem State.allocate_ports (j : JobNo) (n : Nat) (x : Job) : (s.allocate j n x).ports = s.ports := rfl
@[simp] theorem State.allocate_requestEngine (j : JobNo) (n : Nat) (x : Job) :
    (s.allocate j n x).requestEngine = s.requestEngine := rfl
@[simp] theorem State.allocate_pointer (j : JobNo) (n : Nat) (x : Job) : (s.allocate j n x).pointer = s.pointer := rfl
@[simp] theorem State.allocate_channels (j : JobNo) (n : Nat) (x : Job) :
    (s.allocate j n x).channels = s.channels := rfl
@[simp] theorem State.allocate_slots (j : JobNo) (n : Nat) (x : Job) : (s.allocate j n x).slots = s.slots := rfl
@[simp] theorem State.allocate_counter (j : JobNo) (n : Nat) (x : Job) : (s.allocate j n x).counter = s.counter := rfl
@[simp] theorem State.allocate_staged (j : JobNo) (n : Nat) (x : Job) : (s.allocate j n x).staged = s.staged := rfl
@[simp] theorem State.allocate_tally (j : JobNo) (n : Nat) (x : Job) : (s.allocate j n x).tally = s.tally := rfl
@[simp] theorem State.allocate_journal (j : JobNo) (n : Nat) (x : Job) : (s.allocate j n x).journal = s.journal := rfl
@[simp] theorem State.allocate_totals (j : JobNo) (n : Nat) (x : Job) : (s.allocate j n x).totals = s.totals := rfl
@[simp] theorem State.allocate_day (j : JobNo) (n : Nat) (x : Job) : (s.allocate j n x).day = s.day := rfl
@[simp] theorem State.allocate_pageMem (j : JobNo) (n : Nat) (x : Job) : (s.allocate j n x).pageMem = s.pageMem := rfl
@[simp] theorem State.allocate_boldMarks (j : JobNo) (n : Nat) (x : Job) :
    (s.allocate j n x).boldMarks = s.boldMarks := rfl
@[simp] theorem State.allocate_freePages (j : JobNo) (n : Nat) (x : Job) :
    (s.allocate j n x).freePages = s.freePages.drop n := rfl
@[simp] theorem State.allocate_jobs (j : JobNo) (n : Nat) (x : Job) :
    (s.allocate j n x).jobs = s.jobs.set j (some { x with pages := s.freePages.take n }) := rfl
@[simp] theorem State.allocate_queues (j : JobNo) (n : Nat) (x : Job) : (s.allocate j n x).queues = s.queues := rfl
@[simp] theorem State.allocate_printers (j : JobNo) (n : Nat) (x : Job) :
    (s.allocate j n x).printers = s.printers := rfl
@[simp] theorem State.allocate_freeReads (j : JobNo) (n : Nat) (x : Job) :
    (s.allocate j n x).freeReads = s.freeReads := rfl

/-! ### answer -/

@[simp] theorem answer_pending (r : Req) (o : OutcomeCode) (d : List Byte) :
    (answer r o d s).pending = s.pending := rfl
@[simp] theorem answer_powered (r : Req) (o : OutcomeCode) (d : List Byte) :
    (answer r o d s).powered = s.powered := rfl
@[simp] theorem answer_resetDriven (r : Req) (o : OutcomeCode) (d : List Byte) :
    (answer r o d s).resetDriven = s.resetDriven := rfl
@[simp] theorem answer_markerValid (r : Req) (o : OutcomeCode) (d : List Byte) :
    (answer r o d s).markerValid = s.markerValid := rfl
@[simp] theorem answer_image (r : Req) (o : OutcomeCode) (d : List Byte) :
    (answer r o d s).image = s.image := rfl
@[simp] theorem answer_numberWord (r : Req) (o : OutcomeCode) (d : List Byte) :
    (answer r o d s).numberWord = s.numberWord := rfl
@[simp] theorem answer_settings (r : Req) (o : OutcomeCode) (d : List Byte) :
    (answer r o d s).settings = s.settings := rfl
@[simp] theorem answer_save (r : Req) (o : OutcomeCode) (d : List Byte) :
    (answer r o d s).save = s.save := rfl
@[simp] theorem answer_clock (r : Req) (o : OutcomeCode) (d : List Byte) :
    (answer r o d s).clock = s.clock := rfl
@[simp] theorem answer_pendingStart (r : Req) (o : OutcomeCode) (d : List Byte) :
    (answer r o d s).pendingStart = s.pendingStart := rfl
@[simp] theorem answer_ports (r : Req) (o : OutcomeCode) (d : List Byte) :
    (answer r o d s).ports = s.ports.set r.port (s.ports[r.port].respond { tag := r.tag, code := r.code, outcome := o, data := d }) := rfl
@[simp] theorem answer_requestEngine (r : Req) (o : OutcomeCode) (d : List Byte) :
    (answer r o d s).requestEngine = s.requestEngine := rfl
@[simp] theorem answer_pointer (r : Req) (o : OutcomeCode) (d : List Byte) :
    (answer r o d s).pointer = s.pointer := rfl
@[simp] theorem answer_channels (r : Req) (o : OutcomeCode) (d : List Byte) :
    (answer r o d s).channels = s.channels := rfl
@[simp] theorem answer_slots (r : Req) (o : OutcomeCode) (d : List Byte) :
    (answer r o d s).slots = s.slots := rfl
@[simp] theorem answer_counter (r : Req) (o : OutcomeCode) (d : List Byte) :
    (answer r o d s).counter = s.counter := rfl
@[simp] theorem answer_staged (r : Req) (o : OutcomeCode) (d : List Byte) :
    (answer r o d s).staged = s.staged := rfl
@[simp] theorem answer_tally (r : Req) (o : OutcomeCode) (d : List Byte) :
    (answer r o d s).tally = s.tally := rfl
@[simp] theorem answer_journal (r : Req) (o : OutcomeCode) (d : List Byte) :
    (answer r o d s).journal = s.journal := rfl
@[simp] theorem answer_totals (r : Req) (o : OutcomeCode) (d : List Byte) :
    (answer r o d s).totals = s.totals := rfl
@[simp] theorem answer_day (r : Req) (o : OutcomeCode) (d : List Byte) :
    (answer r o d s).day = s.day := rfl
@[simp] theorem answer_pageMem (r : Req) (o : OutcomeCode) (d : List Byte) :
    (answer r o d s).pageMem = s.pageMem := rfl
@[simp] theorem answer_boldMarks (r : Req) (o : OutcomeCode) (d : List Byte) :
    (answer r o d s).boldMarks = s.boldMarks := rfl
@[simp] theorem answer_freePages (r : Req) (o : OutcomeCode) (d : List Byte) :
    (answer r o d s).freePages = s.freePages := rfl
@[simp] theorem answer_jobs (r : Req) (o : OutcomeCode) (d : List Byte) :
    (answer r o d s).jobs = s.jobs := rfl
@[simp] theorem answer_queues (r : Req) (o : OutcomeCode) (d : List Byte) :
    (answer r o d s).queues = s.queues := rfl
@[simp] theorem answer_printers (r : Req) (o : OutcomeCode) (d : List Byte) :
    (answer r o d s).printers = s.printers := rfl
@[simp] theorem answer_freeReads (r : Req) (o : OutcomeCode) (d : List Byte) :
    (answer r o d s).freeReads = s.freeReads := rfl

/-! ### arbitrate and releaseEngine: only the engine and the pointer may change -/

@[simp] theorem State.arbitrate_pending : s.arbitrate.pending = s.pending := by unfold State.arbitrate; split <;> [rfl; split <;> rfl]
@[simp] theorem State.arbitrate_powered : s.arbitrate.powered = s.powered := by unfold State.arbitrate; split <;> [rfl; split <;> rfl]
@[simp] theorem State.arbitrate_resetDriven : s.arbitrate.resetDriven = s.resetDriven := by unfold State.arbitrate; split <;> [rfl; split <;> rfl]
@[simp] theorem State.arbitrate_markerValid : s.arbitrate.markerValid = s.markerValid := by unfold State.arbitrate; split <;> [rfl; split <;> rfl]
@[simp] theorem State.arbitrate_image : s.arbitrate.image = s.image := by unfold State.arbitrate; split <;> [rfl; split <;> rfl]
@[simp] theorem State.arbitrate_numberWord : s.arbitrate.numberWord = s.numberWord := by unfold State.arbitrate; split <;> [rfl; split <;> rfl]
@[simp] theorem State.arbitrate_settings : s.arbitrate.settings = s.settings := by unfold State.arbitrate; split <;> [rfl; split <;> rfl]
@[simp] theorem State.arbitrate_save : s.arbitrate.save = s.save := by unfold State.arbitrate; split <;> [rfl; split <;> rfl]
@[simp] theorem State.arbitrate_clock : s.arbitrate.clock = s.clock := by unfold State.arbitrate; split <;> [rfl; split <;> rfl]
@[simp] theorem State.arbitrate_pendingStart : s.arbitrate.pendingStart = s.pendingStart := by unfold State.arbitrate; split <;> [rfl; split <;> rfl]
@[simp] theorem State.arbitrate_ports : s.arbitrate.ports = s.ports := by unfold State.arbitrate; split <;> [rfl; split <;> rfl]
@[simp] theorem State.arbitrate_channels : s.arbitrate.channels = s.channels := by unfold State.arbitrate; split <;> [rfl; split <;> rfl]
@[simp] theorem State.arbitrate_slots : s.arbitrate.slots = s.slots := by unfold State.arbitrate; split <;> [rfl; split <;> rfl]
@[simp] theorem State.arbitrate_counter : s.arbitrate.counter = s.counter := by unfold State.arbitrate; split <;> [rfl; split <;> rfl]
@[simp] theorem State.arbitrate_staged : s.arbitrate.staged = s.staged := by unfold State.arbitrate; split <;> [rfl; split <;> rfl]
@[simp] theorem State.arbitrate_tally : s.arbitrate.tally = s.tally := by unfold State.arbitrate; split <;> [rfl; split <;> rfl]
@[simp] theorem State.arbitrate_journal : s.arbitrate.journal = s.journal := by unfold State.arbitrate; split <;> [rfl; split <;> rfl]
@[simp] theorem State.arbitrate_totals : s.arbitrate.totals = s.totals := by unfold State.arbitrate; split <;> [rfl; split <;> rfl]
@[simp] theorem State.arbitrate_day : s.arbitrate.day = s.day := by unfold State.arbitrate; split <;> [rfl; split <;> rfl]
@[simp] theorem State.arbitrate_pageMem : s.arbitrate.pageMem = s.pageMem := by unfold State.arbitrate; split <;> [rfl; split <;> rfl]
@[simp] theorem State.arbitrate_boldMarks : s.arbitrate.boldMarks = s.boldMarks := by unfold State.arbitrate; split <;> [rfl; split <;> rfl]
@[simp] theorem State.arbitrate_freePages : s.arbitrate.freePages = s.freePages := by unfold State.arbitrate; split <;> [rfl; split <;> rfl]
@[simp] theorem State.arbitrate_jobs : s.arbitrate.jobs = s.jobs := by unfold State.arbitrate; split <;> [rfl; split <;> rfl]
@[simp] theorem State.arbitrate_queues : s.arbitrate.queues = s.queues := by unfold State.arbitrate; split <;> [rfl; split <;> rfl]
@[simp] theorem State.arbitrate_printers : s.arbitrate.printers = s.printers := by unfold State.arbitrate; split <;> [rfl; split <;> rfl]
@[simp] theorem State.arbitrate_freeReads : s.arbitrate.freeReads = s.freeReads := by unfold State.arbitrate; split <;> [rfl; split <;> rfl]
@[simp] theorem State.releaseEngine_pending : s.releaseEngine.pending = s.pending := by simp [State.releaseEngine]
@[simp] theorem State.releaseEngine_powered : s.releaseEngine.powered = s.powered := by simp [State.releaseEngine]
@[simp] theorem State.releaseEngine_resetDriven : s.releaseEngine.resetDriven = s.resetDriven := by simp [State.releaseEngine]
@[simp] theorem State.releaseEngine_markerValid : s.releaseEngine.markerValid = s.markerValid := by simp [State.releaseEngine]
@[simp] theorem State.releaseEngine_image : s.releaseEngine.image = s.image := by simp [State.releaseEngine]
@[simp] theorem State.releaseEngine_numberWord : s.releaseEngine.numberWord = s.numberWord := by simp [State.releaseEngine]
@[simp] theorem State.releaseEngine_settings : s.releaseEngine.settings = s.settings := by simp [State.releaseEngine]
@[simp] theorem State.releaseEngine_save : s.releaseEngine.save = s.save := by simp [State.releaseEngine]
@[simp] theorem State.releaseEngine_clock : s.releaseEngine.clock = s.clock := by simp [State.releaseEngine]
@[simp] theorem State.releaseEngine_pendingStart : s.releaseEngine.pendingStart = s.pendingStart := by simp [State.releaseEngine]
@[simp] theorem State.releaseEngine_ports : s.releaseEngine.ports = s.ports := by simp [State.releaseEngine]
@[simp] theorem State.releaseEngine_channels : s.releaseEngine.channels = s.channels := by simp [State.releaseEngine]
@[simp] theorem State.releaseEngine_slots : s.releaseEngine.slots = s.slots := by simp [State.releaseEngine]
@[simp] theorem State.releaseEngine_counter : s.releaseEngine.counter = s.counter := by simp [State.releaseEngine]
@[simp] theorem State.releaseEngine_staged : s.releaseEngine.staged = s.staged := by simp [State.releaseEngine]
@[simp] theorem State.releaseEngine_tally : s.releaseEngine.tally = s.tally := by simp [State.releaseEngine]
@[simp] theorem State.releaseEngine_journal : s.releaseEngine.journal = s.journal := by simp [State.releaseEngine]
@[simp] theorem State.releaseEngine_totals : s.releaseEngine.totals = s.totals := by simp [State.releaseEngine]
@[simp] theorem State.releaseEngine_day : s.releaseEngine.day = s.day := by simp [State.releaseEngine]
@[simp] theorem State.releaseEngine_pageMem : s.releaseEngine.pageMem = s.pageMem := by simp [State.releaseEngine]
@[simp] theorem State.releaseEngine_boldMarks : s.releaseEngine.boldMarks = s.boldMarks := by simp [State.releaseEngine]
@[simp] theorem State.releaseEngine_freePages : s.releaseEngine.freePages = s.freePages := by simp [State.releaseEngine]
@[simp] theorem State.releaseEngine_jobs : s.releaseEngine.jobs = s.jobs := by simp [State.releaseEngine]
@[simp] theorem State.releaseEngine_queues : s.releaseEngine.queues = s.queues := by simp [State.releaseEngine]
@[simp] theorem State.releaseEngine_printers : s.releaseEngine.printers = s.printers := by simp [State.releaseEngine]
@[simp] theorem State.releaseEngine_freeReads : s.releaseEngine.freeReads = s.freeReads := by simp [State.releaseEngine]

end Sys2Proof.Machine
end

