-- ==== Sys2Proof/Laws/Tables.lean ====
section
/-! SUPPORT. Reading one entry of a table after an update of one entry. -/

namespace Sys2Proof.Machine

/-- Reading a table after one entry was set: by the numbers of the two entries. -/
theorem getElem_set_fin {α : Type} {n : Nat} (v : Vector α n) (i k : Fin n) (x : α) :
    (v.set i x)[k] = if i = k then x else v[k] := by
  simp only [Fin.getElem_fin]
  rw [Vector.getElem_set]
  simp [Fin.ext_iff]

/-- The same in the form simp reduces an entry to, its number taken as a natural number. -/
@[simp] theorem getElem_set_coe {α : Type} {n : Nat} (v : Vector α n) (i k : Fin n) (x : α) (h : i.val < n)
    (h' : k.val < n) : (v.set i.val x h)[k.val]'h' = if i = k then x else v[k.val]'h' := by
  rw [Vector.getElem_set]
  simp [Fin.ext_iff]

/-- Setting an entry to what it holds changes nothing. -/
theorem set_self {α : Type} {n : Nat} (v : Vector α n) (i : Fin n) : v.set i v[i] = v := by
  apply Vector.ext
  intro k hk
  rw [Vector.getElem_set]
  split
  · subst_vars; rfl
  · rfl

/-- A table mapped entry by entry. -/
theorem getElem_mapEntries {α β : Type} {n : Nat} (f : Fin n → α → β) (v : Vector α n) (i : Fin n) :
    (mapEntries f v)[i] = f i v[i] := by
  simp [mapEntries]

/-- The same in the form simp reduces an entry to. -/
@[simp] theorem getElem_mapEntries_coe {α β : Type} {n : Nat} (f : Fin n → α → β) (v : Vector α n) (i : Fin n)
    (h : i.val < n) : (mapEntries f v)[i.val]'h = f i (v[i.val]'h) := by
  simp [mapEntries]

variable (s : State)

theorem State.setPort_get (p q : Port) (x : StationPort) :
    (s.setPort p x).ports[q] = if p = q then x else s.ports[q] := getElem_set_fin _ _ _ _

theorem State.setChannel_get (c d : Chan) (x : Channel) :
    (s.setChannel c x).channels[d] = if c = d then x else s.channels[d] := getElem_set_fin _ _ _ _

theorem State.setSlot_get (i k : Slot) (x : Option Ticket) :
    (s.setSlot i x).slots[k] = if i = k then x else s.slots[k] := getElem_set_fin _ _ _ _

theorem State.setJob_get (j k : JobNo) (x : Option Job) :
    (s.setJob j x).jobs[k] = if j = k then x else s.jobs[k] := getElem_set_fin _ _ _ _

theorem State.setQueue_get (p q : Printer) (x : List JobNo) :
    (s.setQueue p x).queues[q] = if p = q then x else s.queues[q] := getElem_set_fin _ _ _ _

theorem State.setEngine_get (p q : Printer) (x : Engine) :
    (s.setEngine p x).printers[q] = if p = q then x else s.printers[q] := getElem_set_fin _ _ _ _

theorem State.respond_get (p q : Port) (r : Response) :
    (s.respond p r).ports[q] = if p = q then s.ports[p].respond r else s.ports[q] := getElem_set_fin _ _ _ _

theorem State.deferRequest_get (p q : Port) :
    (s.deferRequest p).ports[q] =
      if p = q then
        { s.ports[p] with request := s.ports[p].request.map fun x => { x with phase := .deferred } }
      else s.ports[q] := getElem_set_fin _ _ _ _

theorem answer_get (r : Req) (o : OutcomeCode) (d : List Byte) (q : Port) :
    (answer r o d s).ports[q] =
      if r.port = q then s.ports[r.port].respond { tag := r.tag, code := r.code, outcome := o, data := d }
      else s.ports[q] := getElem_set_fin _ _ _ _

theorem State.latchWhere_get (e : Event) (f : Port → StationPort → Bool) (q : Port) :
    (s.latchWhere e f).ports[q] = if f q s.ports[q] then s.ports[q].latch e else s.ports[q] := by
  rw [State.latchWhere_ports]; exact getElem_mapEntries _ _ _

end Sys2Proof.Machine
end

