-- ==== Sys2Proof/Laws/Ops.lean ====
section
/-! SUPPORT. What each shared operation can do, said once: the queue, the grant of a request, the arbiter, the answer,
the latching of events. -/

namespace Sys2Proof.Machine

/-! ### The queue -/

/-- A step with a command in front carries it out on the state with the rest of the queue. -/
theorem step_cons (s : State) (c : Instr) (rest : List Instr) (h : s.pending = c :: rest) :
    step s = exec c { s with pending := rest } := by
  unfold step; rw [h]

/-- Every command answers a next state. -/
theorem exec_next (i : Instr) (s : State) : ∃ t, exec i s = .next t := by cases i <;> exact ⟨_, rfl⟩

/-! ### Requests -/

/-- A grant names the engine's port and its WAITING request of that CODE. -/
theorem granted_some {s : State} {code : Byte} {r : Req} (h : s.granted code = some r) :
    s.requestEngine = some r.port ∧ r.code = code ∧
      s.ports[r.port].request = some { tag := r.tag, code := code, data := r.data, phase := .waiting } := by
  unfold State.granted at h
  split at h
  · cases h
  · rename_i p hp
    split at h
    · rename_i q hq
      split at h
      · rename_i hc
        cases h
        obtain ⟨h1, h2⟩ := hc
        refine ⟨hp, h2, ?_⟩
        simp only [hq, ← h1, ← h2]
      · cases h
    · cases h

theorem granted_of {s : State} {p : Port} {tag code : Byte} {data : List Byte} (h1 : s.requestEngine = some p)
    (h2 : s.ports[p].request = some { tag := tag, code := code, data := data, phase := .waiting }) :
    s.granted code = some { port := p, tag := tag, code := code, data := data } := by
  unfold State.granted
  rw [h1]
  dsimp only
  rw [h2]
  simp

/-- A request row does nothing, or carries out the granted request of its CODE and frees the engine. -/
theorem serve_cases (code : Byte) (h : Req → State → State) (s : State) :
    serve code h s = s ∨
      ∃ r, s.taking = true ∧ s.granted code = some r ∧ serve code h s = (h r s).releaseEngine := by
  unfold serve
  split
  · split
    · exact .inr ⟨_, ‹_›, ‹_›, rfl⟩
    · exact .inl rfl
  · exact .inl rfl

theorem serve_granted {code : Byte} {h : Req → State → State} {s : State} {r : Req} (ht : s.taking = true)
    (hg : s.granted code = some r) : serve code h s = (h r s).releaseEngine := by
  simp [serve, ht, hg]

theorem whileTaking_cases (f : State → State) (s : State) :
    whileTaking f s = s ∨ s.taking = true ∧ whileTaking f s = f s := by
  unfold whileTaking
  split
  · exact .inr ⟨‹_›, rfl⟩
  · exact .inl rfl

/-! ### The arbiter -/

/-- The arbiter leaves the state as it is, or grants the first grantable port after the pointer. -/
theorem arbitrate_cases (s : State) :
    s.arbitrate = s ∧ (s.requestEngine = none → s.pendingStart = none → ∀ p : Port, (s.ports[p]).grantable = false) ∨
      ∃ p, s.requestEngine = none ∧ s.pendingStart = none ∧ (s.ports[p]).grantable = true ∧
        (grantOrder s.pointer).find? (fun q => (s.ports[q]).grantable) = some p ∧
        s.arbitrate = { s with requestEngine := some p, pointer := p } := by
  unfold State.arbitrate
  split
  · rename_i h
    refine .inl ⟨rfl, fun h1 h2 => ?_⟩
    simp [h1, h2] at h
  · rename_i h
    simp only [Bool.or_eq_true, Option.isSome_iff_ne_none, ne_eq, not_or, not_not] at h
    split
    · rename_i p hp
      exact .inr ⟨p, h.1, h.2, by simpa using List.find?_some hp, hp, rfl⟩
    · rename_i hn
      refine .inl ⟨rfl, fun _ _ p => ?_⟩
      rw [List.find?_eq_none] at hn
      have hp : p ∈ grantOrder s.pointer := by
        generalize s.pointer = q
        revert p q; decide
      simpa using hn p hp

/-- Freeing the engine is a grant from a free engine. -/
theorem releaseEngine_eq (s : State) : s.releaseEngine = ({ s with requestEngine := none } : State).arbitrate := rfl

/-! ### Answers -/

/-- The port of an answered request: no request pending, one frame more. -/
theorem answer_port (r : Req) (o : OutcomeCode) (d : List Byte) (s : State) :
    (answer r o d s).ports[r.port] =
      { s.ports[r.port] with
        request := none
        output := s.ports[r.port].output ++ [{ tag := r.tag, code := r.code, outcome := o, data := d }] } := by
  simp [StationPort.respond]

/-- Every other port is left as it is. -/
theorem answer_other (r : Req) (o : OutcomeCode) (d : List Byte) (s : State) {q : Port} (h : q ≠ r.port) :
    (answer r o d s).ports[q] = s.ports[q] := by
  rw [answer_get, if_neg (Ne.symm h)]

/-! ### Tickets -/

/-- A request that names a ticket answers BAD_PARAM or NO_TICKET, or goes on with the slot that holds the number. -/
theorem onTicket_cases (r : Req) (n : Nat) (s : State) (k : Slot → Ticket → State) :
    (numberInRange n = false ∧ onTicket r n s k = answer r .badParam [] s) ∨
      (numberInRange n = true ∧ onTicket r n s k = answer r .noTicket [] s ∧ s.findTicket n = none) ∨
      ∃ i t, numberInRange n = true ∧ s.findTicket n = some i ∧ s.slots[i] = some t ∧ t.number = some n ∧
        onTicket r n s k = k i t := by
  unfold onTicket
  split
  · split
    · rename_i h
      exact .inr (.inl ⟨‹_›, rfl, h⟩)
    · rename_i i hi
      have hf := List.find?_some hi
      split
      · rename_i h
        simp [h] at hf
      · rename_i t ht
        refine .inr (.inr ⟨i, t, ‹_›, hi, ht, ?_, rfl⟩)
        simpa [ht] using hf
  · rename_i h
    exact .inl ⟨by simpa using h, rfl⟩

/-- A found slot is a slot that holds the number, and the first one. -/
theorem findTicket_some {s : State} {n : Nat} {i : Slot} (h : s.findTicket n = some i) :
    (s.slots[i].bind (·.number)) = some n := by
  simpa using List.find?_some h

/-- The free slot taken is FREE. -/
theorem freeSlot_some {s : State} {i : Slot} (h : s.freeSlot = some i) : s.slots[i] = none := by
  simpa using List.find?_some h

/-- The free job number taken is free. -/
theorem freeJob_some {s : State} {j : JobNo} (h : s.freeJob = some j) : s.jobs[j] = none := by
  simpa using List.find?_some h

/-- An allocation finds the pages and a free number. -/
theorem canAllocate_some {s : State} {n : Nat} {j : JobNo} (h : s.canAllocate n = some j) :
    n ≤ s.freePages.length ∧ s.jobs[j] = none := by
  unfold State.canAllocate at h
  split at h
  · exact ⟨‹_›, freeJob_some h⟩
  · cases h

end Sys2Proof.Machine
end

