-- ==== Sys2Proof/Laws/PerInstr.lean ====
section
/-! SUPPORT. Laws proved constructor by constructor. RequestCode: the CODE of a request row names that row and no
other, and the code table of 10.9.2 permits it to some role. -/

namespace Sys2Proof.Laws.RequestCode

/-- The CODE of a command, where it has one, names the command and stands in the table of permitted roles. -/
def Statement (i : Instr) : Prop :=
  ∀ b, requestCode i = some b → requestOfCode b = some i ∧ (Machine.rolesFor b).isSome = true

theorem of_code {i : Instr} {c : Byte} (h : requestCode i = some c) (h1 : requestOfCode c = some i)
    (h2 : (Machine.rolesFor c).isSome = true) : Statement i := by
  intro b hb
  cases h.symm.trans hb
  exact ⟨h1, h2⟩

theorem of_event {i : Instr} (h : requestCode i = none) : Statement i := by
  intro b hb
  cases h.symm.trans hb

theorem getEvents : Statement .getEvents := of_code rfl (by decide) (by decide)
theorem ackEvents : Statement .ackEvents := of_code rfl (by decide) (by decide)
theorem setMask : Statement .setMask := of_code rfl (by decide) (by decide)
theorem setAlias : Statement .setAlias := of_code rfl (by decide) (by decide)
theorem openTruck : Statement .openTruck := of_code rfl (by decide) (by decide)
theorem dump : Statement .dump := of_code rfl (by decide) (by decide)
theorem openWalkin : Statement .openWalkin := of_code rfl (by decide) (by decide)
theorem addBin : Statement .addBin := of_code rfl (by decide) (by decide)
theorem closeWeighing : Statement .closeWeighing := of_code rfl (by decide) (by decide)
theorem deduct : Statement .deduct := of_code rfl (by decide) (by decide)
theorem setSeller : Statement .setSeller := of_code rfl (by decide) (by decide)
theorem setPlate : Statement .setPlate := of_code rfl (by decide) (by decide)
theorem void : Statement .void := of_code rfl (by decide) (by decide)
theorem getTicket : Statement .getTicket := of_code rfl (by decide) (by decide)
theorem listTickets : Statement .listTickets := of_code rfl (by decide) (by decide)
theorem readScale : Statement .readScale := of_code rfl (by decide) (by decide)
theorem clearScaleFault : Statement .clearScaleFault := of_code rfl (by decide) (by decide)
theorem setGrade : Statement .setGrade := of_code rfl (by decide) (by decide)
theorem switchPrices : Statement .switchPrices := of_code rfl (by decide) (by decide)
theorem getGrade : Statement .getGrade := of_code rfl (by decide) (by decide)
theorem setContainer : Statement .setContainer := of_code rfl (by decide) (by decide)
theorem reprice : Statement .reprice := of_code rfl (by decide) (by decide)
theorem review : Statement .review := of_code rfl (by decide) (by decide)
theorem release : Statement .release := of_code rfl (by decide) (by decide)
theorem pay : Statement .pay := of_code rfl (by decide) (by decide)
theorem drawerKick : Statement .drawerKick := of_code rfl (by decide) (by decide)
theorem getTally : Statement .getTally := of_code rfl (by decide) (by decide)
theorem journalPeek : Statement .journalPeek := of_code rfl (by decide) (by decide)
theorem journalPop : Statement .journalPop := of_code rfl (by decide) (by decide)
theorem getTotals : Statement .getTotals := of_code rfl (by decide) (by decide)
theorem dayClose : Statement .dayClose := of_code rfl (by decide) (by decide)
theorem reprint : Statement .reprint := of_code rfl (by decide) (by decide)
theorem jobOpen : Statement .jobOpen := of_code rfl (by decide) (by decide)
theorem jobWrite : Statement .jobWrite := of_code rfl (by decide) (by decide)
theorem jobSubmit : Statement .jobSubmit := of_code rfl (by decide) (by decide)
theorem jobClose : Statement .jobClose := of_code rfl (by decide) (by decide)
theorem jobCancel : Statement .jobCancel := of_code rfl (by decide) (by decide)
theorem jobStatus : Statement .jobStatus := of_code rfl (by decide) (by decide)
theorem jobRelease : Statement .jobRelease := of_code rfl (by decide) (by decide)
theorem printerResume : Statement .printerResume := of_code rfl (by decide) (by decide)
theorem printerFlush : Statement .printerFlush := of_code rfl (by decide) (by decide)
theorem printerRedirect : Statement .printerRedirect := of_code rfl (by decide) (by decide)
theorem printerStatus : Statement .printerStatus := of_code rfl (by decide) (by decide)
theorem setParam : Statement .setParam := of_code rfl (by decide) (by decide)
theorem getParam : Statement .getParam := of_code rfl (by decide) (by decide)
theorem saveSettings : Statement .saveSettings := of_code rfl (by decide) (by decide)
theorem setNextNumber : Statement .setNextNumber := of_code rfl (by decide) (by decide)
theorem setClock : Statement .setClock := of_code rfl (by decide) (by decide)
theorem restart : Statement .restart := of_code rfl (by decide) (by decide)
theorem coldClear : Statement .coldClear := of_code rfl (by decide) (by decide)
theorem portByteReceived (x0 : Port) (x1 : Byte) : Statement (.portByteReceived x0 x1) := of_event rfl
theorem portGapExpiry (x0 : Port) : Statement (.portGapExpiry x0) := of_event rfl
theorem responseSent (x0 : Port) : Statement (.responseSent x0) := of_event rfl
theorem scaleByteReceived (x0 : Chan) (x1 : Byte) : Statement (.scaleByteReceived x0 x1) := of_event rfl
theorem scaleGapExpiry (x0 : Chan) : Statement (.scaleGapExpiry x0) := of_event rfl
theorem freshnessExpiry (x0 : Chan) : Statement (.freshnessExpiry x0) := of_event rfl
theorem beamLevelChange (x0 : Bridge) (x1 : BeamEnd) (x2 : BeamLevel) : Statement (.beamLevelChange x0 x1 x2) := of_event rfl
theorem debounceExpiry (x0 : Bridge) (x1 : BeamEnd) : Statement (.debounceExpiry x0 x1) := of_event rfl
theorem captureWindowExpiry (x0 : Chan) : Statement (.captureWindowExpiry x0) := of_event rfl
theorem holdTimerExpiry (x0 : Slot) : Statement (.holdTimerExpiry x0) := of_event rfl
theorem stallTimerExpiry (x0 : JobNo) : Statement (.stallTimerExpiry x0) := of_event rfl
theorem printerFrameEnd (x0 : Printer) (x1 : Answer) : Statement (.printerFrameEnd x0 x1) := of_event rfl
theorem backoffExpiry (x0 : Printer) : Statement (.backoffExpiry x0) := of_event rfl
theorem clockLineLow (x0 : Printer) (x1 : Nat) : Statement (.clockLineLow x0 x1) := of_event rfl
theorem clockLineRelease (x0 : Printer) : Statement (.clockLineRelease x0) := of_event rfl
theorem inhibitTimerExpiry (x0 : Printer) : Statement (.inhibitTimerExpiry x0) := of_event rfl
theorem drawerPhaseExpiry (x0 : Printer) : Statement (.drawerPhaseExpiry x0) := of_event rfl
theorem saveCompletion (x0 : Settings) : Statement (.saveCompletion x0) := of_event rfl
theorem clockSecond : Statement .clockSecond := of_event rfl
theorem powerOn : Statement .powerOn := of_event rfl
theorem resetLine : Statement .resetLine := of_event rfl
theorem restartWarmStart : Statement .restartWarmStart := of_event rfl
theorem coldClearColdStart : Statement .coldClearColdStart := of_event rfl
theorem resetLineRelease : Statement .resetLineRelease := of_event rfl
theorem lossOfPower (x0 : Bool) (x1 : Bool) : Statement (.lossOfPower x0 x1) := of_event rfl

end Sys2Proof.Laws.RequestCode
end

