-- ==== Sys2Proof/WellFormed.lean ====
section
/-! DEFINITION. Well-formed commands: the operands a command's type does not already bound. -/

namespace Sys2Proof

/-- A frame has the periods 1..13 (R153). -/
def WellFormed.period (n : Nat) : Bool := 1 ≤ n && n ≤ 13

/-- The operand ranges the types leave open: the period of CLOCK_LINE_LOW. -/
def WellFormed : Instr → Bool
  | .clockLineLow _ n => WellFormed.period n
  | _ => true

end Sys2Proof
end

