-- ==== Sys2Proof/Tests/Slice0.lean ====
section
/-! SUPPORT. Tests: ill-formed operands, the spec's worked examples, one step of commands, and for each statement with
hypotheses a state and operands that meet them. -/

namespace Sys2Proof.Tests

open Sys2Proof.Machine

set_option Elab.async false

/-! ### Well-formed commands -/

theorem test_period_zero_refused : WellFormed (.clockLineLow 0 0) = false := by decide

theorem test_period_fourteen_refused : WellFormed (.clockLineLow 2 14) = false := by decide

theorem test_periods_one_and_thirteen :
    WellFormed (.clockLineLow 0 1) = true ∧ WellFormed (.clockLineLow 1 13) = true := by decide

/-- The rows of the table give no bits, so no word spells a command. -/
theorem test_no_word_is_a_command : decodeTableWord 8 1 = none ∧ State.reset.withFetchWord 8 1 = State.reset :=
  ⟨rfl, rfl⟩

/-! ### The spec's worked examples -/

/-- R84: the check value of "123456789" lies in bucket 10; "ab12" folds to "AB12" (R84). -/
theorem test_tally_bucket : tallyHash (ascii "123456789") = 0x29B1 ∧ tallyBucket (ascii "123456789") = 10 ∧
    (ascii "ab12").map foldUpper = ascii "AB12" := by decide +kernel

/-- R6: the worked roundings. -/
theorem test_rounding : roundWeight 200 169340 = 169400 ∧ roundWeight 200 169250 = 169200 ∧
    roundWeight 200 169300 = 169400 ∧ roundWeight 200 (-100) = -200 ∧ roundWeight 200 (-50) = 0 ∧
    roundWeight 5 1237 = 1235 ∧ roundWeight 5 1238 = 1240 := by decide

/-- R74: the table of auto deductions. -/
theorem test_auto_deduction : autoDeduction 1 1 = 1 ∧ autoDeduction 49 20 = 1 ∧ autoDeduction 50 20 = 1 ∧
    autoDeduction 51 20 = 2 ∧ autoDeduction 74600 20 = 1492 ∧ autoDeduction 18600 0 = 0 ∧
    autoDeduction 1000000 500 = 500000 ∧ autoDeduction 0 500 = 0 := by decide

/-- R82: the table of cash figures. -/
theorem test_cash_figure : cashAmount 795762 5 = 795760 ∧ cashAmount 795762 100 = 795700 ∧ cashAmount 8437 5 = 8435 ∧
    cashAmount 8437 50 = 8400 ∧ cashRounding 40 50 = 40 ∧ cashAmount 40 50 = 0 ∧ cashAmount 0 20 = 0 := by decide

/-- R181: a cash step of 7 becomes 5, and a division of 300 becomes 200. -/
theorem test_fitted_values : NumericItem.fit 7 .cashStep = 5 ∧ ChannelItem.fit 300 .division = 200 ∧
    NumericItem.fit 255 .drawerOn = 250 ∧ NumericItem.fit 19 .drawerOff = 10 := by decide

/-- 10.9.5: a stable reading of 169 210 hg, its check characters 'E' and '1'; one digit changed makes it bad. -/
theorem test_scale_message :
    judgeMessage (ascii "S+0169210E1") 0x0D = some (.stable, 169210) ∧ judgeMessage (ascii "S+0169211E1") 0x0D = none ∧
      judgeMessage (ascii "S+0169210e1") 0x0D = none := by decide

/-- 10.9.1: GET_EVENTS with TAG 5. -/
theorem test_request_frame : requestFrame 5 0x01 [] = [0xC3, 0x02, 0x05, 0x01, 0xF8] := by decide

/-- 4.6: the bank of the worked ticket. -/
def worked : Settings :=
  { factorySettings with
    active := (factorySettings.active.set 2 ⟨ascii "COPPER MIX  ", some 3480, 0, false, false⟩).set 6
      ⟨ascii "HMS 1       ", some 215, 20, false, false⟩
    epoch := 12, receiptCopies := 2
    headers := #v[some (ascii "RIVERSIDE METALS"), some (ascii "SCALE HOUSE 2"), none, none]
    footers := #v[some (ascii "THANK YOU"), none] }

/-- 4.6: line 1 of ticket 40512, and line 2 before and after DEDUCT. -/
theorem test_worked_lines :
    newLine worked 6 74600 = ⟨6, 74600, 1492, 0, 73108, some 215, 12, 157182, false, false, false, false⟩ ∧
      (newLine worked 2 18600).amount = 647280 ∧ ((newLine worked 2 18600).deduct 250).payable = 18350 ∧
      ((newLine worked 2 18600).deduct 250).amount = 638580 := by decide +kernel

/-- 7.10: the record of ticket 40512. -/
def workedRecord : CloseRecord :=
  { day := 214, number := 40512, closing := .paid .cash 795760 2, closingPort := 3
    closeTime := some ⟨29870, ascii "14.05.24"⟩, kind := .truck, openedBy := 1, openedAt := some 27845
    seller := some (ascii "123456789"), plate := some (ascii "KX 4471")
    weighings := [⟨1, .gross, 0, 243800, some 27845, none⟩, ⟨2, .dump, 0, 169200, some 28410, none⟩,
      ⟨3, .tare, 1, 150600, some 29102, none⟩]
    lines := [newLine worked 6 74600, (newLine worked 2 18600).deduct 250], total := 795762, totalClamped := false }

/-- 7.10: the first ten lines of the receipt. -/
theorem test_receipt_upper : (documentLines worked false workedRecord).take 10 =
    [(ascii "        RIVERSIDE METALS        ", false), (ascii "         SCALE HOUSE 2          ", false),
      (ascii "TICKET    40512 TRUCK  DAY   214", false), (ascii "14.05.24    SP3         08:17:50", false),
      (ascii "SELLER 123456789                ", false), (ascii "PLATE  KX 4471                  ", false),
      (ascii "1 GROSS SC0  24380.0 KG 07:44:05", false), (ascii "2 DUMP  SC0  16920.0 KG 07:53:30", false),
      (ascii "3 TARE  SC1  15060.0 KG 08:05:02", false), (ascii "1 07 HMS 1           7460.0 KG  ", false)] := by
  decide

/-- 7.10: the other ten. -/
theorem test_receipt_lower : (documentLines worked false workedRecord).drop 10 =
    [(ascii "  LESS AUTO    149.2 MAN     0.0", false), (ascii "    7310.8 X   0.215     1571.82", false),
      (ascii "2 03 COPPER MIX      1860.0 KG  ", false), (ascii "  LESS AUTO      0.0 MAN    25.0", false),
      (ascii "    1835.0 X   3.480     6385.80", false), (ascii "--------------------------------", false),
      (ascii "TOTAL                    7957.62", true), (ascii "PAID CASH                7957.60", false),
      (ascii "ROUNDING                    0.02", false), (ascii "           THANK YOU            ", false)] := by
  decide

/-- 7.10.1: the DUPLICATE line, and the end of a void slip. -/
theorem test_duplicate_and_void_lines :
    duplicateLine = ascii "       *** DUPLICATE ***        " ∧
      ((documentLines worked false { workedRecord with closing := .voided 4, total := 157182 }).drop 16).map (·.1) =
        [ascii "TOTAL                    1571.82", ascii "VOID REASON  4                  ",
          ascii "           THANK YOU            "] := by decide

/-! ### Whether a state keeps the law of the spool, by evaluation -/

@[reducible] def jobDecidable (j : Job) : Decidable j.lawful := by unfold Job.lawful; infer_instance

@[reducible] def engineDecidable (e : Engine) : Decidable e.lawful := by unfold Engine.lawful; infer_instance

/-- The clauses of the engines' law that speak of one printer's engine and the head of its queue. -/
def engineMatches (s : State) (p : Printer) : Bool :=
  (match (s.printers[p]).job with
    | none => true
    | some jn => (s.headJob p).any fun x => x.1 == jn && (x.2.state == .printing || x.2.state == .stalled)) &&
  (match s.headJob p with
    | none => true
    | some (jn, j) =>
      decide (((j.state = .printing ∨ j.state = .stalled) → (s.printers[p]).job = some jn) ∧
        (j.state = .halted → (s.printers[p]).state = .halted) ∧
        (j.state = .stalled → j.endPending = none → (s.printers[p]).pendingByte = none) ∧
        ((s.printers[p]).state = .idle → j.startable = false))) &&
  (match (s.printers[p]).job.bind fun jn => s.jobs[jn], (s.printers[p]).position with
    | some j, some ⟨.stored n, _⟩ => decide (n = j.sent ∧ j.sent < j.written)
    | _, _ => true) &&
  decide (((s.printers[p]).state = .idle → s.settings.enables[p] = true) ∧
    ((s.printers[p]).state = .off → s.settings.enables[p] = false) ∧
    (s.taking = true → (s.printers[p]).state = .inhibited → (s.printers[p]).clockLow = true))

theorem jobs_lawful {s : State} (h : ∀ jn : JobNo, ∀ j ∈ s.jobs[jn], @decide _ (jobDecidable j) = true) : JobLaw s :=
  fun jn j e => @of_decide_eq_true _ (jobDecidable j) (h jn j e)

theorem queues_lawful {s : State}
    (h : (∀ p : Printer, (s.queues[p]).Nodup) ∧
      (∀ p : Printer, ∀ jn ∈ s.queues[p], (s.jobs[jn].any fun j => j.printer == p && j.state.queues) = true) ∧
      (∀ jn : JobNo, ∀ j ∈ s.jobs[jn], j.state.queues = true → jn ∈ s.queues[j.printer]) ∧
      ∀ p : Printer, ∀ jn ∈ (s.queues[p]).tail, ∀ j ∈ s.jobs[jn], j.state = .queued) : QueueLaw s := by
  refine ⟨h.1, fun p jn m => ?_, fun jn j e => h.2.2.1 jn j e, fun p jn j m e => h.2.2.2 p jn m j e⟩
  have := h.2.1 p jn m
  cases e : s.jobs[jn] with
  | none => simp [e] at this
  | some j =>
    rw [e] at this
    simp only [Option.any_some, Bool.and_eq_true, beq_iff_eq] at this
    exact ⟨j, rfl, this⟩

theorem engines_lawful {s : State}
    (h : ∀ p : Printer, @decide _ (engineDecidable (s.printers[p])) = true ∧ engineMatches s p = true) : EngineLaw s := by
  intro p
  obtain ⟨h1, h2⟩ := h p
  simp only [engineMatches, Bool.and_eq_true, decide_eq_true_eq] at h2
  obtain ⟨⟨⟨a, b⟩, c⟩, d⟩ := h2
  refine ⟨@of_decide_eq_true _ (engineDecidable _) h1, fun jn e => ?_, fun jn j e => ?_, fun jn j n k e e' f => ?_, d⟩
  · rw [e] at a
    cases x : s.headJob p with
    | none => simp [x] at a
    | some y =>
      obtain ⟨jn', j⟩ := y
      simp [x] at a
      exact ⟨j, by rw [a.1], a.2⟩
  · rw [e] at b
    exact of_decide_eq_true b
  · rw [e, f] at c
    simp only [Option.bind_some] at c
    rw [e'] at c
    simpa using c

theorem spool_lawful {s : State} (hp : PageLaw s)
    (hj : ∀ jn : JobNo, ∀ j ∈ s.jobs[jn], @decide _ (jobDecidable j) = true)
    (hq : (∀ p : Printer, (s.queues[p]).Nodup) ∧
      (∀ p : Printer, ∀ jn ∈ s.queues[p], (s.jobs[jn].any fun j => j.printer == p && j.state.queues) = true) ∧
      (∀ jn : JobNo, ∀ j ∈ s.jobs[jn], j.state.queues = true → jn ∈ s.queues[j.printer]) ∧
      ∀ p : Printer, ∀ jn ∈ (s.queues[p]).tail, ∀ j ∈ s.jobs[jn], j.state = .queued)
    (he : ∀ p : Printer, @decide _ (engineDecidable (s.printers[p])) = true ∧ engineMatches s p = true) : SpoolLaw s :=
  ⟨hp, jobs_lawful hj, queues_lawful hq, engines_lawful he⟩

/-! ### A working day -/

/-- A walk-in ticket in COUNTER. -/
def walkin (n : Nat) : Ticket :=
  { number := some n, kind := .walkin, state := .counter, openedBy := 1, openedAt := none, seller := none, plate := none
    weighings := [], lines := [], total := 0, totalClamped := false, marker := none, window := none }

/-- The same with one bin of 1 000 hg of grade 3. -/
def oneBin (n : Nat) : Ticket :=
  { walkin n with
    weighings := [⟨1, .bin, 2, 1000, none, some 0⟩], lines := [newLine worked 2 1000], total := 34800 }

def weighed (n : Nat) : Ticket := { oneBin n with state := .weighed }

/-- At the window of SP3, its seller named. -/
def held (n : Nat) : Ticket :=
  { oneBin n with state := .atWindow, seller := some [0x41], window := some { holder := 3, hold := 300 } }

def truck (n : Nat) : Ticket :=
  { walkin n with kind := .truck, state := .weighing, weighings := [⟨1, .gross, 0, 243800, none, none⟩] }

/-- A dump of grade 7 in flight on SC1, asked for by SP2 with TAG 9. -/
def dumping (n : Nat) : Ticket :=
  { truck n with marker := some { purpose := .dump 6 false, channel := 1, port := 2, tag := 9 } }

def closedRecord (n : Nat) : CloseRecord :=
  { day := 1, number := n, closing := .voided 1, closingPort := 0, closeTime := none, kind := .walkin, openedBy := 1
    openedAt := none, seller := none, plate := none, weighings := [], lines := [], total := 0, totalClamped := false }

def writingJob : Job :=
  { owner := .port 1, printer := 0, ticket := none, pages := [0], written := 2, closed := false, copies := 1
    currentCopy := 1, sent := 0, threshold := 0, state := .writing, endPending := none, doneStatus := none, stall := none }

def printingJob : Job := { writingJob with owner := .port 0, printer := 1, pages := [1], closed := true, state := .printing }

def stalledJob : Job :=
  { writingJob with owner := .port 2, printer := 2, pages := [2], sent := 2, state := .stalled, stall := some 20 }

def queuedJob : Job := { writingJob with owner := .composer, printer := 2, pages := [3], closed := true, state := .queued }

def doneJob : Job := { writingJob with owner := .port 3, pages := [4], state := .done, doneStatus := some .printed }

/-- Six tickets, one close record, and five jobs: one WRITING, one PRINTING on printer 1, on printer 2 one STALLED with
one QUEUED behind it, and one DONE. -/
def yard : State :=
  { State.reset with
    pending := [.clockSecond], settings := worked, staged := worked.active, counter := .valid 50
    numberWord := .valid 50, clock := some ⟨86399, List.replicate 8 0x31⟩
    ports := State.reset.ports.set 2 { State.reset.ports[2] with
      request := some ⟨9, 0x11, enc4 7 ++ enc1 1 ++ enc1 7 ++ encFlag false, .deferred⟩ }
    channels := (State.reset.channels.set 0
        { State.reset.channels[0] with state := .stable, ref := 243800, run := 5, freshness := some 500 }).set 1
      { State.reset.channels[1] with
        state := .moving, freshness := some 500, capture := some { kind := .dump, slot := 5, window := 3 } }
    slots := ((((((Vector.replicate 48 none).set 0 (some (truck 1))).set 1 (some (walkin 2))).set 2
      (some (oneBin 3))).set 3 (some (weighed 4))).set 4 (some (held 5))).set 5 (some (dumping 7))
    journal := [.close (closedRecord 6)]
    freePages := (List.finRange 96).drop 5
    jobs := (((((Vector.replicate 32 none).set 0 (some writingJob)).set 1 (some printingJob)).set 2
      (some stalledJob)).set 3 (some queuedJob)).set 4 (some doneJob)
    queues := #v[[], [1], [2, 3]]
    printers := #v[.start true false,
      { Engine.start true false with
        state := .sending, job := some 1, position := some ⟨.stored 0, 0⟩, pendingByte := some ⟨false, 0⟩
        frame := some 1 },
      { Engine.start true false with state := .sending, job := some 2 }] }

theorem all_some {α : Type} {n : Nat} {v : Vector (Option α) n} {P : Fin n → α → Prop}
    (h : ∀ k : Fin n, ∀ x ∈ v[k], P k x) : ∀ (k : Fin n) (x : α), v[k] = some x → P k x :=
  fun k x e => h k x e

theorem yard_slot : ∀ (i : Slot) (t : Ticket), yard.slots[i] = some t →
    (i, t) ∈ [(0, truck 1), (1, walkin 2), (2, oneBin 3), (3, weighed 4), (4, held 5), (5, dumping 7)] :=
  all_some (by decide +kernel)

theorem yard_job : ∀ (jn : JobNo) (j : Job), yard.jobs[jn] = some j →
    (jn, j) ∈ [(0, writingJob), (1, printingJob), (2, stalledJob), (3, queuedJob), (4, doneJob)] :=
  all_some (by decide +kernel)

theorem yard_marker : ∀ (i : Slot) (m : Marker), yard.marks i m → i = 5 ∧ m = ⟨.dump 6 false, 1, 2, 9⟩ := by
  intro i m
  unfold State.marks
  revert i m
  have h : ∀ i : Slot, ∀ m ∈ yard.slots[i].bind (fun t => t.marker), i = 5 ∧ m = ⟨.dump 6 false, 1, 2, 9⟩ := by
    decide +kernel
  exact fun i m e => h i m e

theorem yard_memory : MemoryLaw yard := by unfold MemoryLaw; decide +kernel

theorem yard_pages : PageLaw yard := by unfold PageLaw; decide +kernel

theorem yard_journal : JournalLaw yard := by unfold JournalLaw; decide +kernel

theorem yard_totals : TotalsLaw yard := by unfold TotalsLaw Total.lawful; decide +kernel

theorem yard_tally : TallyLaw yard := by
  have h : ∀ (b : Fin 64) (w : Fin 4), yard.tally[b][w] = none := by decide +kernel
  constructor <;> intros <;> simp_all

theorem worked_lawful : Settings.lawful worked := by
  unfold Settings.lawful ChannelSettings.lawful GradeEntry.lawful drawerTimeLawful
  repeat' apply And.intro
  all_goals decide +kernel

theorem yard_settings : SettingsLaw yard ∧ SaveLaw yard := by
  refine ⟨⟨worked_lawful, fun h => absurd h (by decide), ?_, by decide +kernel⟩, fun w h => by cases h⟩
  unfold GradeEntry.lawful
  decide +kernel

theorem yard_numbers : NumberLaw yard := by
  have h : yard.heldNumbers = [1, 2, 3, 4, 5, 7, 6] := by decide +kernel
  have hc : yard.counter = .valid 50 ∧ yard.numberWord = .valid 50 := ⟨rfl, rfl⟩
  unfold NumberLaw
  rw [h, hc.1, hc.2]
  simp only [Counter.inRange, Counter.passed]
  decide

theorem yard_channels : ChannelLaw yard := by unfold ChannelLaw Channel.lawful; decide +kernel

theorem yard_tickets : TicketLaw yard := by
  intro i t h
  have := yard_slot i t h
  simp only [List.mem_cons, Prod.mk.injEq, List.not_mem_nil, or_false] at this
  rcases this with ⟨-, rfl⟩ | ⟨-, rfl⟩ | ⟨-, rfl⟩ | ⟨-, rfl⟩ | ⟨-, rfl⟩ | ⟨-, rfl⟩ <;>
    simp [Ticket.lawful, Ticket.stateLaw, Ticket.weighingCount, Line.lawful, truck, walkin, oneBin, weighed, held,
      dumping] <;> decide +kernel

theorem yard_requests : RequestLaw yard := by
  refine ⟨⟨?_, ?_⟩, ⟨?_, ?_⟩, ?_, ⟨?_, ?_⟩, yard_tickets, ?_⟩
  · unfold StationPort.lawful
    have h : ∀ p : Port, ∀ q, yard.ports[p].request = some q → p = 2 ∧ q.code = 0x11 := by
      have : ∀ p : Port, ∀ q ∈ yard.ports[p].request, p = 2 ∧ q.code = 0x11 := by decide +kernel
      exact fun p q e => this p q e
    intro p
    refine ⟨?_, ?_, ?_, ?_, ?_, ?_, ?_, fun q e => ?_⟩
    · revert p; decide +kernel
    · have : ∀ p : Port, yard.ports[p].output.length ≤ 3 := by decide +kernel
      exact fun _ _ _ => this p
    · revert p; decide +kernel
    · revert p; decide +kernel
    · revert p; decide +kernel
    · revert p; decide +kernel
    · revert p; decide +kernel
    · obtain ⟨rfl, hq⟩ := h p q e
      rw [hq]
      decide +kernel
  · exact fun p h => absurd h (by decide +revert +kernel)
  · intro i m h
    obtain ⟨rfl, rfl⟩ := yard_marker i m h
    decide +kernel
  · intro i k m n h h' _
    rw [(yard_marker i m h).1, (yard_marker k n h').1]
  · have h : ∀ c : Chan, ∀ x ∈ yard.channels[c].capture, c = 1 ∧ x = ⟨.dump, 5, 3⟩ := by decide +kernel
    intro c x e
    obtain ⟨rfl, rfl⟩ := h c x e
    decide +kernel
  · exact fun w h => by cases h
  · have h : ∀ p : Port, ∀ q ∈ yard.ports[p].request, p = 2 := by decide +kernel
    intro p q _ e _
    rw [h p q e]
    exact .inl ⟨5, ⟨.dump 6 false, 1, 2, 9⟩, by unfold State.marks; decide +kernel, rfl⟩
  · have h : ∀ i : Slot, ∀ w ∈ yard.slots[i].bind (fun t => t.window), yard.ports[w.holder].role = .payout := by
      decide +kernel
    exact fun i w e => h i w e

theorem yard_arbiter : ArbiterLaw yard := fun _ _ => by decide +kernel

theorem yard_spool : SpoolLaw yard :=
  spool_lawful yard_pages (by decide +kernel) (by decide +kernel) (by decide +kernel)

/-! ### States and operands that meet the hypotheses of the statements -/

/-- A state in which port `p` is granted a request with this data, TAG 7. -/
def granted (s : State) (p : Port) (code : Byte) (data : List Byte) : State :=
  { s with
    ports := s.ports.set p { s.ports[p] with request := some ⟨7, code, data, .waiting⟩ }
    requestEngine := some p, pointer := p }

/-- Port `p` is granted this request in a state of which `Q` holds. -/
def Meets (s : State) (p : Port) (code : Byte) (data : List Byte) (Q : State → Prop) : Prop :=
  GrantedTo (granted s p code data) p 7 code data ∧ Q (granted s p code data)

theorem meets {s : State} {p : Port} {code : Byte} {data : List Byte} {Q : State → Prop} (h : s.taking = true)
    (q : Q (granted s p code data)) : Meets s p code data Q :=
  ⟨⟨h, rfl, by simp [granted]⟩, q⟩

theorem ticket_at {s : State} {n : Nat} {i : Slot} {t : Ticket}
    (h : (1 ≤ n ∧ n ≤ Config.maxTicketNumber ∧ s.slots[i] = some t ∧ t.number = some n) ∧
      ∀ k : Slot, ∀ u ∈ s.slots[k], u.number = some n → k = i) : TicketAt s n i t :=
  ⟨h.1.1, h.1.2.1, h.1.2.2.1, h.1.2.2.2, fun k u e => h.2 k u e⟩

theorem no_ticket {s : State} {n : Nat}
    (h : (1 ≤ n ∧ n ≤ Config.maxTicketNumber) ∧ ∀ k : Slot, ∀ u ∈ s.slots[k], u.number ≠ some n) : NoTicket s n :=
  ⟨h.1.1, h.1.2, fun k u e => h.2 k u e⟩

theorem granted_requests : RequestLaw (granted yard 0 0x01 []) := by
  have y := yard_requests
  refine ⟨⟨?_, ?_⟩, ⟨?_, y.2.1.2⟩, y.2.2.1, ⟨(fun w h => by cases h), ?_⟩, y.2.2.2.2.1, ?_⟩
  · have h : ∀ p : Port, ∀ q ∈ (granted yard 0 0x01 []).ports[p].request,
        ((rolesFor q.code).any fun rs => rs.contains (granted yard 0 0x01 []).ports[p].role) = true ∧
          (q.phase = .deferred → p = 2) := by decide +kernel
    intro p
    refine ⟨?_, fun q e _ => ?_, ?_, ?_, ?_, ?_, ?_, fun q e => (h p q e).1⟩
    · revert p; decide +kernel
    · have : ∀ p : Port, (granted yard 0 0x01 []).ports[p].output.length ≤ 3 := by decide +kernel
      exact this p
    all_goals revert p; decide +kernel
  · decide +kernel
  · intro i m e
    obtain ⟨rfl, rfl⟩ := yard_marker i m e
    decide +kernel
  · have h : ∀ p : Port, ∀ q ∈ (granted yard 0 0x01 []).ports[p].request, q.phase = .deferred → p = 2 := by
      decide +kernel
    intro p q _ e d
    rw [h p q e d]
    exact .inl ⟨5, ⟨.dump 6 false, 1, 2, 9⟩, by unfold State.marks; decide +kernel, rfl⟩
  · have h : ∀ i : Slot, ∀ w ∈ yard.slots[i].bind (fun t => t.window),
        (granted yard 0 0x01 []).ports[w.holder].role = .payout := by decide +kernel
    exact fun i w e => h i w e

theorem witness_StepRunsFrontCommand : yard.pending = .clockSecond :: [] ∧ State.reset.pending = [] := ⟨rfl, rfl⟩

/-- The invariants: SpoolMemoryStaysLawful, BooksStayLawful, SettingsStayInRange, TicketNumbersStayUnique,
ChannelsStayLawful, RequestsStayMatched, ArbiterNeverIdlesOnWork, SpoolStaysMatched. -/
theorem witness_invariants :
    (PageLaw yard ∧ MemoryLaw yard ∧ JournalLaw yard ∧ TotalsLaw yard ∧ TallyLaw yard ∧ SettingsLaw yard ∧ SaveLaw yard ∧
      NumberLaw yard ∧ ChannelLaw yard ∧ RequestLaw yard ∧ ArbiterLaw yard ∧ SpoolLaw yard) ∧
      ∃ t, step yard = .next t ∧ t.clock = some ⟨0, List.replicate 8 0x31⟩ :=
  ⟨⟨yard_pages, yard_memory, yard_journal, yard_totals, yard_tally, yard_settings.1, yard_settings.2, yard_numbers,
    yard_channels, yard_requests, yard_arbiter, yard_spool⟩, _, rfl, rfl⟩

theorem witness_CommandsThatCannotOccurChangeNothing :
    (requestCode .pay = some 0x32 ∧ ∀ p tag data, ¬ GrantedTo yard p tag 0x32 data) ∧
      ({ yard with powered := false } : State).taking = false ∧ ({ yard with resetDriven := true } : State).taking = false :=
  ⟨⟨rfl, fun p _ _ h => by cases h.2.1⟩, rfl, rfl⟩

theorem witness_RefusedRequestsChangeNothing : requestCode .pay = some 0x32 ∧
    Meets yard 3 0x32 (enc4 4 ++ Method.cash.enc) fun s => ∃ t, exec .pay s = .next t ∧
      t.ports[(3 : Port)].output = s.ports[(3 : Port)].output ++ [⟨7, 0x32, .wrongState, []⟩] :=
  ⟨rfl, meets rfl ⟨_, rfl, by decide +kernel⟩⟩

theorem witness_GrantedRequestsAreAnsweredOnce : requestCode .getEvents = some 0x01 ∧ Meets yard 0 0x01 [] RequestLaw :=
  ⟨rfl, meets rfl granted_requests⟩

theorem witness_RequestsOfFixedLengthRefuseOtherData :
    Meets yard 0 0x01 [0] (fun _ => True) ∧ Meets yard 3 0x32 (enc4 5) (fun _ => True) ∧
      [(0 : Byte)].length ≠ 0 ∧ (enc4 5).length ≠ 5 :=
  ⟨meets rfl trivial, meets rfl trivial, by decide, by decide⟩

theorem witness_StoresAndJournalChangeOnlyByTheirCommands :
    (∃ t, exec .clockSecond yard = .next t) ∧
      Instr.clockSecond ∉ [Instr.setParam, .switchPrices, .setContainer, .setAlias, .powerOn, .resetLine,
        .restartWarmStart, .coldClearColdStart] ∧
      (∀ x, Instr.clockSecond ≠ .saveCompletion x) ∧ (∀ a b, Instr.clockSecond ≠ .lossOfPower a b) ∧
      ∀ c b, Instr.clockSecond ≠ .scaleByteReceived c b :=
  ⟨⟨_, rfl⟩, by decide, by simp, by simp, by simp⟩

theorem witness_OpenTicketsOnlyGrow : TicketLaw yard ∧ ∃ t, exec .clockSecond yard = .next t ∧
    yard.slots[(2 : Slot)] = some (oneBin 3) ∧ t.slots[(2 : Slot)] = some (oneBin 3) ∧ (oneBin 3).number ≠ none :=
  ⟨yard_tickets, _, rfl, by decide +kernel⟩

theorem witness_TicketsAndScalesAreRead :
    Meets yard 0 0x1A (enc1 47) (fun _ => True) ∧ Meets yard 0 0x1A (enc1 48) (fun _ => True) ∧
      Meets yard 0 0x20 (enc1 2) (fun _ => True) ∧ Meets yard 0 0x20 (enc1 3) (fun _ => True) ∧
      Meets yard 0 0x19 (enc4 5 ++ enc1 0) (fun s => TicketAt s 5 4 (held 5) ∧ (held 5).window.isSome = true) ∧
      Meets yard 0 0x19 (enc4 99999999 ++ enc1 3) (fun s => NoTicket s 99999999) ∧
      Meets yard 0 0x19 (enc4 5 ++ enc1 4) (fun _ => True) ∧ Meets yard 0 0x19 (enc4 100000000 ++ enc1 0) fun _ => True :=
  ⟨meets rfl trivial, meets rfl trivial, meets rfl trivial, meets rfl trivial,
    meets rfl ⟨ticket_at (by decide +kernel), by decide⟩, meets rfl (no_ticket (by decide +kernel)), meets rfl trivial,
    meets rfl trivial⟩

theorem witness_GradesTalliesAndBooksAreRead :
    Meets yard 0 0x38 (enc1 3) (fun s => s.journal = .close (closedRecord 6) :: []) ∧
      Meets State.reset 0 0x38 (enc1 0) (fun s => s.journal = []) ∧ Meets yard 0 0x38 (enc1 4) (fun _ => True) ∧
      Meets yard 0 0x3A (enc1 0) (fun _ => True) ∧ Meets yard 0 0x3A (enc1 (63 : GradeIx).number) (fun _ => True) ∧
      Meets yard 0 0x3A (enc1 65) (fun _ => True) ∧ Meets yard 0 0x2A (encFlag true ++ enc1 (63 : GradeIx).number) (fun _ => True) ∧
      Meets yard 0 0x2A (enc1 2 ++ enc1 1) (fun _ => True) ∧ Meets yard 0 0x2A (enc1 0 ++ enc1 65) (fun _ => True) ∧
      Meets yard 0 0x34 (encText (List.replicate 16 0x7E)) (fun _ => ∀ b ∈ List.replicate 16 (0x7E : Byte), printable b = true) ∧
      Meets yard 0 0x34 (encText []) (fun _ => True) ∧ Meets yard 0 0x34 (encText (List.replicate 17 0x41)) (fun _ => True) ∧
      Meets yard 0 0x34 (encText [0x7F]) fun _ => printable 0x7F = false :=
  ⟨meets rfl rfl, meets rfl rfl, meets rfl trivial, meets rfl trivial, meets rfl trivial, meets rfl trivial,
    meets rfl trivial, meets rfl trivial, meets rfl trivial, meets rfl (by decide), meets rfl trivial,
    meets rfl trivial, meets rfl (by decide)⟩

theorem witness_JobsPrintersAndSettingsAreRead :
    Meets yard 0 0x45 (enc1 31) (fun s => s.jobs[(31 : JobNo)] = none) ∧ Meets yard 0 0x45 (enc1 32) (fun _ => True) ∧
      Meets yard 0 0x45 (enc1 0) (fun s => s.jobs[(0 : JobNo)] = some writingJob) ∧
      Meets yard 0 0x4B (enc1 2) (fun _ => True) ∧ Meets yard 0 0x4B (enc1 3) (fun _ => True) ∧
      Meets yard 0 0x51 (enc1 255 ++ enc1 0) (fun s => paramItem s 255 0 = none) ∧
      Meets yard 0 0x51 (enc1 58 ++ enc1 0) fun s => paramItem s 58 0 = some [0] :=
  ⟨meets rfl (by decide +kernel), meets rfl trivial, meets rfl (by decide +kernel), meets rfl trivial, meets rfl trivial,
    meets rfl (by decide +kernel), meets rfl (by decide +kernel)⟩

theorem witness_EventSetsAreReadAckedAndMasked :
    Meets yard 0 0x01 [] (fun _ => True) ∧ Meets yard 0 0x02 (encEvents 0x07FF) (fun _ => True) ∧
      Meets yard 0 0x02 (encEvents 0x0800) (fun _ => True) ∧ Meets yard 0 0x03 (encEvents 0x07FF) (fun _ => True) ∧
      Meets yard 0 0x03 (encEvents 0x0800) (fun _ => True) ∧
      (0x07FF : EventSet) &&& ~~~(0x07FF : EventSet) = 0 ∧ (0x0800 : EventSet) &&& ~~~(0x07FF : EventSet) ≠ 0 ∧
      (yard.powered = true ∧ yard.ports[(0 : Port)].latched.getLsbD 0 = true ∧
        yard.ports[(0 : Port)].mask.getLsbD 0 = true) ∧
      ({ yard with powered := false } : State).powered = false ∧
      ((levelEvents .office 111).getLsbD 10 = false ∧ (levelEvents .office 112).getLsbD 10 = true) :=
  ⟨meets rfl trivial, meets rfl trivial, meets rfl trivial, meets rfl trivial, meets rfl trivial, by decide, by decide,
    by decide +kernel, rfl, by decide⟩

/-- A save in flight. -/
def saving : State := { yard with save := some ⟨worked, 0⟩ }

theorem witness_TariffRequestsEditTheBanks :
    let entry (g : Nat) (rate : Nat) : List Byte :=
      enc1 g ++ encText (ascii "LEAD") ++ encOpt enc4 (some 999999) ++ enc2 rate ++ encFlag false ++ encFlag true
    Meets yard 0 0x28 (entry 64 500) (fun s => s.save = none ∧ ∀ b ∈ ascii "LEAD", printable b = true) ∧
      Meets saving 0 0x28 (entry 1 0) (fun s => s.save ≠ none) ∧ Meets yard 0 0x28 (entry 65 0) (fun _ => True) ∧
      Meets yard 0 0x28 (entry 1 501) (fun _ => True) ∧
      Meets yard 0 0x29 [] (fun s => s.save = none ∧ s.settings.epoch ≤ 65535) ∧
      Meets { yard with settings := { worked with epoch := 65535 } } 0 0x29 [] (fun s => s.settings.epoch = 65535) ∧
      Meets saving 0 0x29 [] (fun s => s.save ≠ none) ∧
      Meets yard 0 0x2B (enc1 15 ++ enc4 100000) (fun s => s.save = none) ∧
      Meets saving 0 0x2B (enc1 1 ++ enc4 0) (fun s => s.save ≠ none) ∧ Meets yard 0 0x2B (enc1 0 ++ enc4 0) (fun _ => True) ∧
      Meets yard 0 0x2B (enc1 1 ++ enc4 100001) (fun _ => True) ∧
      Meets yard 0 0x04 (enc1 3 ++ enc1 3 ++ encOpt enc1 (some 2)) (fun s => s.save = none) ∧
      Meets saving 0 0x04 (enc1 0 ++ enc1 0 ++ encOpt enc1 none) (fun s => s.save ≠ none) ∧
      Meets yard 0 0x04 (enc1 4 ++ enc1 0 ++ encOpt enc1 none) (fun _ => True) ∧
      Meets yard 0 0x04 (enc1 0 ++ enc1 0 ++ encOpt enc1 (some 3)) fun _ => True :=
  ⟨meets rfl ⟨rfl, by decide⟩, meets rfl (by decide), meets rfl trivial, meets rfl trivial, meets rfl (by decide),
    meets rfl rfl, meets rfl (by decide), meets rfl rfl, meets rfl (by decide), meets rfl trivial, meets rfl trivial,
    meets rfl rfl, meets rfl (by decide), meets rfl trivial, meets rfl trivial⟩

/-- Every slot taken. -/
def fullTable : State := { yard with slots := Vector.replicate 48 (some (weighed 4)) }

theorem witness_CaptureRequestsCheckAndStart :
    (Meets yard 1 0x10 (enc1 0 ++ encText (ascii "KX 4471")) fun s => s.counter = .valid 50 ∧ LowestFreeSlot s 6 ∧
        s.channels[(0 : Chan)].capture = none ∧ s.channels[(0 : Chan)].state ≠ .fault ∧
        s.channels[(0 : Chan)].state ≠ .noSignal ∧ ∀ x ∈ ascii "KX 4471", printable x = true) ∧
      (Meets { yard with channels := State.reset.channels } 1 0x10 (enc1 1 ++ encText []) fun s =>
        s.counter = .valid 50 ∧ LowestFreeSlot s 6 ∧ s.channels[(1 : Chan)].capture = none ∧
        s.channels[(1 : Chan)].state = .noSignal) ∧
      (Meets yard 1 0x10 (enc1 2 ++ encText []) fun _ => True) ∧
      (Meets yard 1 0x10 (enc1 0 ++ encText (List.replicate 11 0x41)) fun _ => True) ∧
      (Meets { yard with counter := .exhausted } 1 0x10 (enc1 0 ++ encText []) fun s => s.counter = .exhausted) ∧
      (Meets fullTable 1 0x10 (enc1 0 ++ encText []) fun s => ∀ k : Slot, s.slots[k] ≠ none) ∧
      Meets yard 1 0x10 (enc1 1 ++ encText []) fun s => s.channels[(1 : Chan)].capture ≠ none := by
  unfold LowestFreeSlot
  exact ⟨meets rfl (by decide +kernel), meets rfl (by decide +kernel), meets rfl trivial, meets rfl trivial,
    meets rfl rfl, meets rfl (by decide +kernel), meets rfl (by decide +kernel)⟩

/-- The other two requests that start a capture. -/
theorem witness_CaptureRequestsCheckAndStart_tickets :
    (Meets yard 1 0x11 (enc4 1 ++ enc1 0 ++ enc1 7 ++ enc1 1) fun s => TicketAt s 1 0 (truck 1) ∧
        (truck 1).state = .weighing ∧ (truck 1).marker = none ∧ s.settings.active[(6 : GradeIx)].disabled = false ∧
        s.settings.active[(6 : GradeIx)].price ≠ none ∧ s.channels[(0 : Chan)].capture = none ∧
        s.channels[(0 : Chan)].state = .stable) ∧
      (Meets yard 1 0x11 (enc4 1 ++ enc1 0 ++ enc1 1 ++ enc1 0) fun s => TicketAt s 1 0 (truck 1) ∧
        s.settings.active[(0 : GradeIx)].price = none) ∧
      (Meets yard 1 0x11 (enc4 1 ++ enc1 0 ++ enc1 7 ++ enc1 2) fun _ => True) ∧
      (Meets yard 1 0x11 (enc4 7 ++ enc1 0 ++ enc1 7 ++ enc1 0) fun s => TicketAt s 7 5 (dumping 7) ∧
        (dumping 7).marker ≠ none) ∧
      (Meets yard 1 0x11 (enc4 99 ++ enc1 0 ++ enc1 64 ++ enc1 0) fun s => NoTicket s 99) ∧
      (Meets { yard with channels := yard.channels.set 2 { yard.channels[2] with state := .moving } } 1 0x13
        (enc4 2 ++ enc1 3 ++ enc1 15) fun s => TicketAt s 2 1 (walkin 2) ∧ (walkin 2).state = .counter ∧
        (walkin 2).marker = none ∧ s.settings.active[(2 : GradeIx)].disabled = false ∧
        s.settings.active[(2 : GradeIx)].price ≠ none ∧ s.channels[(2 : Chan)].capture = none ∧
        s.channels[(2 : Chan)].state ≠ .fault ∧ s.channels[(2 : Chan)].state ≠ .noSignal) ∧
      (Meets yard 1 0x13 (enc4 2 ++ enc1 3 ++ enc1 0) fun s => TicketAt s 2 1 (walkin 2) ∧
        s.channels[(2 : Chan)].capture = none ∧ s.channels[(2 : Chan)].state = .noSignal) ∧
      Meets yard 1 0x13 (enc4 2 ++ enc1 3 ++ enc1 16) fun _ => True :=
  ⟨meets rfl ⟨ticket_at (by decide +kernel), by decide +kernel⟩, meets rfl ⟨ticket_at (by decide +kernel), by decide +kernel⟩,
    meets rfl trivial, meets rfl ⟨ticket_at (by decide +kernel), by decide +kernel⟩,
    meets rfl (no_ticket (by decide +kernel)), meets rfl ⟨ticket_at (by decide +kernel), by decide +kernel⟩,
    meets rfl ⟨ticket_at (by decide +kernel), by decide +kernel⟩, meets rfl trivial⟩

theorem witness_WalkinsAreOpenedAndClosed :
    (Meets { yard with counter := .valid 99999999 } 1 0x12 [] fun s => s.counter = .valid 99999999 ∧ LowestFreeSlot s 6) ∧
      (Meets State.reset 1 0x12 [] fun s => s.counter = .invalid) ∧
      (Meets fullTable 1 0x12 [] fun s => s.counter = .valid 50 ∧ ∀ k : Slot, s.slots[k] ≠ none) ∧
      (Meets yard 1 0x14 (enc4 3) fun s => TicketAt s 3 2 (oneBin 3) ∧ (oneBin 3).state = .counter ∧
        (oneBin 3).marker = none ∧ (oneBin 3).lines ≠ []) ∧
      (Meets yard 1 0x14 (enc4 2) fun s => TicketAt s 2 1 (walkin 2) ∧ (walkin 2).lines = []) ∧
      (Meets yard 1 0x14 (enc4 4) fun s => TicketAt s 4 3 (weighed 4) ∧ (weighed 4).state = .weighed) ∧
      (Meets yard 1 0x14 (enc4 5) fun s => TicketAt s 5 4 (held 5) ∧ (held 5).state = .atWindow) ∧
      (Meets yard 1 0x14 (enc4 7) fun s => TicketAt s 7 5 (dumping 7) ∧ (dumping 7).state = .weighing ∧
        (dumping 7).marker ≠ none) ∧
      (Meets yard 1 0x14 (enc4 99999999) fun s => NoTicket s 99999999) ∧
      (Meets yard 1 0x14 (enc4 100000000) fun _ => True) ∧ Meets yard 1 0x14 (enc4 0) fun _ => True := by
  unfold LowestFreeSlot
  exact ⟨meets rfl (by decide +kernel), meets rfl rfl, meets rfl (by decide +kernel),
    meets rfl ⟨ticket_at (by decide +kernel), by decide⟩, meets rfl ⟨ticket_at (by decide +kernel), by decide⟩,
    meets rfl ⟨ticket_at (by decide +kernel), by decide⟩, meets rfl ⟨ticket_at (by decide +kernel), by decide⟩,
    meets rfl ⟨ticket_at (by decide +kernel), by decide⟩, meets rfl (no_ticket (by decide +kernel)), meets rfl trivial,
    meets rfl trivial⟩

theorem witness_LinesAreFormedAndReformed :
    (Meets yard 0 0x15 (enc4 3 ++ enc1 1 ++ enc4 999999) fun s => TicketAt s 3 2 (oneBin 3) ∧
        (oneBin 3).lines[0]? = some (newLine worked 2 1000)) ∧
      (Meets yard 0 0x15 (enc4 3 ++ enc1 8 ++ enc4 0) fun s => TicketAt s 3 2 (oneBin 3) ∧ (oneBin 3).lines.length < 8) ∧
      (Meets yard 0 0x15 (enc4 3 ++ enc1 9 ++ enc4 0) fun _ => True) ∧
      (Meets yard 0 0x15 (enc4 3 ++ enc1 1 ++ enc4 1000000) fun _ => True) ∧
      (Meets yard 0 0x15 (enc4 99 ++ enc1 1 ++ enc4 0) fun s => NoTicket s 99) ∧
      (Meets yard 0 0x15 (enc4 5 ++ enc1 1 ++ enc4 0) fun s => TicketAt s 5 4 (held 5)) ∧
      (Meets yard 0 0x2C (enc4 4) fun s => TicketAt s 4 3 (weighed 4) ∧ (weighed 4).state ≠ .atWindow ∧
        (weighed 4).marker = none) ∧
      (Meets yard 0 0x2C (enc4 7) fun s => TicketAt s 7 5 (dumping 7) ∧ (dumping 7).marker ≠ none) ∧
      (Meets yard 0 0x2C (enc4 99) fun s => NoTicket s 99) ∧ Meets yard 0 0x2C (enc4 0) fun _ => True :=
  ⟨meets rfl ⟨ticket_at (by decide +kernel), by decide +kernel⟩, meets rfl ⟨ticket_at (by decide +kernel), by decide⟩,
    meets rfl trivial, meets rfl trivial, meets rfl (no_ticket (by decide +kernel)),
    meets rfl (ticket_at (by decide +kernel)), meets rfl ⟨ticket_at (by decide +kernel), by decide⟩,
    meets rfl ⟨ticket_at (by decide +kernel), by decide⟩, meets rfl (no_ticket (by decide +kernel)), meets rfl trivial⟩

/-- The line arithmetic's cases: net above 0, net 0, deductions above the net, a line without a price. -/
theorem witness_LinesAreFormedAndReformed_cases :
    let l (net : Int) (dm : Nat) : Line := { newLine worked 2 net with manualDed := dm }
    (0 < (l 1000 0).net ∧ (l 1000 0).negative = false ∧ ((l 1000 0).priceAnew worked).price = some 3480 ∧
      0 ≤ (l 1000 0).net - ((l 1000 0).priceAnew worked).autoDed - 0) ∧
      ((l 0 0).net ≤ 0 ∧ (l 0 0).negative = true) ∧ ((l 1000 1001).net - 0 - 1001 < 0 ∧ (l 1000 1001).negative = false) ∧
      ((newLine worked 0 1000).priceAnew worked).price = none := by decide +kernel

theorem witness_SellerAndPlateAreSet :
    (Meets yard 1 0x17 (enc4 4 ++ encText (List.replicate 10 0x20)) fun s => TicketAt s 4 3 (weighed 4) ∧
        (∀ b ∈ List.replicate 10 (0x20 : Byte), printable b = true) ∧ (weighed 4).state ≠ .atWindow ∧
        (weighed 4).marker = none) ∧
      (Meets yard 1 0x17 (enc4 5 ++ encText []) fun s => TicketAt s 5 4 (held 5) ∧ (held 5).state = .atWindow) ∧
      (Meets yard 1 0x17 (enc4 4 ++ encText (List.replicate 11 0x20)) fun _ => True) ∧
      (Meets yard 1 0x17 (enc4 99 ++ encText []) fun s => NoTicket s 99) ∧
      (Meets yard 1 0x16 (enc4 4 ++ encText (List.replicate 16 0x61)) fun s => TicketAt s 4 3 (weighed 4) ∧
        (∀ b ∈ List.replicate 16 (0x61 : Byte), printable b = true) ∧ s.ports[(1 : Port)].role ≠ .payout) ∧
      (Meets yard 3 0x16 (enc4 5 ++ encText [0x42]) fun s => TicketAt s 5 4 (held 5) ∧ s.ports[(3 : Port)].role = .payout ∧
        (held 5).window = some ⟨3, 300⟩) ∧
      (Meets yard 3 0x16 (enc4 4 ++ encText [0x42]) fun s => TicketAt s 4 3 (weighed 4) ∧
        s.ports[(3 : Port)].role = .payout ∧ (weighed 4).state ≠ .atWindow) ∧
      (Meets yard 1 0x16 (enc4 7 ++ encText [0x42]) fun s => TicketAt s 7 5 (dumping 7) ∧ (dumping 7).marker ≠ none) ∧
      Meets yard 1 0x16 (enc4 4 ++ encText (List.replicate 17 0x41)) fun _ => True :=
  ⟨meets rfl ⟨ticket_at (by decide +kernel), by decide⟩, meets rfl ⟨ticket_at (by decide +kernel), by decide⟩,
    meets rfl trivial, meets rfl (no_ticket (by decide +kernel)), meets rfl ⟨ticket_at (by decide +kernel), by decide +kernel⟩,
    meets rfl ⟨ticket_at (by decide +kernel), by decide +kernel⟩, meets rfl ⟨ticket_at (by decide +kernel), by decide +kernel⟩,
    meets rfl ⟨ticket_at (by decide +kernel), by decide⟩, meets rfl trivial⟩

/-- Channel `c` about to take the end mark of this message. -/
def hearing (s : State) (c : Chan) (message : Text) : State :=
  { s with channels := s.channels.set c { s.channels[c] with receiver := .assembling message } }

theorem hears {s : State} {c : Chan} {message : Text} {status : Status} {w : Int} (h : s.taking = true)
    (hl : message.length = 11) (hj : judgeMessage message 0x0D = some (status, w)) :
    GoodMessageAt (hearing s c message) c 0x0D status w :=
  ⟨h, rfl, message, by simp [hearing], hl, hj⟩

theorem witness_ReadingsAreRoundedToTheDivision :
    (1 ≤ 200 ∧ ((200 : Nat) : Int) ∣ 169400) ∧
      (GoodMessageAt (hearing yard 0 (ascii "S+0169210E1")) 0 0x0D .stable 169210 ∧ yard.channels[(0 : Chan)].state ≠ .fault) ∧
      GoodMessageAt (hearing yard 0 (ascii "S+0169200E0")) 0 0x0D .stable 169200 ∧
      roundWeight 200 169210 = roundWeight 200 169200 :=
  ⟨by decide, ⟨hears rfl (by decide) (by decide), by decide +kernel⟩, hears rfl (by decide) (by decide), by decide⟩

theorem witness_ScaleMessagesDecode : 169210 < 10000000 ∧ 9999999 < 10000000 ∧ yard.taking = true ∧
    yard.channels[(0 : Chan)].receiver = .idle ∧ yard.channels[(0 : Chan)].state ≠ .fault ∧
    yard.channels[(0 : Chan)].capture = none := by decide +kernel

theorem witness_ReadingsMoveTheChannel :
    (yard.taking = true ∧ yard.channels[(0 : Chan)].receiver = .idle) ∧
      ((hearing yard 0 []).channels[(0 : Chan)].receiver = .assembling [] ∧ (0x53 : Byte) ≠ 0x02) ∧
      (hearing yard 0 (ascii "S+0169210E2")).channels[(0 : Chan)].receiver = .assembling (ascii "S+0169210E2") ∧
      judgeMessage (ascii "S+0169210E2") 0x0D = none ∧
      min 255 ((0 : Nat) + 1) < (hearing yard 0 []).settings.channels[(0 : Chan)].errorThreshold ∧
      (GoodMessageAt (hearing yard 0 (ascii "S+0169210E1")) 0 0x0D .stable 169210 ∧
        (hearing yard 0 (ascii "S+0169210E1")).channels[(0 : Chan)].capture = none) ∧
      -- a capture that waits on: one stable reading leaves run 1, and the channel MOVING
      (GoodMessageAt (hearing yard 1 (ascii "S+0169210E1")) 1 0x0D .stable 169210 ∧
        (({ yard.channels[(1 : Chan)] with receiver := .idle } : Channel).takeReading yard.settings.channels[(1 : Chan)]
          .stable 169200).state ≠ .stable) :=
  ⟨⟨rfl, by decide +kernel⟩, ⟨by decide +kernel, by decide⟩, by decide +kernel, by decide, by decide +kernel,
    ⟨hears rfl (by decide) (by decide), by decide +kernel⟩, ⟨hears rfl (by decide) (by decide), by decide +kernel⟩⟩

/-- SC1 one stable reading of 169 200 hg short of the stable count, its dump in flight. -/
def steady : State :=
  { yard with channels := yard.channels.set 1 { yard.channels[1] with ref := 169200, run := 4 } }

theorem capture_for {s : State} {c : Chan} {i : Slot} {t : Ticket} {m : Marker} {x : Capture}
    (h : s.channels[c].capture = some x ∧ x.slot = i ∧ x.kind = m.purpose.kind ∧ s.slots[i] = some t ∧
      t.marker = some m ∧ m.channel = c) : CaptureFor s c i t m :=
  ⟨⟨x, h.1, h.2.1, h.2.2.1⟩, h.2.2.2⟩

/-- An opening truck on SC0, one stable reading of 243 800 hg short of the stable count. -/
def opening : Ticket :=
  { walkin 1 with
    number := none, kind := .truck, state := .opening
    marker := some { purpose := .gross, channel := 0, port := 1, tag := 11 } }

def arriving : State :=
  { yard with
    slots := yard.slots.set 6 (some opening)
    channels := yard.channels.set 0
      { yard.channels[0] with run := 4, state := .moving, capture := some { kind := .gross, slot := 6, window := 3 } } }

/-- A bin of 1 000 hg on SC2, one reading short. -/
def binning : State :=
  { yard with
    slots := yard.slots.set 1 (some { walkin 2 with
      marker := some { purpose := .bin 2 15, channel := 2, port := 1, tag := 12 } })
    channels := yard.channels.set 2
      { yard.channels[2] with
        state := .moving, ref := 1000, run := 4, freshness := some 500
        capture := some { kind := .bin, slot := 1, window := 3 } } }

theorem witness_CapturesComplete :
    (GoodMessageAt (hearing arriving 0 (ascii "S+0243800DF")) 0 0x0D .stable 243800 ∧
        CaptureFor (hearing arriving 0 (ascii "S+0243800DF")) 0 6 opening ⟨.gross, 0, 1, 11⟩ ∧
        (let ch := ({ arriving.channels[(0 : Chan)] with receiver := .idle } : Channel).takeReading
          arriving.settings.channels[(0 : Chan)] .stable 243800
        ch.state = .stable ∧ ch.beamsClear = true ∧ 20 * 200 ≤ 243800 ∧ arriving.counter = .valid 50)) ∧
      (GoodMessageAt (hearing steady 1 (ascii "S+0169210E1")) 1 0x0D .stable 169210 ∧
        CaptureFor (hearing steady 1 (ascii "S+0169210E1")) 1 5 (dumping 7) ⟨.dump 6 false, 1, 2, 9⟩ ∧
        (let ch := ({ steady.channels[(1 : Chan)] with receiver := .idle } : Channel).takeReading
          steady.settings.channels[(1 : Chan)] .stable 169200
        ch.state = .stable ∧ ch.beamsClear = true ∧
          ∃ last, (dumping 7).weighings.getLast? = some last ∧ (74600 : Int) = last.weight - 169200)) ∧
      (GoodMessageAt (hearing binning 2 (ascii "S+0001000CF")) 2 0x0D .stable 1000 ∧
        CaptureFor (hearing binning 2 (ascii "S+0001000CF")) 2 1
          { walkin 2 with marker := some ⟨.bin 2 15, 2, 1, 12⟩ } ⟨.bin 2 15, 2, 1, 12⟩ ∧
        (let ch := ({ binning.channels[(2 : Chan)] with receiver := .idle } : Channel).takeReading
          binning.settings.channels[(2 : Chan)] .stable 1000
        ch.state = .stable ∧ ch.beamsClear = true ∧ 20 * 5 ≤ 1000)) :=
  ⟨⟨hears rfl (by decide) (by decide), capture_for (x := ⟨.gross, 6, 3⟩) (by decide +kernel), by decide +kernel⟩,
    ⟨hears rfl (by decide) (by decide), capture_for (x := ⟨.dump, 5, 3⟩) (by decide +kernel), by decide +kernel,
      by decide +kernel, ⟨1, .gross, 0, 243800, none, none⟩, by decide⟩,
    ⟨hears rfl (by decide) (by decide), capture_for (x := ⟨.bin, 1, 3⟩) (by decide +kernel), by decide +kernel⟩⟩

/-- SC1 about to lose its signal by its sixteenth bad message. -/
def faulty : State :=
  { yard with channels := yard.channels.set 1 { yard.channels[1] with receiver := .assembling [], errorCount := 15 } }

theorem witness_CapturesFailAndTimersExpire :
    (CaptureFor yard 1 5 (dumping 7) ⟨.dump 6 false, 1, 2, 9⟩ ∧ yard.taking = true ∧
        yard.channels[(1 : Chan)].freshness ≠ none ∧ yard.channels[(1 : Chan)].state = .moving) ∧
      (CaptureFor faulty 1 5 (dumping 7) ⟨.dump 6 false, 1, 2, 9⟩ ∧
        faulty.channels[(1 : Chan)].receiver = .assembling [] ∧ faulty.channels[(1 : Chan)].state ≠ .fault ∧
        faulty.settings.channels[(1 : Chan)].errorThreshold ≤ min 255 (faulty.channels[(1 : Chan)].errorCount + 1)) ∧
      (GoodMessageAt (hearing { steady with channels := steady.channels.set 1 { steady.channels[1] with ref := 0 } } 1
          (ascii "S+0000000CE")) 1 0x0D .stable 0 ∧
        (({ steady.channels[(1 : Chan)] with receiver := .idle, ref := 0 } : Channel).takeReading
          steady.settings.channels[(1 : Chan)] .stable 0).state = .stable ∧ (0 : Int) < (20 * 200 : Nat)) ∧
      (yard.channels[(0 : Chan)].capture = none ∧ yard.channels[(0 : Chan)].freshness ≠ none ∧
        yard.channels[(0 : Chan)].state = .stable) ∧
      (hearing yard 0 []).channels[(0 : Chan)].capture = none ∧
        (hearing yard 0 []).channels[(0 : Chan)].receiver = .assembling [] :=
  ⟨⟨capture_for (x := ⟨.dump, 5, 3⟩) (by decide +kernel), by decide +kernel⟩,
    ⟨capture_for (x := ⟨.dump, 5, 3⟩) (by decide +kernel), by decide +kernel⟩,
    ⟨hears rfl (by decide) (by decide), by decide +kernel⟩, by decide +kernel, by decide +kernel⟩

/-- SC0, without a capture, at a message whose break is its sixteenth bad one. -/
def failing (held : List Byte) : State :=
  { yard with channels := yard.channels.set 0 { yard.channels[0] with receiver := .assembling held, errorCount := 15 } }

/-- A byte that makes a message bad at the error threshold: a start mark within it and a last byte that leaves it not
good, with a capture in flight and without one. -/
theorem witness_CapturesFailAndTimersExpire_bad_byte :
    (MessageBreaksAt faulty 1 0x02 ∧ CaptureFor faulty 1 5 (dumping 7) ⟨.dump 6 false, 1, 2, 9⟩) ∧
      (MessageBreaksAt (failing []) 0 0x02 ∧ (failing []).channels[(0 : Chan)].capture = none ∧
        (failing []).channels[(0 : Chan)].state ≠ .fault ∧
        (failing []).settings.channels[(0 : Chan)].errorThreshold ≤
          min 255 ((failing []).channels[(0 : Chan)].errorCount + 1)) ∧
      (MessageBreaksAt (failing (ascii "S+0169210E1")) 0 0x0A ∧
        (failing (ascii "S+0169210E1")).channels[(0 : Chan)].state ≠ .fault) ∧
      MessageBreaksAt (failing (ascii "S+0169210E2")) 0 0x0D :=
  ⟨⟨⟨rfl, [], by decide +kernel⟩, capture_for (x := ⟨.dump, 5, 3⟩) (by decide +kernel)⟩,
    ⟨⟨rfl, [], by decide +kernel⟩, by decide +kernel⟩, ⟨⟨rfl, ascii "S+0169210E1", by decide +kernel⟩, by decide +kernel⟩,
    rfl, ascii "S+0169210E2", by decide +kernel⟩

theorem witness_ScaleFaultAndBeams :
    Meets { yard with channels := yard.channels.set 2 { yard.channels[2] with state := .fault, errorCount := 16 } } 1 0x21
        (enc1 2) (fun s => s.channels[(2 : Chan)].state = .fault) ∧
      Meets yard 1 0x21 (enc1 3) (fun _ => True) ∧
      yard.channels[Bridge.chan 0].beams = some (.start .clear, .start .clear) ∧
      ({ Beam.start .clear with raw := .broken, debounce := some 50 } : Beam).debounce ≠ none ∧
      (yard.powered = true ∧ yard.channels[Bridge.chan 1].beams = some (.start .clear, .start .clear) ∧
        yard.channels[Bridge.chan 1].capture ≠ none) ∧
      ({ yard with powered := false } : State).powered = false :=
  ⟨meets rfl (by decide +kernel), meets rfl trivial, by decide +kernel, by decide, by decide +kernel, rfl⟩

theorem witness_ReviewHoldsUntilTheTimerExpires :
    (Meets yard 3 0x30 (enc4 4) fun s => TicketAt s 4 3 (weighed 4) ∧ (weighed 4).state = .weighed) ∧
      (Meets yard 3 0x30 (enc4 5) fun s => TicketAt s 5 4 (held 5) ∧ (held 5).state = .atWindow ∧
        ∃ w, (held 5).window = some w ∧ w.holder = 3) ∧
      (Meets yard 1 0x30 (enc4 5) fun s => TicketAt s 5 4 (held 5) ∧ ∃ w, (held 5).window = some w ∧ w.holder ≠ 1) ∧
      (Meets yard 3 0x30 (enc4 1) fun s => TicketAt s 1 0 (truck 1) ∧ (truck 1).state = .weighing) ∧
      (Meets yard 3 0x30 (enc4 99999999) fun s => NoTicket s 99999999) ∧ (Meets yard 3 0x30 (enc4 100000000) fun _ => True) ∧
      (yard.slots[(4 : Slot)] = some (held 5) ∧ (held 5).window = some ⟨3, 300⟩) ∧
      (yard.slots[(0 : Slot)].bind fun t => t.window) = none :=
  ⟨meets rfl ⟨ticket_at (by decide +kernel), by decide⟩,
    meets rfl ⟨ticket_at (by decide +kernel), by decide, ⟨3, 300⟩, by decide⟩,
    meets rfl ⟨ticket_at (by decide +kernel), ⟨3, 300⟩, by decide⟩, meets rfl ⟨ticket_at (by decide +kernel), by decide⟩,
    meets rfl (no_ticket (by decide +kernel)), meets rfl trivial, by decide +kernel, by decide +kernel⟩

theorem witness_ReleaseReturnsTheTicket :
    (Meets yard 3 0x31 (enc4 5) fun s => TicketAt s 5 4 (held 5) ∧ (held 5).state = .atWindow ∧
        ∃ w, (held 5).window = some w ∧ w.holder = 3) ∧
      (Meets yard 1 0x31 (enc4 5) fun s => TicketAt s 5 4 (held 5) ∧ ∃ w, (held 5).window = some w ∧ w.holder ≠ 1) ∧
      (Meets yard 3 0x31 (enc4 4) fun s => TicketAt s 4 3 (weighed 4) ∧ (weighed 4).state ≠ .atWindow) ∧
      (Meets yard 3 0x31 (enc4 99) fun s => NoTicket s 99) ∧ Meets yard 3 0x31 (enc4 0) fun _ => True :=
  ⟨meets rfl ⟨ticket_at (by decide +kernel), by decide, ⟨3, 300⟩, by decide⟩,
    meets rfl ⟨ticket_at (by decide +kernel), ⟨3, 300⟩, by decide⟩, meets rfl ⟨ticket_at (by decide +kernel), by decide⟩,
    meets rfl (no_ticket (by decide +kernel)), meets rfl trivial⟩

/-- A state whose tally holds one seller, "A". -/
def tallied : State :=
  { yard with
    tally := yard.tally.set (tallyBucket [0x41]) (yard.tally[tallyBucket [0x41]].set 0 (some ⟨[0x41], 100, 1, 2⟩)) }

theorem witness_CashTallyAndTotalsAddUp :
    1 ≤ 5 ∧ TallyLaw yard ∧ (tallied.tally[tallyBucket [0x41]][(0 : Fin 4)] = some ⟨[0x41], 100, 1, 2⟩ ∧ TallyLaw tallied) ∧
      (∀ (b : Fin 64) (w : Fin 4) (e : TallyEntry), yard.tally[b][w] = some e → e.seller ≠ [0x41]) ∧
      ((⟨5, false⟩ : Total).value + 4 ≤ 9 ∧ 9 < (⟨5, false⟩ : Total).value + 5) := by
  have h : ∀ (b : Fin 64) (w : Fin 4), yard.tally[b][w] = none := by decide +kernel
  have h' : ∀ (b : Fin 64) (w : Fin 4), ∀ e ∈ tallied.tally[b][w],
      (b, w, e) = (tallyBucket [0x41], 0, ⟨[0x41], 100, 1, 2⟩) := by decide +kernel
  refine ⟨by decide, yard_tally, ⟨by decide +kernel, fun b w e x => ?_, fun b b' w w' e e' x x' _ => ?_⟩,
    fun b w e x => ?_, by decide⟩
  · have := h' b w e x
    simp only [Prod.mk.injEq] at this
    rw [this.2.2, this.1]
  · have a := h' b w e x
    have a' := h' b' w' e' x'
    simp only [Prod.mk.injEq] at a a'
    exact ⟨a.1.trans a'.1.symm, a.2.1.trans a'.2.1.symm⟩
  · rw [h b w] at x
    cases x

theorem witness_PayChecksInOrder :
    (Meets yard 3 0x32 (enc4 5 ++ enc1 3) fun _ => True) ∧ (Meets yard 3 0x32 (enc4 0 ++ Method.cash.enc) fun _ => True) ∧
      (Meets yard 3 0x32 (enc4 99 ++ Method.cheque.enc) fun s => NoTicket s 99) ∧
      (Meets yard 3 0x32 (enc4 4 ++ Method.cash.enc) fun s => TicketAt s 4 3 (weighed 4) ∧ (weighed 4).state ≠ .atWindow) ∧
      (Meets yard 1 0x32 (enc4 5 ++ Method.cash.enc) fun s => TicketAt s 5 4 (held 5) ∧ (held 5).state = .atWindow ∧
        (held 5).window.any (fun w => w.holder != 1) = true) ∧
      (Meets { yard with settings := { worked with cashLimit := 0 } } 3 0x32 (enc4 5 ++ Method.cash.enc) fun s =>
        TicketAt s 5 4 (held 5) ∧ s.settings.cashLimit = 0) ∧
      (Meets { yard with settings := { worked with cashLimit := 34799 } } 3 0x32 (enc4 5 ++ Method.cash.enc) fun s =>
        TicketAt s 5 4 (held 5) ∧ s.settings.cashLimit < s.tallyOf [0x41] + cashAmount 34800 5) ∧
      Meets { yard with journal := List.replicate 128 (.close (closedRecord 6)) } 3 0x32 (enc4 5 ++ Method.transfer.enc)
        fun s => TicketAt s 5 4 (held 5) ∧ 128 ≤ s.journal.length :=
  ⟨meets rfl trivial, meets rfl trivial, meets rfl (no_ticket (by decide +kernel)),
    meets rfl ⟨ticket_at (by decide +kernel), by decide⟩, meets rfl ⟨ticket_at (by decide +kernel), by decide⟩,
    meets rfl ⟨ticket_at (by decide +kernel), by decide⟩, meets rfl ⟨ticket_at (by decide +kernel), by decide +kernel⟩,
    meets rfl ⟨ticket_at (by decide +kernel), by decide +kernel⟩⟩

theorem witness_PaySettlesInOneEvent :
    Meets yard 3 0x32 (enc4 5 ++ Method.cash.enc) fun s => TicketAt s 5 4 (held 5) ∧
      ((held 5).state = .atWindow ∧ ((held 5).window.any fun w => w.holder != 3) = false ∧
        ((held 5).lines.any fun l => l.unpriced) = false ∧ (held 5).totalClamped = false ∧ (held 5).seller ≠ none ∧
        ((held 5).lines.any fun l => l.restricted) = false ∧ s.settings.cashLimit ≠ 0 ∧ s.emptyWay [0x41] ≠ none ∧
        s.tallyOf [0x41] + cashAmount 34800 5 ≤ s.settings.cashLimit) ∧
      (s.journal.length < 128 ∧ s.settings.printersOf[(3 : Port)][(0 : Fin 4)] = some 1 ∧
        (lineCount s.settings false (closeRecordOf s (held 5) 3 (.paid .cash 34800 0)) + 7) / 8 ≤ s.freePages.length) ∧
      LowestFreeJob s 5 := by
  unfold LowestFreeJob
  exact meets rfl ⟨ticket_at (by decide +kernel), by decide +kernel, by decide +kernel, by decide +kernel⟩

theorem witness_DrawerTrainsStartAndRun :
    (Meets yard 3 0x33 [] fun s => s.settings.printersOf[(3 : Port)][(0 : Fin 4)] = some 1 ∧
        s.printers[(1 : Printer)].train = none) ∧
      (Meets { yard with printers := yard.printers.set 1 { yard.printers[1] with train := some ⟨100, 100, 2, 1, true⟩ } } 3
        0x33 [] fun s => s.printers[(1 : Printer)].train ≠ none) ∧
      (Meets { yard with settings := { worked with printersOf := Vector.replicate 4 (Vector.replicate 4 none) } } 3 0x33 []
        fun s => s.settings.printersOf[(3 : Port)][(0 : Fin 4)] = none) ∧
      (Meets yard 3 0x33 [0] fun _ => True) ∧ yard.taking = true ∧ yard.printers[(0 : Printer)].train = none :=
  ⟨meets rfl (by decide +kernel), meets rfl (by decide +kernel), meets rfl (by decide +kernel), meets rfl trivial, rfl,
    by decide +kernel⟩

/-- Printer 1 with a running train. -/
def pulsing (x : Train) : State :=
  { yard with printers := yard.printers.set 1 { yard.printers[1] with train := some x } }

/-- The phases of a running train: an on phase, the off phase before the last pulse, and the last off phase. -/
theorem witness_DrawerTrainsStartAndRun_phases :
    ((pulsing ⟨100, 100, 2, 1, true⟩).taking = true ∧
        (pulsing ⟨100, 100, 2, 1, true⟩).printers[(1 : Printer)].train = some ⟨100, 100, 2, 1, true⟩) ∧
      ((pulsing ⟨100, 100, 2, 1, false⟩).taking = true ∧
        (pulsing ⟨100, 100, 2, 1, false⟩).printers[(1 : Printer)].train = some ⟨100, 100, 2, 1, false⟩ ∧ 1 < 2) ∧
      (pulsing ⟨100, 100, 2, 2, false⟩).taking = true ∧
        (pulsing ⟨100, 100, 2, 2, false⟩).printers[(1 : Printer)].train = some ⟨100, 100, 2, 2, false⟩ ∧ ¬ 2 < 2 := by
  decide +kernel

theorem markers_granted {p : Port} (hp : p ≠ 2) (code : Byte) (data : List Byte) :
    MarkerLaw (granted yard p code data) := by
  refine ⟨fun i m e => ?_, yard_requests.2.1.2⟩
  have h := yard_requests.2.1.1 i m e
  obtain ⟨rfl, rfl⟩ := yard_marker i m e
  refine ⟨h.1, ?_⟩
  have : (granted yard p code data).ports[(2 : Port)] = yard.ports[(2 : Port)] := by
    simp only [granted, Fin.getElem_fin]
    rw [Vector.getElem_set_ne]
    exact fun e => hp (Fin.ext e)
  show ((granted yard p code data).ports[(2 : Port)].request.map _) = _
  rw [this]
  exact h.2

theorem witness_VoidClosesTheTicket :
    (Meets yard 0 0x18 (enc4 7 ++ enc1 15) fun s => TicketAt s 7 5 (dumping 7) ∧ (dumping 7).state ≠ .atWindow ∧
        s.journal.length < 128 ∧ MarkerLaw s) ∧
      (Meets yard 0 0x18 (enc4 4 ++ enc1 1) fun s => TicketAt s 4 3 (weighed 4) ∧ MarkerLaw s) ∧
      (Meets yard 0 0x18 (enc4 5 ++ enc1 1) fun s => TicketAt s 5 4 (held 5) ∧ (held 5).state = .atWindow) ∧
      (Meets { yard with journal := List.replicate 128 (.close (closedRecord 6)) } 0 0x18 (enc4 4 ++ enc1 1) fun s =>
        TicketAt s 4 3 (weighed 4) ∧ 128 ≤ s.journal.length) ∧
      (Meets yard 0 0x18 (enc4 99 ++ enc1 1) fun s => NoTicket s 99) ∧ (Meets yard 0 0x18 (enc4 4 ++ enc1 0) fun _ => True) ∧
      Meets yard 0 0x18 (enc4 4 ++ enc1 16) fun _ => True :=
  ⟨meets rfl ⟨ticket_at (by decide +kernel), by decide, by decide +kernel, markers_granted (by decide) _ _⟩,
    meets rfl ⟨ticket_at (by decide +kernel), markers_granted (by decide) _ _⟩,
    meets rfl ⟨ticket_at (by decide +kernel), by decide⟩, meets rfl ⟨ticket_at (by decide +kernel), by decide +kernel⟩,
    meets rfl (no_ticket (by decide +kernel)), meets rfl trivial, meets rfl trivial⟩

theorem witness_JournalPopRemovesTheNamedHead :
    (Meets yard 0 0x39 (encFlag false ++ enc4 6) fun s => s.journal = .close (closedRecord 6) :: []) ∧
      (Meets yard 0 0x39 (encFlag true ++ enc4 65535) fun s => s.journal = .close (closedRecord 6) :: []) ∧
      (Meets yard 0 0x39 (encFlag false ++ enc4 99999999) fun s => s.journal = .close (closedRecord 6) :: []) ∧
      (Meets State.reset 0 0x39 (encFlag false ++ enc4 1) fun s => s.journal = []) ∧
      (Meets yard 0 0x39 (encFlag true ++ enc4 65536) fun _ => True) ∧ (Meets yard 0 0x39 (encFlag false ++ enc4 0) fun _ => True) ∧
      Meets yard 0 0x39 (enc1 2 ++ enc4 6) fun _ => True :=
  ⟨meets rfl rfl, meets rfl rfl, meets rfl rfl, meets rfl rfl, meets rfl trivial, meets rfl trivial, meets rfl trivial⟩

theorem witness_DayCloseEndsTheDay :
    (Meets { State.reset with day := 65535 } 0 0x3B [] fun s =>
        (∀ (i : Slot) (t : Ticket), s.slots[i] = some t → t.state ≠ .atWindow) ∧ s.journal.length < 128 ∧ s.day = 65535) ∧
      (Meets yard 0 0x3B [] fun s => ∃ (i : Slot) (t : Ticket), s.slots[i] = some t ∧ t.state = .atWindow) ∧
      Meets { State.reset with journal := List.replicate 128 (.close (closedRecord 6)) } 0 0x3B [] fun s =>
        (∀ (i : Slot) (t : Ticket), s.slots[i] = some t → t.state ≠ .atWindow) ∧ 128 ≤ s.journal.length :=
  ⟨meets rfl ⟨all_some (by decide +kernel), by decide⟩, meets rfl ⟨4, held 5, by decide +kernel⟩,
    meets rfl ⟨all_some (by decide +kernel), by decide +kernel⟩⟩

theorem witness_ReprintHandsOverADuplicate :
    (Meets yard 0 0x3C (enc4 6) fun s => (.close (closedRecord 6) ∈ s.journal ∧ (closedRecord 6).number = 6 ∧
        s.settings.printersOf[(0 : Port)][(0 : Fin 4)] = some 2 ∧
        (lineCount s.settings true (closedRecord 6) + 7) / 8 ≤ s.freePages.length) ∧ NumberLaw s ∧ LowestFreeJob s 5) ∧
      (Meets yard 0 0x3C (enc4 5) fun s => ∀ r, .close r ∈ s.journal → r.number ≠ 5) ∧
      (Meets { yard with freePages := [] } 0 0x3C (enc4 6) fun s => .close (closedRecord 6) ∈ s.journal ∧
        s.freePages.length < (lineCount s.settings true (closedRecord 6) + 7) / 8) ∧
      Meets yard 0 0x3C (enc4 0) fun _ => True := by
  unfold LowestFreeJob
  refine ⟨meets rfl ⟨by decide +kernel, yard_numbers, by decide +kernel⟩, meets rfl ?_, meets rfl (by decide +kernel),
    meets rfl trivial⟩
  intro r hr
  have : r = closedRecord 6 := by
    have h : (granted yard 0 0x3C (enc4 5)).journal = [.close (closedRecord 6)] := rfl
    rw [h] at hr
    simpa using hr
  rw [this]
  decide

theorem witness_ComposerHandsOverTheDocument :
    MemoryLaw yard ∧ PageLaw yard ∧ yard.jobs[(5 : JobNo)] = none ∧
      (lineCount yard.settings true workedRecord + 7) / 8 ≤ yard.freePages.length :=
  ⟨yard_memory, yard_pages, by decide +kernel⟩

/-- A close record at the ends of its ranges. -/
def brimRecord : CloseRecord :=
  { workedRecord with
    day := 65535, number := 99999999, closing := .paid .transfer 9999999999 9999999999, closeTime := none
    seller := some (List.replicate 16 0x7E), plate := some (List.replicate 10 0x7E), total := 9999999999
    totalClamped := true }

/-- The figures and layouts: values at the ends of the ranges their clauses name. -/
theorem witness_ComposerHandsOverTheDocument_layouts :
    (10 ^ 20 - 1 < 10 ^ 20 ∧ 9 < 10 ∧ (List.replicate 32 (0x41 : Byte)).length ≤ 32) ∧
      (brimRecord.seller = some (List.replicate 16 0x7E) ∧ (List.replicate 16 (0x7E : Byte)).length ≤ 16 ∧
        (List.replicate 10 (0x7E : Byte)).length ≤ 10 ∧ brimRecord.number ≤ 99999999 ∧ brimRecord.day ≤ 65535 ∧
        brimRecord.closeTime = none ∧ brimRecord.total ≤ 9999999999) ∧
      (workedRecord.closeTime = some ⟨29870, ascii "14.05.24"⟩ ∧ (ascii "14.05.24").length = 8) ∧
      (⟨9, .bin, 2, 1000000, none, some 15⟩ : Weighing).weight ≤ 1000000 ∧
      (worked.active[(6 : GradeIx)].name.length = 12 ∧ (newLine worked 6 (-1000000)).net.natAbs ≤ 1000000) ∧
      (let l : Line := ⟨6, 1000000, 500000, 999999, 1000000, some 999999, 12, 9999999999, true, false, true, true⟩;
        l.autoDed ≤ 500000 ∧ l.manualDed ≤ 999999 ∧ l.payable ≤ 1000000 ∧ l.price.getD 0 ≤ 999999 ∧
          l.amount ≤ 9999999999) ∧
      (brimRecord.closing = .paid .transfer 9999999999 9999999999 ∧ 9999999999 ≤ 9999999999 ∧ 0 < 9999999999 ∧
        15 ≤ 15) := by decide +kernel

/-! ### The same for spool, engines, settings, lines and starts -/

theorem witness_JobsAreOpenedAndReleased :
    (Meets yard 0 0x40 (enc1 0 ++ enc1 12) fun s => s.settings.printersOf[(0 : Port)][(0 : Fin 4)] = some 2 ∧
        12 ≤ s.freePages.length ∧ LowestFreeJob s 5) ∧
      (Meets yard 0 0x40 (enc1 3 ++ enc1 1) fun s => s.settings.printersOf[(0 : Port)][(3 : Fin 4)] = none) ∧
      (Meets { yard with freePages := [] } 0 0x40 (enc1 0 ++ enc1 1) fun s => s.freePages.length < 1) ∧
      (Meets yard 0 0x40 (enc1 4 ++ enc1 1) fun _ => True) ∧ (Meets yard 0 0x40 (enc1 0 ++ enc1 13) fun _ => True) ∧
      (Meets yard 3 0x46 (enc1 4) fun s => PageLaw s ∧ s.jobs[(4 : JobNo)] = some doneJob ∧ doneJob.owner = .port 3) ∧
      (Meets yard 0 0x46 (enc1 0) fun s => PageLaw s ∧ s.jobs[(0 : JobNo)] = some writingJob ∧
        s.ports[(0 : Port)].role = .office) ∧
      (Meets yard 0 0x46 (enc1 31) fun s => PageLaw s ∧ s.jobs[(31 : JobNo)] = none) ∧ Meets yard 0 0x46 (enc1 32) fun _ => True := by
  unfold LowestFreeJob
  exact ⟨meets rfl (by decide +kernel), meets rfl (by decide +kernel), meets rfl (by decide), meets rfl trivial,
    meets rfl trivial, meets rfl ⟨yard_pages, by decide +kernel⟩, meets rfl ⟨yard_pages, by decide +kernel⟩,
    meets rfl ⟨yard_pages, by decide +kernel⟩, meets rfl trivial⟩

theorem witness_JobWriteFillsItsSlots :
    let data (n : Nat) (ls : List (Text × Bool)) : List Byte :=
      enc1 n ++ encList (fun l : Text × Bool => encText l.1 ++ encFlag l.2) ls
    (Meets yard 1 0x41 (data 0 (List.replicate 6 (List.replicate 32 0x41, true))) fun s => SpoolLaw s ∧ MemoryLaw s ∧
        s.jobs[(0 : JobNo)] = some writingJob ∧ writingJob.owner = .port 1 ∧ writingJob.closed = false) ∧
      (Meets yard 2 0x41 (data 2 [([0x07], false)]) fun s => SpoolLaw s ∧ MemoryLaw s ∧
        s.jobs[(2 : JobNo)] = some stalledJob ∧ stalledJob.owner = .port 2 ∧ stalledJob.state = .stalled) ∧
      (Meets yard 0 0x41 (data 1 [([], false)]) fun s => SpoolLaw s ∧ MemoryLaw s ∧ s.jobs[(1 : JobNo)] = some printingJob ∧
        printingJob.closed = true) ∧
      (Meets yard 0 0x41 (data 32 [([], false)]) fun _ => True) ∧ (Meets yard 0 0x41 (data 0 []) fun _ => True) ∧
      Meets yard 0 0x41 (data 0 [(List.replicate 33 0x41, false)]) fun _ => True :=
  ⟨meets rfl ⟨yard_spool, yard_memory, by decide +kernel⟩, meets rfl ⟨yard_spool, yard_memory, by decide +kernel⟩,
    meets rfl ⟨yard_spool, yard_memory, by decide +kernel⟩, meets rfl trivial, meets rfl trivial, meets rfl trivial⟩

theorem witness_JobsAreSubmittedAndClosed :
    (Meets yard 1 0x42 (enc1 0 ++ enc1 3 ++ enc1 8) fun s => s.jobs[(0 : JobNo)] = some writingJob ∧
        8 ≤ 8 * writingJob.pages.length) ∧
      (Meets yard 1 0x42 (enc1 0 ++ enc1 1 ++ enc1 9) fun s => s.jobs[(0 : JobNo)] = some writingJob ∧
        8 * writingJob.pages.length < 9) ∧
      (Meets yard 1 0x42 (enc1 31 ++ enc1 1 ++ enc1 0) fun s => s.jobs[(31 : JobNo)] = none) ∧
      (Meets yard 1 0x42 (enc1 32 ++ enc1 1 ++ enc1 0) fun _ => True) ∧
      (Meets yard 1 0x42 (enc1 0 ++ enc1 4 ++ enc1 97) fun _ => True) ∧
      (Meets yard 2 0x43 (enc1 2) fun s => SpoolLaw s ∧ s.jobs[(2 : JobNo)] = some stalledJob ∧
        stalledJob.owner = .port 2 ∧ stalledJob.closed = false ∧ stalledJob.sent = stalledJob.written) ∧
      (Meets yard 0 0x43 (enc1 1) fun s => SpoolLaw s ∧ s.jobs[(1 : JobNo)] = some printingJob ∧ printingJob.closed = true) ∧
      Meets yard 0 0x43 (enc1 32) fun _ => True :=
  ⟨meets rfl (by decide +kernel), meets rfl (by decide +kernel), meets rfl (by decide +kernel), meets rfl trivial,
    meets rfl trivial, meets rfl ⟨yard_spool, by decide +kernel⟩, meets rfl ⟨yard_spool, by decide +kernel⟩,
    meets rfl trivial⟩

theorem witness_JobsEndByCancelOrStall :
    (Meets yard 0 0x44 (enc1 1) fun s => SpoolLaw s ∧ s.jobs[(1 : JobNo)] = some printingJob ∧ printingJob.owner = .port 0) ∧
      (Meets yard 0 0x44 (enc1 2) fun s => SpoolLaw s ∧ s.jobs[(2 : JobNo)] = some stalledJob ∧
        s.ports[(0 : Port)].role = .office) ∧
      (Meets yard 0 0x44 (enc1 3) fun s => SpoolLaw s ∧ s.jobs[(3 : JobNo)] = some queuedJob) ∧
      (Meets yard 1 0x44 (enc1 3) fun s => SpoolLaw s ∧ s.jobs[(3 : JobNo)] = some queuedJob ∧
        s.ports[(1 : Port)].role ≠ .office) ∧
      (Meets yard 0 0x44 (enc1 31) fun s => SpoolLaw s ∧ s.jobs[(31 : JobNo)] = none) ∧
      (Meets yard 0 0x44 (enc1 32) fun _ => True) ∧
      (yard.taking = true ∧ SpoolLaw yard ∧ yard.jobs[(2 : JobNo)] = some stalledJob ∧ stalledJob.stall ≠ none) ∧
      ∀ j, yard.jobs[(1 : JobNo)] = some j → j.stall = none :=
  ⟨meets rfl ⟨yard_spool, by decide +kernel⟩, meets rfl ⟨yard_spool, by decide +kernel⟩,
    meets rfl ⟨yard_spool, by decide +kernel⟩, meets rfl ⟨yard_spool, by decide +kernel⟩,
    meets rfl ⟨yard_spool, by decide +kernel⟩, meets rfl trivial, ⟨rfl, yard_spool, by decide +kernel⟩, by
      have h : ∀ j ∈ yard.jobs[(1 : JobNo)], j.stall = none := by decide +kernel
      exact fun j e => h j e⟩

/-- Printer 1 with another engine record and its job. -/
def withEngine (e : Engine) (j : Job) : State :=
  { yard with printers := yard.printers.set 1 e, jobs := yard.jobs.set 1 (some j) }

/-- Halted, its job HALTED at the head. -/
def haltedYard : State :=
  withEngine { Engine.start true false with state := .halted, fault := some .refused, refusals := 8 }
    { printingJob with state := .halted }

/-- Waiting out a backoff. -/
def backoffYard : State :=
  withEngine { yard.printers[1] with frame := none, backoff := some 5, refusals := 1 } printingJob

/-- Inhibited, the clock held low. -/
def inhibitedYard : State :=
  withEngine { yard.printers[1] with frame := none, state := .inhibited, inhibit := some 30, clockLow := true } printingJob

/-- Flushed while a frame was in progress. -/
def droppingYard : State :=
  { withEngine { yard.printers[1] with job := none, position := none, dropping := true }
      { printingJob with state := .done, doneStatus := some .flushed } with queues := #v[[], [], [2, 3]] }

/-- The last byte of the last line on the link. -/
def lastByteYard : State := withEngine { yard.printers[1] with position := some ⟨.stored 1, 32⟩ } { printingJob with sent := 1 }

/-- CUT on the link. -/
def cutYard : State := withEngine { yard.printers[1] with position := some ⟨.cut, 0⟩ } { printingJob with sent := 2 }

theorem halted_spool : SpoolLaw haltedYard :=
  spool_lawful (by unfold PageLaw; decide +kernel) (by decide +kernel) (by decide +kernel) (by decide +kernel)

theorem backoff_spool : SpoolLaw backoffYard :=
  spool_lawful (by unfold PageLaw; decide +kernel) (by decide +kernel) (by decide +kernel) (by decide +kernel)

theorem inhibited_spool : SpoolLaw inhibitedYard :=
  spool_lawful (by unfold PageLaw; decide +kernel) (by decide +kernel) (by decide +kernel) (by decide +kernel)

theorem dropping_spool : SpoolLaw droppingYard :=
  spool_lawful (by unfold PageLaw; decide +kernel) (by decide +kernel) (by decide +kernel) (by decide +kernel)

theorem last_byte_spool : SpoolLaw lastByteYard :=
  spool_lawful (by unfold PageLaw; decide +kernel) (by decide +kernel) (by decide +kernel) (by decide +kernel)

theorem cut_spool : SpoolLaw cutYard :=
  spool_lawful (by unfold PageLaw; decide +kernel) (by decide +kernel) (by decide +kernel) (by decide +kernel)

theorem witness_PrinterQueuesAreServed :
    (Meets haltedYard 0 0x48 (enc1 1) fun s => SpoolLaw s ∧ s.printers[(1 : Printer)].state = .halted) ∧
      (Meets yard 0 0x48 (enc1 1) fun s => SpoolLaw s ∧ s.printers[(1 : Printer)].state ≠ .halted) ∧
      (Meets yard 0 0x49 (enc1 2) SpoolLaw) ∧ (Meets yard 0 0x4A (enc1 2 ++ enc1 0) SpoolLaw) ∧
      (Meets yard 0 0x48 (enc1 3) fun _ => True) ∧ (Meets yard 0 0x49 (enc1 3) fun _ => True) ∧
      (Meets yard 0 0x4A (enc1 1 ++ enc1 1) fun _ => True) ∧ Meets yard 0 0x4A (enc1 0 ++ enc1 3) fun _ => True :=
  ⟨meets rfl ⟨halted_spool, by decide +kernel⟩, meets rfl ⟨yard_spool, by decide +kernel⟩, meets rfl yard_spool,
    meets rfl yard_spool, meets rfl trivial, meets rfl trivial, meets rfl trivial, meets rfl trivial⟩

/-- A closed job of port 1 at the head of the IDLE printer 0. -/
def readyJob : Job := { writingJob with closed := true, copies := 2, state := .queued }

def ready : State := { yard with jobs := yard.jobs.set 0 (some readyJob), queues := #v[[0], [1], [2, 3]] }

theorem witness_IdleEngineTakesTheStartableHead :
    (ready.headJob 0 = some (0, readyJob) ∧ ready.printers[(0 : Printer)].state = .idle ∧
        ready.printers[(0 : Printer)].atRest ∧ readyJob.state = .queued ∧ readyJob.closed = true ∧ 0 < readyJob.written ∧
        readyJob.endPending = none) ∧
      yard.headJob 1 = some (1, printingJob) ∧ yard.printers[(1 : Printer)].state ≠ .idle := by
  unfold Engine.atRest
  decide +kernel

theorem witness_PrinterTakesTheWholeJob :
    JobLaw ready ∧ QueueLaw ready ∧ ready.taking = true ∧ ready.headJob 0 = some (0, readyJob) ∧
      ready.printers[(0 : Printer)].state = .idle ∧ ready.printers[(0 : Printer)].atRest ∧
      ready.printers[(0 : Printer)].clockLow = false ∧ readyJob.state = .queued ∧ readyJob.closed = true ∧
      readyJob.endPending = none ∧ readyJob.currentCopy = 1 ∧ 1 ≤ readyJob.copies ∧ 0 < readyJob.written := by
  refine ⟨jobs_lawful (by decide +kernel), queues_lawful (by decide +kernel), ?_⟩
  unfold Engine.atRest
  decide +kernel

theorem witness_AcceptedBytesMoveTheEngineOn :
    (yard.taking = true ∧ EngineLaw yard ∧ yard.printers[(1 : Printer)].frame ≠ none ∧
        yard.printers[(1 : Printer)].job = some 1 ∧ yard.jobs[(1 : JobNo)] = some printingJob ∧
        yard.printers[(1 : Printer)].position = some ⟨.stored 0, 0⟩ ∧
        (yard.partBytes printingJob (.stored 0))[1]? ≠ none) ∧
      (EngineLaw lastByteYard ∧ (lastByteYard.partBytes { printingJob with sent := 1 } (.stored 1)).length = 32 + 1 ∧
        lastByteYard.printers[(1 : Printer)].position = some ⟨.stored 1, 32⟩) ∧
      (SpoolLaw cutYard ∧ cutYard.printers[(1 : Printer)].position = some ⟨.cut, 0⟩ ∧
        cutYard.jobs[(1 : JobNo)] = some { printingJob with sent := 2 } ∧
        cutYard.printers[(1 : Printer)].frame ≠ none ∧ printingJob.copies ≤ printingJob.currentCopy) ∧
      yard.printers[(0 : Printer)].frame = none :=
  ⟨⟨rfl, yard_spool.2.2.2, by decide +kernel⟩, ⟨last_byte_spool.2.2.2, by decide +kernel⟩,
    ⟨cut_spool, by decide +kernel⟩, by decide +kernel⟩

theorem witness_RefusedBytesAreSentAgain :
    (yard.taking = true ∧ SpoolLaw yard ∧ yard.printers[(1 : Printer)].frame ≠ none ∧
        yard.printers[(1 : Printer)].dropping = false ∧ yard.printers[(1 : Printer)].refusals + 1 < yard.settings.refusalLimit ∧
        yard.printers[(1 : Printer)].job = some 1 ∧ yard.jobs[(1 : JobNo)] = some printingJob) ∧
      (SpoolLaw { yard with settings := { worked with refusalLimit := 1 } } ∧ 1 ≤ yard.printers[(1 : Printer)].refusals + 1) ∧
      (SpoolLaw droppingYard ∧ droppingYard.printers[(1 : Printer)].dropping = true) ∧
      (SpoolLaw backoffYard ∧ backoffYard.printers[(1 : Printer)].backoff ≠ none) ∧
      yard.printers[(1 : Printer)].backoff = none :=
  ⟨⟨rfl, yard_spool, by decide +kernel⟩, ⟨yard_spool, by decide +kernel⟩, ⟨dropping_spool, by decide +kernel⟩,
    ⟨backoff_spool, by decide +kernel⟩, by decide +kernel⟩

theorem witness_ClockLineInhibits :
    (yard.taking = true ∧ SpoolLaw yard ∧ yard.printers[(1 : Printer)].clockLow = false ∧
        yard.printers[(1 : Printer)].frame ≠ none ∧ 10 < 11 ∧ 10 ≤ 10 ∧ yard.printers[(1 : Printer)].job = some 1 ∧
        yard.jobs[(1 : JobNo)] = some printingJob) ∧
      (yard.printers[(0 : Printer)].clockLow = false ∧ yard.printers[(0 : Printer)].frame = none) ∧
      (SpoolLaw droppingYard ∧ droppingYard.printers[(1 : Printer)].dropping = true ∧
        droppingYard.printers[(1 : Printer)].clockLow = false ∧ droppingYard.printers[(1 : Printer)].frame ≠ none) ∧
      (SpoolLaw inhibitedYard ∧ inhibitedYard.printers[(1 : Printer)].clockLow = true ∧
        inhibitedYard.printers[(1 : Printer)].state = .inhibited) ∧ yard.printers[(1 : Printer)].state ≠ .inhibited :=
  ⟨⟨rfl, yard_spool, by decide +kernel⟩, by decide +kernel, ⟨dropping_spool, by decide +kernel⟩,
    ⟨inhibited_spool, by decide +kernel⟩, by decide +kernel⟩

theorem witness_SetParamSetsTheFittedValue :
    (Meets yard 0 0x50 (33 :: 0 :: (ParamValue.number 10000000000).enc) fun s => s.save = none ∧
        ¬ ∀ k : Port, s.settings.roles[k] ≠ .office) ∧
      (Meets saving 0 0x50 (33 :: 0 :: (ParamValue.number 0).enc) fun s => s.save ≠ none) ∧
      (Meets yard 0 0x50 (40 :: 0 :: (ParamValue.role .scale).enc) fun s => s.save = none ∧
        ∀ k : Port, (putSetting s.settings (.role 0) (.role .scale)).roles[k] ≠ .office) ∧
      (Meets yard 0 0x50 (38 :: 0 :: (ParamValue.enable false).enc) fun s => s.printers[(0 : Printer)].state = .idle) ∧
      (Meets { yard with printers := yard.printers.set 0 (.start false false) } 0 0x50
        (38 :: 0 :: (ParamValue.enable true).enc) fun s => s.printers[(0 : Printer)].state = .off) ∧
      (Meets yard 0 0x50 [16] fun _ => [(16 : Byte)].length < 2) ∧
      (Meets yard 0 0x50 (255 :: 0 :: []) fun _ => (paramOf 255 0).isNone = true) ∧
      paramOf 33 0 ≠ none ∧ (paramOf 40 0 = some (.role 0) ∧ paramOf 38 0 = some (.enable 0)) ∧ 1 ≤ 500 :=
  ⟨meets rfl (by decide +kernel), meets rfl (by decide), meets rfl (by decide +kernel), meets rfl (by decide +kernel),
    meets rfl (by decide +kernel), meets rfl (by decide), meets rfl (by decide), by decide, by decide, by decide⟩

/-- Values at the ends of their forms, and numbers and indexes beside the table's. -/
theorem witness_SetParamSetsTheFittedValue_table :
    ((Param.numeric .cashLimit).decode (ParamValue.number 1099511627775).enc = some (.number 1099511627775) ∧
        (Param.numeric .cashLimit).fit (.number 1099511627775) = .number 9999999999) ∧
      (Param.header 3).decode (ParamValue.text (some (List.replicate 32 0x7E))).enc =
        some (.text (some (List.replicate 32 0x7E))) ∧
      (Param.footer 1).decode (ParamValue.text none).enc = some (.text none) ∧
      (paramOf 8 2 = some (.channel .errorThreshold 2) ∧ paramOf 24 4 = some (.header 3) ∧ paramOf 40 3 = some (.role 3)) ∧
      (paramOf 50 0 = none ∧ ¬ (50 = 48 ∧ 0 < 16) ∧ ¬ (50 = 49 ∧ 0 < 16) ∧ ¬ ((50 = 56 ∨ 50 = 57 ∨ 50 = 58) ∧ 0 = 0)) ∧
      paramOf 48 16 = none ∧ Param.role 0 ≠ Param.role 1 := by decide +kernel

/-- A save in flight with its request deferred at SP0. -/
def savingAtPort : State :=
  { saving with ports := yard.ports.set 0 { yard.ports[0] with request := some ⟨7, 0x52, [], .deferred⟩ } }

theorem witness_SavesCompleteWithTheReadBack :
    (Meets yard 0 0x52 [] fun s => s.save = none) ∧ (Meets saving 0 0x52 [] fun s => s.save ≠ none) ∧
      (yard.taking = true ∧ yard.save = none) ∧
      (savingAtPort.save = some ⟨worked, 0⟩ ∧ savingAtPort.ports[(0 : Port)].request = some ⟨7, 0x52, [], .deferred⟩ ∧
        factorySettings.epoch ≠ worked.epoch) :=
  ⟨meets rfl rfl, meets rfl (by decide), ⟨rfl, rfl⟩, rfl, by decide +kernel, by decide⟩

theorem witness_NumberCounterAndClockAreSet :
    (Meets yard 0 0x53 (enc4 51) fun s => s.counter = .valid 50) ∧ (Meets yard 0 0x53 (enc4 50) fun s => s.counter = .valid 50) ∧
      (Meets { yard with counter := .exhausted } 0 0x53 (enc4 99999999) fun s => s.counter = .exhausted) ∧
      (Meets { yard with counter := .invalid } 0 0x53 (enc4 8) fun s => s.counter = .invalid ∧ s.heldNumbers = [1, 2, 3, 4, 5, 7, 6]) ∧
      (Meets yard 0 0x53 (enc4 100000000) fun _ => True) ∧
      (Meets yard 0 0x54 (enc4 86399 ++ encText (ascii "14.05.24")) fun _ => ∀ b ∈ ascii "14.05.24", printable b = true) ∧
      (Meets yard 0 0x54 (enc4 86400 ++ encText (ascii "14.05.24")) fun _ => True) ∧
      (Meets yard 0 0x54 (enc4 0 ++ encText (ascii "14.05.2")) fun _ => True) ∧ State.reset.clock = none ∧
      yard.clock = some ⟨86399, List.replicate 8 0x31⟩ :=
  ⟨meets rfl rfl, meets rfl rfl, meets rfl rfl, meets rfl ⟨rfl, by decide +kernel⟩, meets rfl trivial, meets rfl (by decide),
    meets rfl trivial, meets rfl trivial, rfl, rfl⟩

theorem witness_StartsAreCalledAndPowerIsLost :
    (Meets yard 0 0x55 [] fun s => s.save = none) ∧ (Meets saving 0 0x55 [] fun s => s.save ≠ none) ∧
      (Meets State.reset 0 0x56 [] fun s => s.save = none ∧ (∀ i : Slot, s.slots[i] = none) ∧ s.journal = []) ∧
      (Meets yard 0 0x56 [] fun s => s.save = none ∧ ∃ i : Slot, s.slots[i] ≠ none) ∧
      (Meets saving 0 0x56 [] fun s => s.save ≠ none) ∧
      (yard.powered = true ∧ yard.resetDriven = false ∧ ∀ x, yard.pendingStart ≠ some ⟨x, true⟩) ∧
      (({ yard with powered := false } : State).powered = false ∧ ({ yard with powered := false } : State).taking = false ∧
        yard.channels[Bridge.chan 1].beams = some (.start .clear, .start .clear)) ∧
      (({ yard with resetDriven := true } : State).resetDriven = true ∧ ∀ k : Printer,
        ({ yard with resetDriven := true } : State).printers[k].clockLow = false ∧
          ({ yard with resetDriven := true } : State).printers[k].state ≠ .inhibited) :=
  ⟨meets rfl rfl, meets rfl (by decide), meets rfl ⟨rfl, by decide +kernel, rfl⟩, meets rfl ⟨rfl, 0, by decide +kernel⟩,
    meets rfl (by decide), ⟨rfl, rfl, fun x => by simp [yard, State.reset]⟩, ⟨rfl, rfl, by decide +kernel⟩, rfl,
    by decide +kernel⟩

/-- RESET driven, printer 1 INHIBITED, its clock held low or high again. -/
def resetHeld (low : Bool) : State :=
  { inhibitedYard with
    resetDriven := true
    printers := inhibitedYard.printers.set 1 { inhibitedYard.printers[1] with clockLow := low } }

/-- RESET about to be released with a clock standing low, and with one released meanwhile. -/
theorem witness_StartsAreCalledAndPowerIsLost_clocks :
    ((resetHeld true).powered = true ∧ (resetHeld true).resetDriven = true ∧ (resetHeld true).taking = false ∧
        (resetHeld true).printers[(1 : Printer)].clockLow = true) ∧
      (resetHeld false).powered = true ∧ (resetHeld false).resetDriven = true ∧
        (resetHeld false).printers[(1 : Printer)].clockLow = false ∧
        (resetHeld false).printers[(1 : Printer)].state = .inhibited := by decide +kernel

theorem witness_RequestFramesReachThePort :
    yard.ports[(0 : Port)].role ≠ .off ∧ yard.ports[(0 : Port)].receiver = .hunt ∧
      (List.replicate 238 (0 : Byte)).length ≤ 238 ∧ (List.replicate 237 (0 : Byte)).length ≤ 237 := by decide +kernel

/-- SP1 in the middle of a frame, and its role OFF. -/
def receiving (r : PortReceiver) (role : Role) : State :=
  { yard with ports := yard.ports.set 1 { yard.ports[1] with receiver := r, role := role } }

theorem witness_PortBytesMoveTheReceiver :
    (yard.taking = true ∧ yard.ports[(1 : Port)].role ≠ .off ∧ yard.ports[(1 : Port)].receiver = .hunt) ∧
      (receiving .hunt .off).ports[(1 : Port)].role = .off ∧
      (receiving .length .scale).ports[(1 : Port)].receiver = .length ∧
      ((receiving (.body 2 [] 3) .scale).ports[(1 : Port)].receiver = .body 2 [] 3 ∧ 1 < 3) ∧
      ((receiving (.body 2 [5, 1] 1) .scale).ports[(1 : Port)].receiver = .body 2 [5, 1] 1 ∧
        byteSum ((2 : Byte) :: ([5, 1] ++ [0xF8])) = 0 ∧ byteSum ((2 : Byte) :: ([5, 1] ++ [0xF9])) ≠ 0) ∧
      (1 < 2 ∧ ¬ 241 ≤ 240) ∧ yard.ports[(1 : Port)].output = [] ∧
      (({ yard with ports := yard.ports.set 1 { yard.ports[1] with output := [⟨7, 0x01, .ok, []⟩] } } : State).ports[(1 :
        Port)].output = ⟨7, 0x01, .ok, []⟩ :: []) := by decide +kernel

theorem witness_WarmStartKeepsRetainedState :
    (SpoolLaw { yard with powered := false } ∧ ({ yard with powered := false } : State).markerValid = true) ∧
      (SpoolLaw yard ∧ yard.powered = true ∧ yard.resetDriven = false) ∧
      SpoolLaw { yard with pendingStart := some ⟨.warm, true⟩ } ∧
      ({ yard with pendingStart := some ⟨.warm, true⟩ } : State).taking = true := by
  refine ⟨⟨?_, rfl⟩, ⟨yard_spool, rfl, rfl⟩, yard_spool, rfl⟩
  exact spool_lawful yard_pages (by decide +kernel) (by decide +kernel) (by decide +kernel)

theorem witness_ColdStartEmptiesTheState :
    (({ yard with powered := false, markerValid := false } : State).powered = false ∧
        ({ yard with powered := false, markerValid := false } : State).markerValid = false) ∧
      ({ yard with powered := false, markerValid := false, resetDriven := true } : State).markerValid = false ∧
      ({ yard with pendingStart := some ⟨.cold, true⟩ } : State).taking = true ∧
      ({ yard with pendingStart := some ⟨.cold, true⟩ } : State).pendingStart = some ⟨.cold, true⟩ :=
  ⟨⟨rfl, rfl⟩, rfl, rfl, rfl⟩

/-! ### One step of the worked examples -/

/-- What one command leaves, or the state itself where it gives none. -/
def after (i : Instr) (s : State) : State :=
  match exec i s with
  | .next t => t
  | .fault _ => s
  | .refused _ => s

/-- The last answer at a port. -/
def lastAnswer (s : State) (p : Port) : Option Response := s.ports[p].output.getLast?

/-- 3.8, event 2: the gross of 243 800 hg issues number 40512. -/
theorem test_gross_issues_number :
    let s := after (.scaleByteReceived 0 0x0D)
      (hearing { arriving with counter := .valid 40512, numberWord := .valid 40512 } 0 (ascii "S+0243800DF"))
    lastAnswer s 1 = some ⟨11, 0x10, .ok, enc4 40512 ++ enc4 243800⟩ ∧ s.numberWord = .valid 40513 ∧
      (s.slots[(6 : Slot)].map fun t => (t.number, t.state)) = some (some 40512, .weighing) := by decide +kernel

/-- 3.8, event 4: the dump of grade 7 forms line 1 with A 157 182. -/
theorem test_dump_forms_a_line :
    let s := after (.scaleByteReceived 1 0x0D) (hearing steady 1 (ascii "S+0169210E1"))
    (s.slots[(5 : Slot)].map fun t => (t.total, t.state, t.weighings.map fun w => w.weight)) =
      some (157182, .weighing, [243800, 169200]) ∧ s.channels[(1 : Chan)].capture = none := by decide +kernel

/-- 3.8, event 6: the window expires with the EXIT beam BROKEN. -/
theorem test_window_expires_on_broken_beam :
    let s := after (.captureWindowExpiry 1) { yard with
      channels := yard.channels.set 1 { yard.channels[1] with beams := some (.start .clear, .start .broken) } }
    lastAnswer s 2 = some ⟨9, 0x11, .beamBroken, []⟩ ∧ s.slots[(5 : Slot)] = some (truck 7) := by decide +kernel

/-- Ticket 40512 at the window of SP3, with the lines of 4.6. -/
def workedTicket : Ticket :=
  { number := some 40512, kind := .truck, state := .atWindow, openedBy := 1, openedAt := some 27845
    seller := some (ascii "123456789"), plate := some (ascii "KX 4471"), weighings := workedRecord.weighings
    lines := workedRecord.lines, total := 795762, totalClamped := false, marker := none
    window := some { holder := 3, hold := 300 } }

/-- 5.10.1: the cash limit is 1 000 000, and the seller's tally stands at 150 000 in way 1 of bucket 10. -/
def settling : State :=
  { State.reset with
    settings := { worked with cashLimit := 1000000 }, day := 214, clock := some ⟨29870, ascii "14.05.24"⟩
    slots := (Vector.replicate 48 none).set 3 (some workedTicket)
    tally := (Vector.replicate 64 (Vector.replicate 4 none)).set 10
      #v[none, some ⟨ascii "123456789", 150000, 1, 40488⟩, none, none]
    jobs := State.reset.jobs.mapFinIdx fun k _ h => if k < 4 then some doneJob else none }

/-- 5.10.1: PAY pays 795 760 with R 2 by job 4, and leaves 945 760 on the tally and an allowance of 54 240. -/
theorem test_pay_worked_ticket :
    let s := after .pay (granted settling 3 0x32 (enc4 40512 ++ Method.cash.enc))
    lastAnswer s 3 = some ⟨7, 0x32, .ok, enc4 40512 ++ Method.cash.enc ++ enc5 795760 ++ enc5 2 ++ enc1 4 ++
        [1] ++ enc5 945760 ++ enc5 54240⟩ ∧
      s.tally[(10 : Fin 64)][(1 : Fin 4)] = some ⟨ascii "123456789", 945760, 2, 40512⟩ ∧
      s.journal = [.close workedRecord] ∧ s.slots[(3 : Slot)] = none := by decide +kernel

/-- 5.10.1: the receipt starts on the IDLE printer 1, and its drawer train runs. -/
theorem test_pay_starts_receipt :
    let s := after .pay (granted settling 3 0x32 (enc4 40512 ++ Method.cash.enc))
    (s.jobs[(4 : JobNo)].map fun j => (j.state, j.copies, j.written, j.pages.length)) = some (.printing, 2, 20, 3) ∧
      s.printers[(1 : Printer)].state = .sending ∧ s.printers[(1 : Printer)].train = some ⟨100, 100, 2, 1, true⟩ := by
  decide +kernel

/-- 9.8: the frame of 'T', least significant bit first, kind 0 and parity 0. -/
theorem test_frame_of_T :
    frameBits ⟨false, 0x54⟩ = [false, false, false, true, false, true, false, true, false, false, false, true] := by decide

/-- 9.8: a pull in period 6 aborts the frame. -/
theorem test_clock_pull_aborts :
    let e := (after (.clockLineLow 1 6) yard).printers[(1 : Printer)]
    (e.state, e.frame, e.inhibit, e.pendingByte) = (.inhibited, none, some 30, some ⟨false, 0⟩) := by decide +kernel

/-- 9.8: a pull in period 12 aborts nothing. -/
theorem test_clock_pull_late :
    let e := (after (.clockLineLow 1 12) yard).printers[(1 : Printer)]
    (e.state, e.frame) = (.sending, some 12) := by decide +kernel

/-- 9.8: a refused byte counts 1 and waits 5 ms. -/
theorem test_refused_byte :
    let e := (after (.printerFrameEnd 1 .refused) yard).printers[(1 : Printer)]
    (e.state, e.refusals, e.backoff, e.frame) = (.sending, 1, some 5, none) := by decide +kernel

/-- 9.8: the backoff's expiry begins the frame again. -/
theorem test_backoff_expiry :
    (after (.backoffExpiry 1) backoffYard).printers[(1 : Printer)].frame = some 1 := by decide +kernel

/-- R106: the POP that names the head removes it. -/
theorem test_pop_head :
    let s := after .journalPop (granted yard 0 0x39 (encFlag false ++ enc4 6))
    (s.journal, lastAnswer s 0) = ([], some ⟨7, 0x39, .ok, encFlag false ++ enc4 6 ++ enc1 0⟩) := by decide +kernel

/-- R106: the POP that names another record is answered with the head's key. -/
theorem test_pop_other :
    let s := after .journalPop (granted yard 0 0x39 (encFlag true ++ enc4 1))
    (s.journal, lastAnswer s 0) = (yard.journal, some ⟨7, 0x39, .wrongState, encFlag false ++ enc4 6⟩) := by
  decide +kernel

/-- R112, R114: day 65 535 is followed by day 1. -/
theorem test_day_close_wraps :
    let s := after .dayClose (granted { State.reset with day := 65535 } 0 0x3B [])
    (s.day, lastAnswer s 0) = (1, some ⟨7, 0x3B, .ok, enc2 65535 ++ enc2 1 ++ enc1 1⟩) := by decide +kernel

/-- R65: epoch 65 535 is followed by 0, with PRICES_SWITCHED at every port. -/
theorem test_switch_prices_wraps :
    let s := after .switchPrices (granted { yard with settings := { worked with epoch := 65535 } } 0 0x29 [])
    s.settings.epoch = 0 ∧ ∀ p : Port, s.ports[p].latched = 0x0081 := by decide +kernel

/-- 10.9.1: the last byte of GET_EVENTS with TAG 5 is judged, granted and pending at SP1. -/
theorem test_frame_is_granted :
    let s := after (.portByteReceived 1 0xF8)
      { yard with ports := yard.ports.set 1 { yard.ports[1] with receiver := .body 2 [5, 1] 1 } }
    s.requestEngine = some 1 ∧ s.ports[(1 : Port)].request = some ⟨5, 0x01, [], .waiting⟩ := by decide +kernel

end Sys2Proof.Tests
end

section
/-! SUPPORT. The scale channels (chapter 1): what a rounded weight is (R6), what the end of a capture leaves of the
channels (R17, R33), and what the byte that completes a good message does (R3, R7). -/

namespace Sys2Proof.Machine

/-! ### Rounding (R6) -/

/-- `r` is the multiple of `d` nearest to `w`, and of two nearest ones the one farther from zero. -/
def IsRoundingOf (d : Nat) (w r : Int) : Prop :=
  (d : Int) ∣ r ∧ ∀ m : Int, (d : Int) ∣ m →
    (r - w).natAbs < (m - w).natAbs ∨ (r - w).natAbs = (m - w).natAbs ∧ m.natAbs ≤ r.natAbs

theorem IsRoundingOf.neg {d : Nat} {w r : Int} (h : IsRoundingOf d w r) : IsRoundingOf d (-w) (-r) := by
  obtain ⟨hr, near⟩ := h
  refine ⟨hr.neg_right, fun m hm => ?_⟩
  have := near (-m) hm.neg_right
  omega

/-- Two different multiples of `d` lie at least `d` apart. -/
theorem multiples_apart {d m r : Int} (hm : d ∣ m) (hr : d ∣ r) : m = r ∨ m + d ≤ r ∨ r + d ≤ m := by
  rcases lt_trichotomy m r with h | h | h
  · have := Int.le_of_dvd (by omega) (Int.dvd_sub hr hm); omega
  · exact .inl h
  · have := Int.le_of_dvd (by omega) (Int.dvd_sub hm hr); omega

/-- For a weight of 0 or above, the multiple less than half a division below it or at most half a division above it:
a tie takes the upper one. -/
theorem isRoundingOf_of_within {d : Nat} {w r : Int} (hw : 0 ≤ w) (hr : (d : Int) ∣ r) (hlo : 2 * r ≤ 2 * w + d)
    (hhi : 2 * w < 2 * r + d) : IsRoundingOf d w r := by
  refine ⟨hr, fun m hm => ?_⟩
  rcases multiples_apart hm hr with h | h | h <;> omega

theorem roundWeight_neg (d : Nat) (w : Int) : roundWeight d (-w) = -roundWeight d w := by
  rcases lt_trichotomy w 0 with h | rfl | h
  · simp [roundWeight, h, h.le]
  · have : d / (2 * d) = 0 := by rw [Nat.div_eq_zero_iff]; omega
    simp [roundWeight, this]
  · simp [roundWeight, h, h.le]

theorem roundWeight_isRoundingOf_of_nonneg {d : Nat} (hd : 1 ≤ d) {w : Int} (hw : 0 ≤ w) :
    IsRoundingOf d w (roundWeight d w) := by
  have hr : roundWeight d w = (d : Int) * ((2 * w.natAbs + d) / (2 * d) : Nat) := by
    simp [roundWeight, hw, mul_comm]
  have hlo := Nat.mul_div_le (2 * w.natAbs + d) (2 * d)
  have hhi := Nat.lt_mul_div_succ (2 * w.natAbs + d) (show 0 < 2 * d by omega)
  rw [hr]
  generalize (2 * w.natAbs + d) / (2 * d) = q at hlo hhi
  have cast_steps : ((d * q : Nat) : Int) = d * q := Nat.cast_mul d q
  rw [mul_assoc] at hlo
  rw [mul_assoc, mul_add, mul_one] at hhi
  exact isRoundingOf_of_within hw (Int.dvd_mul_right _ _) (by omega) (by omega)

theorem roundWeight_isRoundingOf {d : Nat} (hd : 1 ≤ d) (w : Int) : IsRoundingOf d w (roundWeight d w) := by
  rcases le_total 0 w with h | h
  · exact roundWeight_isRoundingOf_of_nonneg hd h
  · have := (roundWeight_isRoundingOf_of_nonneg hd (Int.neg_nonneg_of_nonpos h)).neg
    rwa [roundWeight_neg, neg_neg, neg_neg] at this

/-! ### The end of a capture seen from the channels (R17, R33) -/

@[simp] theorem State.putTicket_channels (s : State) (i : Slot) (t : Ticket) (e : Bool) :
    (s.putTicket i t e).channels = s.channels := by
  cases e <;> rfl

@[simp] theorem State.answerMarker_channels (s : State) (m : Marker) (o : OutcomeCode) (d : List Byte) :
    (s.answerMarker m o d).channels = s.channels := rfl

@[simp] theorem actOnOutcome_channels (i : Slot) (t : Ticket) (m : Marker) (res : CaptureResult) (s : State) :
    (actOnOutcome i t m res s).channels = s.channels := by
  unfold actOnOutcome
  split
  · split <;> simp
  all_goals simp

@[simp] theorem captureOutcome_channels (c : Chan) (kind : CaptureKind) (i : Slot) (res : CaptureResult) (s : State) :
    (captureOutcome c kind i res s).channels = s.channels := by
  unfold captureOutcome
  split
  · rfl
  · split
    · rfl
    · split
      · exact actOnOutcome_channels ..
      · rfl

/-- Whatever its outcome does at the table, the end of a capture deletes the capture and leaves the channels as they
were in all else. -/
@[simp] theorem endCapture_channels (c : Chan) (res : CaptureResult) (s : State) :
    (endCapture c res s).channels = s.channels.set c { s.channels[c] with capture := none } := by
  unfold endCapture
  split
  · rename_i h
    rw [← h]
    exact (set_self s.channels c).symm
  · simp

/-! ### A good message (R3, R7) -/

@[simp] theorem stabilize_lastReading (st : ChannelSettings) (status : Status) (w : Int) (ch : Channel) :
    (stabilize st status w ch).lastReading = ch.lastReading := by
  unfold stabilize
  split
  · split <;> rfl
  · rfl

@[simp] theorem Channel.takeReading_lastReading (st : ChannelSettings) (status : Status) (w : Int) (ch : Channel) :
    (ch.takeReading st status w).lastReading = some ⟨status, w⟩ := by
  unfold Channel.takeReading
  dsimp only
  split
  · exact stabilize_lastReading ..
  · rfl

/-- The channel keeps the rounded weight, whether or not a capture ends with it. -/
theorem goodMessage_lastReading {c : Chan} {s : State} (status : Status) (w : Int)
    (h : s.channels[c].state ≠ .fault) :
    (goodMessage c status w s).channels[c].lastReading =
      some ⟨status, roundWeight s.settings.channels[c].division w⟩ := by
  unfold goodMessage
  dsimp only
  rw [if_neg h]
  split <;> simp

/-- A good message acts through its rounded weight only. -/
theorem goodMessage_congr {c : Chan} {s : State} (status : Status) {w w' : Int}
    (h : roundWeight s.settings.channels[c].division w' = roundWeight s.settings.channels[c].division w) :
    goodMessage c status w' s = goodMessage c status w s := by
  unfold goodMessage
  dsimp only
  rw [h]

/-- Of two settings of one channel the later one stands. -/
theorem State.setChannel_setChannel (s : State) (c : Chan) (x y : Channel) :
    (s.setChannel c x).setChannel c y = s.setChannel c y := by
  simp [State.setChannel]

/-- The channel after its message is complete: its receiver is IDLE again. -/
def State.receiverIdle (s : State) (c : Chan) : State :=
  s.setChannel c { s.channels[c] with receiver := .idle }

theorem State.receiverIdle_state (s : State) (c : Chan) :
    (s.receiverIdle c).channels[c].state = s.channels[c].state := by
  simp [State.receiverIdle]

/-- What the receiver held is forgotten. -/
theorem State.receiverIdle_setReceiver (s : State) (c : Chan) (x : ScaleReceiver) :
    (s.setChannel c { s.channels[c] with receiver := x }).receiverIdle c = s.receiverIdle c := by
  unfold State.receiverIdle
  rw [State.setChannel_setChannel, State.setChannel_get, if_pos rfl]

/-- The byte that completes a good message sets the receiver IDLE, and the message is taken. -/
theorem exec_of_goodMessageAt {s : State} {c : Chan} {b : Byte} {status : Status} {w : Int}
    (h : GoodMessageAt s c b status w) :
    exec (.scaleByteReceived c b) s = .next (goodMessage c status w (s.receiverIdle c)) := by
  obtain ⟨taking, rfl, held, assembling, full, judged⟩ := h
  change Host.Outcome.next (whileTaking (scaleByte c Config.endMark) s) = _
  have notStart : Config.endMark ≠ Config.startMark := by decide
  simp only [whileTaking, taking, scaleByte, assembling, full, judged, notStart, State.receiverIdle, if_true, if_false,
    lt_irrefl]

/-- Settles O26: the rounding is the nearest multiple, and a good message acts through it alone. -/
theorem readingsAreRoundedToTheDivision : Obligations.ReadingsAreRoundedToTheDivision := by
  refine ⟨fun d w m hd hm => ?_, fun s c b status w h hs => ⟨⟨_, exec_of_goodMessageAt h, ?_⟩, ?_⟩⟩
  · obtain ⟨hr, near⟩ := roundWeight_isRoundingOf hd w
    exact ⟨hr, near m hm⟩
  · exact goodMessage_lastReading status w (by rwa [State.receiverIdle_state])
  · intro held b' w' u h' hw
    have same : u.receiverIdle c = s.receiverIdle c := s.receiverIdle_setReceiver c (.assembling held)
    rw [exec_of_goodMessageAt h', exec_of_goodMessageAt h, same,
      goodMessage_congr (s := s.receiverIdle c) status hw]

end Sys2Proof.Machine
end

section
/-! SUPPORT. A granted request and its answer in the words of the claims: what `GrantedTo`, `Refuses` and
`AnsweredAfter` say, read from the block rule that serves the request (R31, R171, R172). -/

namespace Sys2Proof.Machine

/-! ### Apart -/

/-- Apart from port records and arbiter: some port records, grant and pointer turn the one state into the other. -/
theorem apart_iff {t u : State} :
    Apart t u ↔ ∃ ports engine pointer, t = { u with ports := ports, requestEngine := engine, pointer := pointer } := by
  constructor
  · exact fun h => ⟨_, _, _, h⟩
  · rintro ⟨_, _, _, rfl⟩
    rfl

theorem Apart.trans {t u v : State} (h : Apart t u) (h' : Apart u v) : Apart t v := by
  obtain ⟨_, _, _, rfl⟩ := apart_iff.mp h
  obtain ⟨_, _, _, rfl⟩ := apart_iff.mp h'
  rfl

theorem apart_answer (r : Req) (o : OutcomeCode) (d : List Byte) (s : State) : Apart (answer r o d s) s := rfl

theorem apart_releaseEngine (s : State) : Apart s.releaseEngine s := by
  rw [releaseEngine_eq]
  rcases arbitrate_cases { s with requestEngine := none } with ⟨h, -⟩ | ⟨p, -, -, -, -, h⟩ <;> rw [h] <;> rfl

/-! ### The next grant (R172) -/

theorem releaseEngine_of_called {t : State} (h : t.pendingStart.isSome = true) :
    t.releaseEngine = { t with requestEngine := none } := by
  simp [State.releaseEngine, State.arbitrate, h]

theorem releaseEngine_of_waiting {t : State} {q : Port} (h : t.pendingStart = none)
    (waiting : ((grantOrder t.pointer).find? fun p => t.ports[p].grantable) = some q) :
    t.releaseEngine = { t with requestEngine := some q, pointer := q } := by
  unfold State.releaseEngine State.arbitrate
  simp only [h, waiting, Option.isSome_none, Bool.or_self, Bool.false_eq_true, if_false]

theorem releaseEngine_of_unasked {t : State} (h : t.pendingStart = none)
    (unasked : ((grantOrder t.pointer).find? fun p => t.ports[p].grantable) = none) :
    t.releaseEngine = { t with requestEngine := none } := by
  unfold State.releaseEngine State.arbitrate
  simp only [h, unasked, Option.isSome_none, Bool.or_self, Bool.false_eq_true, if_false]

/-- The freed engine goes where the statements say, from the pointer as it stood. -/
theorem nextGrant_releaseEngine {s t : State} (h : t.pointer = s.pointer) : NextGrant s t.releaseEngine := by
  unfold NextGrant
  simp only [State.releaseEngine_pendingStart, State.releaseEngine_ports, ← h]
  split <;> rename_i called
  · simp only [releaseEngine_of_called called, and_self]
  · simp only [Bool.not_eq_true, Option.isSome_eq_false_iff, Option.isNone_iff_eq_none] at called
    split <;> rename_i found
    · simp only [releaseEngine_of_waiting called found, and_self]
    · simp only [releaseEngine_of_unasked called found, and_self]

/-! ### Answers -/

/-- An answered state's ports are those of `f`, where `f` gives the ports before the answer. -/
theorem answeredAfter_releaseEngine {s t : State} {r : Req} {o : OutcomeCode} {d : List Byte}
    {f : Port → StationPort → StationPort} (ports : ∀ q : Port, t.ports[q] = f q s.ports[q])
    (pointer : t.pointer = s.pointer) :
    AnsweredAfter s (answer r o d t).releaseEngine r.port ⟨r.tag, r.code, o, d⟩ f := by
  refine ⟨fun q hq => ?_, ?_, nextGrant_releaseEngine pointer⟩
  · rw [State.releaseEngine_ports, answer_other r o d t hq, ports]
  · rw [State.releaseEngine_ports, answer_port, ports]
    rfl

/-! ### Serving the granted request -/

/-- The request row `i` is served at its CODE by the rule `h` of its block. -/
def ServedBy (i : Instr) (code : Byte) (h : Req → State → State) : Prop :=
  ∀ s, exec i s = .next (serve code h s)

section
variable {i : Instr} {code : Byte} {h : Req → State → State} {s t : State} {p : Port} {tag : Byte} {data : List Byte}
  {o : OutcomeCode} {d : List Byte}

theorem exec_granted (served : ServedBy i code h) (granted : GrantedTo s p tag code data) :
    exec i s = .next (h ⟨p, tag, code, data⟩ s).releaseEngine := by
  obtain ⟨taking, engine, request⟩ := granted
  rw [served, serve_granted taking (granted_of engine request)]

/-- A rule that answers on `t` answers as the statements say, `t` being all else it changes. -/
theorem answers_after (served : ServedBy i code h) (granted : GrantedTo s p tag code data)
    {f : Port → StationPort → StationPort}
    (rule : h ⟨p, tag, code, data⟩ s = answer ⟨p, tag, code, data⟩ o d t)
    (ports : ∀ q : Port, t.ports[q] = f q s.ports[q]) (pointer : t.pointer = s.pointer) :
    ∃ u, exec i s = .next u ∧ Apart u t ∧ AnsweredAfter s u p ⟨tag, code, o, d⟩ f := by
  refine ⟨_, exec_granted served granted, ?_, ?_⟩ <;> rw [rule]
  · exact (apart_releaseEngine _).trans (apart_answer _ _ _ t)
  · exact answeredAfter_releaseEngine ports pointer

/-- The same where the ports and the pointer stand as they were before the answer. -/
theorem answers (served : ServedBy i code h) (granted : GrantedTo s p tag code data)
    (rule : h ⟨p, tag, code, data⟩ s = answer ⟨p, tag, code, data⟩ o d t) (ports : t.ports = s.ports)
    (pointer : t.pointer = s.pointer) :
    ∃ u, exec i s = .next u ∧ Apart u t ∧ Answered s u p ⟨tag, code, o, d⟩ :=
  answers_after (f := fun _ x => x) served granted rule (fun q => by rw [ports]) pointer

theorem refuses (served : ServedBy i code h) (granted : GrantedTo s p tag code data)
    (rule : h ⟨p, tag, code, data⟩ s = answer ⟨p, tag, code, data⟩ o [] s) : Refuses i s p ⟨tag, code, o, []⟩ :=
  answers served granted rule rfl rfl

end

/-! ### Requests that name a ticket (R31) -/

theorem numberInRange_iff {n : Nat} : numberInRange n = true ↔ 1 ≤ n ∧ n ≤ Config.maxTicketNumber := by
  simp [numberInRange]

section
variable (r : Req) {n : Nat} {s : State} (k : Slot → Ticket → State)

theorem onTicket_of_outOfRange (h : n = 0 ∨ 99999999 < n) : onTicket r n s k = answer r .badParam [] s := by
  have : numberInRange n = false := by
    rw [Bool.eq_false_iff, ne_eq, numberInRange_iff, Config.maxTicketNumber]
    omega
  simp [onTicket, this]

theorem onTicket_of_noTicket (h : NoTicket s n) : onTicket r n s k = answer r .noTicket [] s := by
  obtain ⟨least, most, unheld⟩ := h
  rcases onTicket_cases r n s k with ⟨range, -⟩ | ⟨-, answered, -⟩ | ⟨i, t, -, -, slot, number, -⟩
  · exact absurd (numberInRange_iff.mpr ⟨least, most⟩) (by simp [range])
  · exact answered
  · exact absurd number (unheld i t slot)

theorem onTicket_of_ticketAt {i : Slot} {t : Ticket} (h : TicketAt s n i t) : onTicket r n s k = k i t := by
  obtain ⟨least, most, slot, number, only⟩ := h
  rcases onTicket_cases r n s k with ⟨range, -⟩ | ⟨-, -, unfound⟩ | ⟨i', t', -, -, slot', number', continued⟩
  · exact absurd (numberInRange_iff.mpr ⟨least, most⟩) (by simp [range])
  · have := List.find?_eq_none.mp unfound i (List.mem_finRange i)
    simp [slot, number] at this
  · obtain rfl := only i' t' slot' number'
    obtain rfl := Option.some.inj (slot.symm.trans slot')
    exact continued

end

/-! ### Texts of requests (R39, R40, R179) -/

theorem holdsUnprintable_iff {x : Text} : holdsUnprintable x = true ↔ ∃ b ∈ x, printable b = false := by
  simp [holdsUnprintable]

theorem holdsUnprintable_eq_false {x : Text} (h : ∀ b ∈ x, printable b = true) : holdsUnprintable x = false := by
  simpa [holdsUnprintable] using h

theorem orAbsent_eq (x : Text) : orAbsent x = if x = [] then none else some x := by
  simp [orAbsent]

/-- A text longer than its request takes does not decode (R170). -/
theorem decodeNumberText_of_long {max n : Nat} {x : Text} (long : max < x.length) (h : x.length < 256) :
    decodeNumberText max (enc4 n ++ encText x) = none := by
  have length : (BitVec.ofNat 8 x.length).toNat = x.length := by rw [toNat_ofNat8]; omega
  have refused : takeText max (encText x) = none := by
    simp only [encText, enc1_eq, List.cons_append, List.nil_append, takeText, length]
    rw [if_neg (by omega)]
  simp [enc4_eq, decodeNumberText, refused]

end Sys2Proof.Machine
end

section
/-! SUPPORT. The hand-over of a document to the spool (R126, R133): it acts on the six parts that the Spool Manager and
the Printer Engines hold, reads nothing besides them but the settings, and so is the same in every state with the same
spool and settings. -/

namespace Sys2Proof.Machine

/-! ### Operations on the spool alone -/

/-- `f` changes the spool's six parts alone, and forms them from the spool and the settings alone. -/
def ActsOnSpool (f : State → State) : Prop :=
  ∀ u s : State, u.settings = s.settings → f (withSpool u s) = withSpool u (f s)

namespace ActsOnSpool

variable {f g : State → State}

/-- What lies outside the spool stands as it was. -/
theorem frame (hf : ActsOnSpool f) (s : State) : f s = withSpool s (f s) := hf s s rfl

theorem settings (hf : ActsOnSpool f) (s : State) : (f s).settings = s.settings := by
  rw [hf.frame s]
  rfl

theorem unchanged : ActsOnSpool fun s => s := fun _ _ _ => rfl

theorem comp (hg : ActsOnSpool g) (hf : ActsOnSpool f) : ActsOnSpool fun s => g (f s) := by
  intro u s h
  dsimp only
  rw [hf u s h, hg u (f s) (h.trans (hf.settings s).symm)]

end ActsOnSpool

theorem setJob_actsOnSpool (j : JobNo) (x : Option Job) : ActsOnSpool (·.setJob j x) := fun _ _ _ => rfl

theorem joinQueue_actsOnSpool (p : Printer) (j : JobNo) : ActsOnSpool (·.joinQueue p j) := fun _ _ _ => rfl

theorem allocate_actsOnSpool (j : JobNo) (n : Nat) (x : Job) : ActsOnSpool (·.allocate j n x) := fun _ _ _ => rfl

theorem enterPart_actsOnSpool (p : Printer) (j : Job) (part : CopyPart) : ActsOnSpool (·.enterPart p j part) :=
  fun _ _ _ => by cases part <;> rfl

theorem writeLine_actsOnSpool (j : Job) (n : Nat) (l : Text × Bool) : ActsOnSpool (·.writeLine j n l) := by
  intro u s _
  dsimp only [State.writeLine]
  split <;> rfl

theorem writeLines_actsOnSpool (j : Job) (n : Nat) (ls : List (Text × Bool)) : ActsOnSpool (·.writeLines j n ls) := by
  induction ls generalizing n with
  | nil => exact .unchanged
  | cons l ls ih => exact (ih (n + 1)).comp (writeLine_actsOnSpool j n l)

theorem beginFrame_actsOnSpool (p : Printer) : ActsOnSpool (·.beginFrame p) := by
  intro u s h
  have engine : (withSpool u s).printers[p] = s.printers[p] := rfl
  have settings : (withSpool u s).settings = s.settings := h
  simp only [State.beginFrame, engine, settings]
  split_ifs <;> rfl

theorem nextPart_actsOnSpool (p : Printer) (jn : JobNo) : ActsOnSpool (·.nextPart p jn) := by
  intro u s h
  have job : (withSpool u s).jobs[jn] = s.jobs[jn] := rfl
  have settings : (withSpool u s).settings = s.settings := h
  simp only [State.nextPart, job, settings]
  cases s.jobs[jn] with
  | none => rfl
  | some j =>
    dsimp only
    split_ifs
    · exact enterPart_actsOnSpool p j .cut u s h
    · exact enterPart_actsOnSpool p j (.stored j.sent) u s h
    · exact enterPart_actsOnSpool p j .cut u s h
    · rfl

theorem beginCopy_actsOnSpool (p : Printer) (jn : JobNo) : ActsOnSpool (·.beginCopy p jn) := by
  intro u s h
  have job : (withSpool u s).jobs[jn] = s.jobs[jn] := rfl
  simp only [State.beginCopy, job]
  cases s.jobs[jn] with
  | none => rfl
  | some j =>
    dsimp only
    split_ifs
    · exact ((beginFrame_actsOnSpool p).comp ((enterPart_actsOnSpool p _ _).comp (setJob_actsOnSpool jn _))) u s h
    · exact ((beginFrame_actsOnSpool p).comp ((nextPart_actsOnSpool p jn).comp (setJob_actsOnSpool jn _))) u s h

theorem offer_actsOnSpool (p : Printer) : ActsOnSpool (·.offer p) := by
  intro u s h
  have head : (withSpool u s).headJob p = s.headJob p := rfl
  have engine : (withSpool u s).printers[p] = s.printers[p] := rfl
  simp only [State.offer, head, engine]
  cases s.headJob p with
  | none => rfl
  | some x =>
    obtain ⟨jn, j⟩ := x
    dsimp only
    split_ifs
    · exact beginCopy_actsOnSpool p jn u
        ((s.setJob jn (some { j with state := .printing })).setEngine p
          { s.printers[p] with state := .sending, job := some jn }) h
    · rfl

/-- A document's lines are written into the pages of its job, and the job joins its queue (R126). -/
def State.placeDocument (s : State) (j : JobNo) (p : Printer) (doc : List (Text × Bool)) : State :=
  match s.jobs[j] with
  | none => s
  | some job => ((s.writeLines job 0 doc).joinQueue p j).offer p

theorem handOver_eq (s : State) (j : JobNo) (p : Printer) (copies : Nat) (duplicate : Bool) (r : CloseRecord) :
    s.handOver j p copies duplicate r =
      (s.allocate j (pagesNeeded (lineCount s.settings duplicate r))
          (composerJob p r.number (lineCount s.settings duplicate r) copies)).placeDocument j p
        (documentLines s.settings duplicate r) := rfl

theorem placeDocument_actsOnSpool (j : JobNo) (p : Printer) (doc : List (Text × Bool)) :
    ActsOnSpool (·.placeDocument j p doc) := by
  intro u s h
  have job : (withSpool u s).jobs[j] = s.jobs[j] := rfl
  simp only [State.placeDocument, job]
  cases s.jobs[j] with
  | none => rfl
  | some x =>
    exact ((offer_actsOnSpool p).comp ((joinQueue_actsOnSpool p j).comp (writeLines_actsOnSpool x 0 doc))) u s h

/-- The spool takes a document in the same way whatever else the state holds, its settings excepted. -/
theorem handOver_actsOnSpool (j : JobNo) (p : Printer) (copies : Nat) (duplicate : Bool) (r : CloseRecord) :
    ActsOnSpool (·.handOver j p copies duplicate r) := by
  intro u s h
  have settings : (withSpool u s).settings = s.settings := h
  simp only [handOver_eq, settings]
  exact ((placeDocument_actsOnSpool j p _).comp (allocate_actsOnSpool j _ _)) u s h

/-! ### Room in the spool (R133) -/

/-- The first entry of a table that a test picks: no entry below it is picked. -/
theorem find?_finRange_eq_some {n : Nat} {test : Fin n → Bool} {i : Fin n}
    (h : (List.finRange n).find? test = some i) : test i = true ∧ ∀ k, k < i → test k = false := by
  obtain ⟨picked, m, hm, rfl, before⟩ := List.find?_eq_some_iff_getElem.mp h
  refine ⟨picked, fun k hk => ?_⟩
  simpa using before k.val (by simpa [Fin.lt_def] using hk)

theorem freeJob_lowest {s : State} {j : JobNo} (h : s.freeJob = some j) : LowestFreeJob s j := by
  obtain ⟨free, lowest⟩ := find?_finRange_eq_some h
  exact ⟨by simpa using free, fun k hk => by simpa [Option.isSome_iff_ne_none] using lowest k hk⟩

theorem freeJob_eq_none {s : State} (h : s.freeJob = none) (k : JobNo) : s.jobs[k] ≠ none := by
  simpa using List.find?_eq_none.mp h k (List.mem_finRange k)

theorem roomFor_some {s : State} {duplicate : Bool} {r : CloseRecord} {j : JobNo}
    (h : s.roomFor duplicate r = some j) :
    (lineCount s.settings duplicate r + 7) / 8 ≤ s.freePages.length ∧ LowestFreeJob s j := by
  unfold State.roomFor State.canAllocate at h
  split at h
  · exact ⟨‹_›, freeJob_lowest h⟩
  · cases h

theorem roomFor_none {s : State} {duplicate : Bool} {r : CloseRecord} (h : s.roomFor duplicate r = none) :
    s.freePages.length < (lineCount s.settings duplicate r + 7) / 8 ∨ ∀ k : JobNo, s.jobs[k] ≠ none := by
  unfold State.roomFor State.canAllocate at h
  split at h
  · exact .inr (freeJob_eq_none h)
  · exact .inl (Nat.lt_of_not_le ‹_›)

end Sys2Proof.Machine
end

section
/-! SUPPORT. The Ticket Table's own requests (chapter 2): SET_SELLER and SET_PLATE. -/

namespace Sys2Proof.Machine

theorem setSeller_served : ServedBy .setSeller 0x16 setSeller := fun _ => rfl

theorem setPlate_served : ServedBy .setPlate 0x17 setPlate := fun _ => rfl

/-! ### The form of a request of a ticket number and a text (R39, R40) -/

section
variable {max n : Nat} {x : Text} {r : Req} {s : State} {k : Text → Slot → Ticket → State}

/-- A request of a ticket number and a text of at most `max` printable characters, which goes on at the ticket. -/
def onTicketText (max : Nat) (r : Req) (s : State) (k : Text → Slot → Ticket → State) : State :=
  match decodeNumberText max r.data with
  | none => answer r .badParam [] s
  | some (n, x) => if holdsUnprintable x then answer r .badParam [] s else onTicket r n s (k x)

theorem setSeller_eq (r : Req) (s : State) :
    setSeller r s = onTicketText 16 r s fun id i t => setSellerOn r i t id s := rfl

theorem setPlate_eq (r : Req) (s : State) :
    setPlate r s = onTicketText 10 r s fun plate i t => setPlateOn r i t plate s := rfl

theorem onTicketText_of_form (hn : n < 4294967296) (hx : x.length < 256) (short : x.length ≤ max)
    (print : ∀ b ∈ x, printable b = true) (data : r.data = enc4 n ++ encText x) :
    onTicketText max r s k = onTicket r n s (k x) := by
  simp [onTicketText, data, decodeNumberText_enc max n x hn short hx, holdsUnprintable_eq_false print]

theorem onTicketText_of_badParam (hn : n < 4294967296) (hx : x.length < 256)
    (data : r.data = enc4 n ++ encText x)
    (bad : n = 0 ∨ 99999999 < n ∨ max < x.length ∨ ∃ b ∈ x, printable b = false) :
    onTicketText max r s k = answer r .badParam [] s := by
  unfold onTicketText
  rcases lt_or_ge max x.length with long | short
  · simp [data, decodeNumberText_of_long long hx]
  · rw [data, decodeNumberText_enc max n x hn short hx]
    dsimp only
    split
    · rfl
    · rename_i print
      rw [holdsUnprintable_iff] at print
      simp only [print, or_false] at bad
      exact onTicket_of_outOfRange _ _ (by omega)

end

/-! ### SET_PLATE and SET_SELLER on a found ticket -/

section
variable {r : Req} {i : Slot} {t : Ticket} {s : State}

theorem setPlateOn_busy (x : Text) (h : t.state = .atWindow ∨ t.marker ≠ none) :
    setPlateOn r i t x s = answer r .ticketBusy [] s := by
  rw [← Option.isSome_iff_ne_none] at h
  rw [setPlateOn, if_pos h]

theorem setPlateOn_taken (x : Text) (h : t.state ≠ .atWindow) (h' : t.marker = none) :
    setPlateOn r i t x s =
      answer r .ok [] (s.setSlot i (some { t with plate := if x = [] then none else some x })) := by
  simp [setPlateOn, h, h', orAbsent_eq]

theorem setSellerOn_refused {o : OutcomeCode} (x : Text)
    (h : sellerRefusal s.ports[r.port].role r.port t = some o) : setSellerOn r i t x s = answer r o [] s := by
  simp only [setSellerOn, h]

theorem setSellerOn_taken (x : Text) (h : sellerRefusal s.ports[r.port].role r.port t = none) :
    setSellerOn r i t x s =
      answer r .ok [] (s.setSlot i (some { t with seller := if x = [] then none else some (x.map foldUpper) })) := by
  simp only [setSellerOn, h, orAbsent_eq, List.map_eq_nil_iff]

/-- The ticket stands at the window of another port: said of a ticket at the window. -/
theorem heldByOther_iff {p : Port} (h : t.state = .atWindow) :
    t.heldByOther p = true ↔ ∃ w, t.window = some w ∧ w.holder ≠ p := by
  simp [Ticket.heldByOther, h, Option.any_eq_true]

/-- SET_SELLER's judgement by role and ticket state (R39), as the statement asks it. -/
theorem sellerRefusal_eq (role : Role) (p : Port) (t : Ticket) :
    sellerRefusal role p t =
      if role = .payout ∧ t.state ≠ .atWindow then some .wrongState
      else if role = .payout ∧ (∃ w, t.window = some w ∧ w.holder ≠ p) then some .ticketBusy
      else if role ≠ .payout ∧ (t.state = .atWindow ∨ t.marker ≠ none) then some .ticketBusy
      else none := by
  unfold sellerRefusal
  by_cases payout : role = .payout
  · by_cases window : t.state = .atWindow
    · simp only [payout, window, heldByOther_iff window, true_and, ne_eq, not_true_eq_false, if_true, if_false,
        false_and]
    · simp [payout, window]
  · simp [payout, Option.isSome_iff_ne_none]

end

/-- Settles O25: SET_PLATE and SET_SELLER judge form, number, ticket and state in this order and then set the text. -/
theorem sellerAndPlateAreSet : Obligations.SellerAndPlateAreSet := by
  refine ⟨rfl, rfl, fun s p tag n x hn hx => ⟨fun granted => ?_, fun granted => ?_⟩⟩
  · have formed (short : x.length ≤ 10) (print : ∀ b ∈ x, printable b = true) :=
      (setPlate_eq ⟨p, tag, 0x17, enc4 n ++ encText x⟩ s).trans (onTicketText_of_form hn hx short print rfl)
    refine ⟨fun bad => refuses setPlate_served granted (onTicketText_of_badParam hn hx rfl bad),
      fun short print => ⟨fun unheld => ?_, fun i t ticket => ⟨fun busy => ?_, fun window marker => ?_⟩⟩⟩
    · exact refuses setPlate_served granted ((formed short print).trans (onTicket_of_noTicket _ _ unheld))
    · exact refuses setPlate_served granted
        ((formed short print).trans ((onTicket_of_ticketAt _ _ ticket).trans (setPlateOn_busy x busy)))
    · exact answers setPlate_served granted
        ((formed short print).trans ((onTicket_of_ticketAt _ _ ticket).trans (setPlateOn_taken x window marker))) rfl rfl
  · have formed (short : x.length ≤ 16) (print : ∀ b ∈ x, printable b = true) :=
      (setSeller_eq ⟨p, tag, 0x16, enc4 n ++ encText x⟩ s).trans (onTicketText_of_form hn hx short print rfl)
    refine ⟨fun bad => refuses setSeller_served granted (onTicketText_of_badParam hn hx rfl bad),
      fun short print => ⟨fun unheld => ?_, fun i t ticket => ?_⟩⟩
    · exact refuses setSeller_served granted ((formed short print).trans (onTicket_of_noTicket _ _ unheld))
    have found := (formed short print).trans (onTicket_of_ticketAt _ _ ticket)
    have refused {o : OutcomeCode} (h : sellerRefusal s.ports[p].role p t = some o) :=
      refuses setSeller_served granted (found.trans (setSellerOn_refused x h))
    have judged := sellerRefusal_eq s.ports[p].role p t
    split
    case isTrue h => exact refused (judged.trans (if_pos h))
    case isFalse h =>
    rw [if_neg h] at judged
    split
    case isTrue h => exact refused (judged.trans (if_pos h))
    case isFalse h =>
    rw [if_neg h] at judged
    split
    case isTrue h => exact refused (judged.trans (if_pos h))
    case isFalse h =>
    exact answers setSeller_served granted (found.trans (setSellerOn_taken x (judged.trans (if_neg h)))) rfl rfl

end Sys2Proof.Machine
end

section
/-! SUPPORT. The Ticket Table's own requests (chapter 2): VOID (R36, R37, R128). -/

namespace Sys2Proof.Machine

theorem void_served : ServedBy .void 0x18 void := fun _ => rfl

/-! ### The checks of VOID (R36) -/

section
variable {n reason : Nat} {r : Req} {s : State} {i : Slot} {t : Ticket}

theorem void_of_badParam (hn : n < 4294967296) (hreason : reason < 256) (data : r.data = enc4 n ++ enc1 reason)
    (bad : n = 0 ∨ 99999999 < n ∨ reason = 0 ∨ 15 < reason) : void r s = answer r .badParam [] s := by
  simp only [void, data, decodeNumberOne_enc n reason hn hreason]
  split
  · exact onTicket_of_outOfRange _ _ (by omega)
  · rfl

theorem void_of_form (hn : n < 4294967296) (data : r.data = enc4 n ++ enc1 reason) (least : 1 ≤ reason)
    (most : reason ≤ 15) : void r s = onTicket r n s fun i t => voidOn r i t reason s := by
  simp only [void, data, decodeNumberOne_enc n reason hn (by omega)]
  rw [if_pos ⟨least, most⟩]

theorem voidOn_atWindow (h : t.state = .atWindow) : voidOn r i t reason s = answer r .ticketBusy [] s := by
  rw [voidOn, if_pos h]

theorem journalFull_iff : s.journalFull = true ↔ 128 ≤ s.journal.length := by
  exact decide_eq_true_iff

theorem voidOn_journalFull (h : t.state ≠ .atWindow) (full : 128 ≤ s.journal.length) :
    voidOn r i t reason s = answer r .journalFull [] s := by
  rw [voidOn, if_neg h, if_pos (journalFull_iff.mpr full)]

/-- The job number of the slip that an accepted VOID answers, where it makes one (R37, R128). -/
def slipNumber (s : State) (p : Port) (record : CloseRecord) : Option JobNo :=
  (slipPlace s p record).map fun x => x.2

theorem voidOn_accepted (h : t.state ≠ .atWindow) (room : s.journal.length < 128) :
    voidOn r i t reason s =
      answer r .ok
        (enc4 (t.number.getD 0) ++ encOpt (fun j : JobNo => enc1 j.val)
          (slipNumber s r.port (closeRecordOf s t r.port (.voided reason))))
        (voidEffects r.port i t reason s) := by
  rw [voidOn, if_neg h, if_neg (by rw [journalFull_iff]; omega)]
  rfl

end

/-! ### The abandonment of the capture in flight (R18, R37) -/

/-- The channels after the abandonment of a marker's capture. -/
def abandonedChannels (s : State) (t : Ticket) : Vector Channel 3 :=
  match t.marker with
  | some m => s.channels.set m.channel { s.channels[m.channel] with capture := none }
  | none => s.channels

/-- A port record after the abandonment of a marker's capture: the marker's own port is answered NO_TICKET. -/
def abandonedPort (t : Ticket) (q : Port) (x : StationPort) : StationPort :=
  match t.marker with
  | some m => if m.port = q then answeredPort x ⟨m.tag, m.purpose.code, .noTicket, []⟩ else x
  | none => x

theorem abandonCapture_of_running {c : Chan} {i : Slot} {s : State} {x : Capture}
    (running : s.channels[c].capture = some x) (slot : x.slot = i) :
    abandonCapture c i s = s.setChannel c { s.channels[c] with capture := none } := by
  simp only [abandonCapture, running]
  rw [if_pos slot]

/-- A lawful marker's channel holds the capture of its slot (R26, R32). -/
theorem MarkerLaw.capture {s : State} (law : MarkerLaw s) {i : Slot} {t : Ticket} {m : Marker}
    (slot : s.slots[i] = some t) (marker : t.marker = some m) :
    ∃ x, s.channels[m.channel].capture = some x ∧ x.slot = i := by
  obtain ⟨held, -⟩ := law.1 i m (by rw [State.marks, slot]; exact marker)
  obtain ⟨x, running, kind_slot⟩ := Option.map_eq_some_iff.mp held
  exact ⟨x, running, (Prod.ext_iff.mp kind_slot).2⟩

theorem abandonMarker_spec {s : State} (law : MarkerLaw s) {i : Slot} {t : Ticket} (slot : s.slots[i] = some t) :
    ∃ ports, abandonMarker i t s = { s with channels := abandonedChannels s t, ports := ports } ∧
      ∀ q : Port, ports[q] = abandonedPort t q s.ports[q] := by
  cases marker : t.marker with
  | none =>
    simp only [abandonMarker, abandonedChannels, abandonedPort, marker]
    exact ⟨s.ports, rfl, fun _ => rfl⟩
  | some m =>
    obtain ⟨x, running, here⟩ := law.capture slot marker
    simp only [abandonMarker, abandonedChannels, abandonedPort, marker, abandonCapture_of_running running here]
    refine ⟨_, rfl, fun q => ?_⟩
    rw [getElem_set_fin]
    split
    · subst_vars
      rfl
    · rfl

/-! ### The slip (R128) -/

/-- The state that has handed a void slip over, where there is a place for one. -/
def slipSpool (s : State) (record : CloseRecord) : Option (Printer × JobNo) → State
  | none => s
  | some (printer, j) => s.handOver j printer 1 false record

theorem slipSpool_actsOnSpool (record : CloseRecord) (place : Option (Printer × JobNo)) :
    ActsOnSpool (slipSpool · record place) := by
  cases place with
  | none => exact .unchanged
  | some x => exact handOver_actsOnSpool x.2 x.1 1 false record

/-- A slip has a place exactly where the port's entry 0 names a printer and the spool has the pages and a number. -/
theorem slipPlace_cases (s : State) (p : Port) (record : CloseRecord) :
    (slipPlace s p record = none ∧
        (s.settings.printersOf[p][(0 : Fin 4)] = none ∨
          s.freePages.length < (lineCount s.settings false record + 7) / 8 ∨ ∀ k : JobNo, s.jobs[k] ≠ none)) ∨
      ∃ printer j, slipPlace s p record = some (printer, j) ∧
        s.settings.printersOf[p][(0 : Fin 4)] = some printer ∧
        (lineCount s.settings false record + 7) / 8 ≤ s.freePages.length ∧ LowestFreeJob s j := by
  unfold slipPlace State.printerOf
  cases entry : s.settings.printersOf[p][(0 : Fin 4)] with
  | none => exact .inl ⟨rfl, .inl rfl⟩
  | some printer =>
    cases room : s.roomFor false record with
    | none => exact .inl ⟨rfl, .inr (roomFor_none room)⟩
    | some j => exact .inr ⟨printer, j, rfl, rfl, roomFor_some room⟩

/-! ### The totals (R110) -/

/-- New totals change the port records at the most: TOTAL_SATURATED is latched at OFFICE ports where a mark is new. -/
theorem setTotals_spec (s : State) (x : Totals) :
    ∃ ports, s.setTotals x = { s with totals := x, ports := ports } ∧
      ∀ q : Port, ports[q] =
        latchedIf (newlyMarked s.totals x && decide (s.ports[q].role = .office)) .totalSaturated s.ports[q] := by
  unfold State.setTotals
  cases newlyMarked s.totals x with
  | false => exact ⟨s.ports, rfl, fun _ => rfl⟩
  | true =>
    refine ⟨_, rfl, fun q => ?_⟩
    rw [getElem_mapEntries]
    simp [latchedIf, StationPort.latch]

/-! ### The event of an accepted VOID (R37) -/

/-- What an accepted VOID does outside the spool and its slot: abandonment, close record and totals. -/
def voidBooks (i : Slot) (t : Ticket) (record : CloseRecord) (s : State) : State :=
  let s := abandonMarker i t s
  (s.append (.close record)).setTotals s.totals.addVoid

theorem voidEffects_eq (p : Port) (i : Slot) (t : Ticket) (reason : Nat) (s : State) :
    let record := closeRecordOf s t p (.voided reason)
    voidEffects p i t reason s =
      (slipSpool (voidBooks i t record s) record (slipPlace s p record)).setSlot i none := rfl

section
variable {s : State} (law : MarkerLaw s) {i : Slot} {t : Ticket} (slot : s.slots[i] = some t)
include law slot

theorem voidBooks_spec (record : CloseRecord) :
    ∃ ports,
      voidBooks i t record s = { s with
        channels := abandonedChannels s t
        totals := s.totals.addVoid
        journal := s.journal ++ [.close record]
        ports := ports } ∧
      ∀ q : Port, ports[q] =
        latchedIf (newlyMarked s.totals s.totals.addVoid && decide ((abandonedPort t q s.ports[q]).role = .office))
          .totalSaturated (abandonedPort t q s.ports[q]) := by
  obtain ⟨answered, abandoned, answered_eq⟩ := abandonMarker_spec law slot
  obtain ⟨latched, counted, latched_eq⟩ :=
    setTotals_spec ((abandonMarker i t s).append (.close record)) (abandonMarker i t s).totals.addVoid
  refine ⟨latched, ?_, fun q => ?_⟩
  · rw [voidBooks, counted, abandoned]
    rfl
  · rw [latched_eq, abandoned]
    simp only [State.append_ports, State.append_totals, answered_eq]

/-- What an accepted VOID leaves: capture abandoned, record appended, VOID counted, slip made, slot FREE. -/
theorem voidEffects_spec (p : Port) (reason : Nat) :
    let record := closeRecordOf s t p (.voided reason)
    ∃ ports,
      voidEffects p i t reason s = { withSpool s (slipSpool s record (slipPlace s p record)) with
        channels := abandonedChannels s t
        totals := s.totals.addVoid
        journal := s.journal ++ [.close record]
        slots := s.slots.set i none
        ports := ports } ∧
      ∀ q : Port, ports[q] =
        latchedIf (newlyMarked s.totals s.totals.addVoid && decide ((abandonedPort t q s.ports[q]).role = .office))
          .totalSaturated (abandonedPort t q s.ports[q]) := by
  intro record
  obtain ⟨ports, books, ports_eq⟩ := voidBooks_spec law slot record
  have spooled := slipSpool_actsOnSpool record (slipPlace s p record) (voidBooks i t record s) s (by rw [books])
  refine ⟨ports, ?_, ports_eq⟩
  rw [voidEffects_eq]
  rw [books] at spooled ⊢
  exact congrArg (·.setSlot i none) spooled

theorem voidEffects_pointer (p : Port) (reason : Nat) : (voidEffects p i t reason s).pointer = s.pointer := by
  obtain ⟨_, effects, -⟩ := voidEffects_spec law slot p reason
  rw [effects]
  rfl

end

/-- Settles O38: VOID judges form, number, ticket, window and journal in this order, and an accepted one is the event of
R37. -/
theorem voidClosesTheTicket : Obligations.VoidClosesTheTicket := by
  refine ⟨rfl, fun s p tag n reason hn hreason granted =>
    ⟨fun bad => refuses void_served granted (void_of_badParam hn hreason rfl bad), fun least most => ?_⟩⟩
  have formed : void ⟨p, tag, 0x18, enc4 n ++ enc1 reason⟩ s = _ := void_of_form hn rfl least most
  refine ⟨fun unheld => refuses void_served granted (formed.trans (onTicket_of_noTicket _ _ unheld)), fun i t ticket => ?_⟩
  have found := formed.trans (onTicket_of_ticketAt _ _ ticket)
  refine ⟨fun window => refuses void_served granted (found.trans (voidOn_atWindow window)),
    fun window full => refuses void_served granted (found.trans (voidOn_journalFull window full)),
    fun window room law => ?_⟩
  intro record totals saturated abandoned
  obtain ⟨-, -, slot, number, -⟩ := ticket
  have itsRecord : closeRecordOf s t p (.voided reason) = record := by
    simp only [closeRecordOf, number]
    rfl
  have accepted := found.trans (voidOn_accepted window room)
  obtain ⟨ports, effects, ports_eq⟩ := voidEffects_spec law slot p reason
  obtain ⟨u, executed, apart, answered⟩ := answers_after void_served granted accepted
    (f := fun q x => saturated (abandoned q x)) (by rw [effects]; exact ports_eq)
    (voidEffects_pointer law slot p reason)
  rw [effects, itsRecord] at apart
  rw [itsRecord, number] at answered
  refine ⟨u, slipSpool s record (slipPlace s p record), slipNumber s p record, ?_, executed, apart.trans rfl, answered⟩
  unfold slipNumber
  rcases slipPlace_cases s p record with ⟨place, noPlace⟩ | ⟨printer, j, place, entry, pages, lowest⟩
  · rw [place]
    exact .inl ⟨rfl, rfl, noPlace⟩
  · rw [place]
    exact .inr ⟨printer, j, entry, pages, lowest, rfl, rfl⟩

end Sys2Proof.Machine
end

section
/-! SUPPORT. Weighing sequences (chapter 3): the three requests that start a capture, OPEN_TRUCK (R49), DUMP (R51) and
ADD_BIN (R56). -/

namespace Sys2Proof.Machine

theorem openTruck_served : ServedBy .openTruck 0x10 openTruck := fun _ => rfl

theorem dump_served : ServedBy .dump 0x11 dump := fun _ => rfl

theorem addBin_served : ServedBy .addBin 0x13 addBin := fun _ => rfl

/-! ### The free slot (R22) -/

theorem freeSlot_eq_none_iff {s : State} : s.freeSlot = none ↔ ∀ k : Slot, s.slots[k] ≠ none := by
  simp [State.freeSlot, List.find?_eq_none]

theorem freeSlot_lowest {s : State} {i : Slot} (h : s.freeSlot = some i) : LowestFreeSlot s i := by
  obtain ⟨free, lowest⟩ := find?_finRange_eq_some h
  exact ⟨by simpa using free, fun k hk => by simpa [Option.isSome_iff_ne_none] using lowest k hk⟩

theorem LowestFreeSlot.unique {s : State} {i j : Slot} (hi : LowestFreeSlot s i) (hj : LowestFreeSlot s j) : i = j := by
  obtain ⟨freeI, lowestI⟩ := hi
  obtain ⟨freeJ, lowestJ⟩ := hj
  rcases lt_trichotomy i j with h | h | h
  · exact absurd freeI (lowestJ i h)
  · exact h
  · exact absurd freeJ (lowestI j h)

theorem LowestFreeSlot.freeSlot {s : State} {i : Slot} (h : LowestFreeSlot s i) : s.freeSlot = some i := by
  cases found : s.freeSlot with
  | none => exact absurd h.1 (freeSlot_eq_none_iff.mp found i)
  | some j => rw [(freeSlot_lowest found).unique h]

/-! ### A request left pending in phase DEFERRED (R173) -/

theorem deferredAt_releaseEngine {s t : State} {p : Port} {q : Request} (request : s.ports[p].request = some q)
    (ports : t.ports = s.ports) (pointer : t.pointer = s.pointer) :
    DeferredAt s (t.deferRequest p).releaseEngine p { q with phase := .deferred } := by
  refine ⟨fun k hk => ?_, ?_, nextGrant_releaseEngine pointer⟩
  · rw [State.releaseEngine_ports, State.deferRequest_get, if_neg (Ne.symm hk), ports]
  · rw [State.releaseEngine_ports, State.deferRequest_get, if_pos rfl, ports, request, Option.map_some]

/-- The response ends the request in whatever phase it stands. -/
theorem answer_deferRequest (r : Req) (o : OutcomeCode) (d : List Byte) (s : State) :
    answer r o d (s.deferRequest r.port) = answer r o d s := by
  simp [answer, State.respond, State.deferRequest, State.setPort, StationPort.respond]

/-! ### Starting a capture (R15, R48) -/

/-- The channel with the record of a capture that starts now, its window the one in force (R15). -/
def capturing (s : State) (kind : CaptureKind) (i : Slot) (c : Chan) : Channel :=
  { s.channels[c] with capture := some { kind := kind, slot := i, window := s.settings.channels[c].captureWindow } }

section
variable {s : State} {c : Chan}

theorem startCapture_of_heard (kind : CaptureKind) (i : Slot) (notFault : s.channels[c].state ≠ .fault)
    (signal : s.channels[c].state ≠ .noSignal) : startCapture c kind i s = s.setChannel c (capturing s kind i c) := by
  simp only [startCapture, notFault, signal, or_self, if_false, capturing]

/-- Setting the channel to what it holds changes nothing. -/
theorem setChannel_self (free : s.channels[c].capture = none) :
    s.setChannel c { s.channels[c] with capture := none } = s := by
  rw [← free]
  exact congrArg (fun channels => { s with channels := channels }) (set_self s.channels c)

/-- In FAULT or NO_SIGNAL the capture ends in the event that started it, and leaves nothing at the channel. -/
theorem startCapture_of_unheard (kind : CaptureKind) (i : Slot) (free : s.channels[c].capture = none)
    (unheard : s.channels[c].state = .fault ∨ s.channels[c].state = .noSignal) :
    startCapture c kind i s = captureOutcome c kind i .scaleFault s := by
  have ends : endCapture c .scaleFault (s.setChannel c (capturing s kind i c)) =
      captureOutcome c kind i .scaleFault (s.setChannel c { s.channels[c] with capture := none }) := by
    simp only [endCapture, State.setChannel_get, if_true, State.setChannel_setChannel, capturing]
  rw [setChannel_self free] at ends
  rw [← ends]
  exact if_pos unheard

end

/-! ### Acceptance (R32, R33, R48) -/

theorem actOnOutcome_scaleFault (i : Slot) (t : Ticket) (m : Marker) (s : State) :
    actOnOutcome i t m .scaleFault s = (s.setSlot i (afterFailure t m)).answerMarker m .scaleFault [] := by
  unfold actOnOutcome afterFailure
  cases m.purpose <;> rfl

/-- What a failure leaves of a ticket does not tell whether the marker was set. -/
theorem afterFailure_marked (t : Ticket) (m m' : Marker) :
    afterFailure { t with marker := some m' } m = afterFailure t m := by
  unfold afterFailure
  cases m.purpose <;> rfl

/-- The outcome that finds its marker in its slot is acted on. -/
theorem captureOutcome_of_marker {s : State} {i : Slot} {t : Ticket} {m : Marker} (res : CaptureResult)
    (slot : s.slots[i] = some t) (marker : t.marker = some m) :
    captureOutcome m.channel m.purpose.kind i res s = actOnOutcome i t m res s := by
  simp [captureOutcome, slot, marker]

/-- Two settings of a slot, the second to what it held before, change nothing. -/
theorem setSlot_restore {s : State} {i : Slot} {x y : Option Ticket} (h : s.slots[i] = y) :
    (s.setSlot i x).setSlot i y = s := by
  subst h
  simp only [State.setSlot, Vector.set_set, set_self]

section
variable {r : Req} {i : Slot} {t : Ticket} {p : Purpose} {c : Chan} {s : State}

theorem acceptCapture_of_heard (notFault : s.channels[c].state ≠ .fault) (signal : s.channels[c].state ≠ .noSignal) :
    acceptCapture r i t p c s =
      ((s.setSlot i (some { t with marker := some ⟨p, c, r.port, r.tag⟩ })).setChannel c
        (capturing s p.kind i c)).deferRequest r.port :=
  startCapture_of_heard p.kind i notFault signal

/-- On a channel in FAULT or NO_SIGNAL the request is answered and the slot is as it was before. -/
theorem acceptCapture_of_unheard (free : s.channels[c].capture = none)
    (unheard : s.channels[c].state = .fault ∨ s.channels[c].state = .noSignal) (code : r.code = p.code)
    (before : s.slots[i] = afterFailure t ⟨p, c, r.port, r.tag⟩) :
    acceptCapture r i t p c s = answer r .scaleFault [] s := by
  let m : Marker := ⟨p, c, r.port, r.tag⟩
  let marked := s.setSlot i (some { t with marker := some m })
  have slot : (marked.deferRequest r.port).slots[i] = some { t with marker := some m } := by
    rw [State.deferRequest_slots, State.setSlot_get, if_pos rfl]
  calc acceptCapture r i t p c s
      = captureOutcome c p.kind i .scaleFault (marked.deferRequest r.port) :=
        startCapture_of_unheard p.kind i free unheard
    _ = actOnOutcome i { t with marker := some m } m .scaleFault (marked.deferRequest r.port) :=
        captureOutcome_of_marker (m := m) .scaleFault slot rfl
    _ = ((marked.deferRequest r.port).setSlot i s.slots[i]).answerMarker m .scaleFault [] := by
        rw [actOnOutcome_scaleFault, afterFailure_marked, ← before]
    _ = answer r .scaleFault [] ((marked.setSlot i s.slots[i]).deferRequest r.port) := by
        rw [State.answerMarker, ← code]
        rfl
    _ = answer r .scaleFault [] s := by rw [setSlot_restore rfl, answer_deferRequest]

end

/-- A rule that accepts its request with a capture: refused on a channel in FAULT or NO_SIGNAL, deferred on any
other. -/
theorem startsCapture {row : Instr} {code : Byte} {h : Req → State → State} {s : State} {q : Port} {tag : Byte}
    {data : List Byte} {i : Slot} {t : Ticket} {p : Purpose} {c : Chan} (served : ServedBy row code h)
    (granted : GrantedTo s q tag code data)
    (rule : h ⟨q, tag, code, data⟩ s = acceptCapture ⟨q, tag, code, data⟩ i t p c s) (itsCode : code = p.code)
    (before : s.slots[i] = afterFailure t ⟨p, c, q, tag⟩) (free : s.channels[c].capture = none) :
    (s.channels[c].state = .fault ∨ s.channels[c].state = .noSignal →
      Refuses row s q ⟨tag, code, .scaleFault, []⟩) ∧
    (s.channels[c].state ≠ .fault → s.channels[c].state ≠ .noSignal →
      ∃ u, exec row s = .next u ∧
        Apart u { s with
          slots := s.slots.set i (some { t with marker := some ⟨p, c, q, tag⟩ })
          channels := s.channels.set c (capturing s p.kind i c) } ∧
        DeferredAt s u q ⟨tag, code, data, .deferred⟩) := by
  refine ⟨fun unheard => ?_, fun notFault signal => ?_⟩
  · exact refuses served granted (rule.trans (acceptCapture_of_unheard free unheard itsCode before))
  · refine ⟨_, exec_granted served granted, ?_, ?_⟩ <;> rw [rule, acceptCapture_of_heard notFault signal]
    · exact (apart_releaseEngine _).trans rfl
    · obtain ⟨-, -, request⟩ := granted
      exact deferredAt_releaseEngine request rfl rfl

/-! ### The checks of OPEN_TRUCK (R49) -/

/-- A text above its bound is not taken (R170). -/
theorem takeText_of_long {max : Nat} {x : Text} (long : max < x.length) (h : x.length < 256) :
    takeText max (encText x) = none := by
  have length : (BitVec.ofNat 8 x.length).toNat = x.length := by rw [toNat_ofNat8]; omega
  simp only [encText, enc1_eq, List.cons_append, List.nil_append, takeText, length]
  exact if_neg (by omega)

theorem decodeOpenTruck_of_long {c : Nat} {x : Text} (long : 10 < x.length) (h : x.length < 256) :
    decodeOpenTruck (enc1 c ++ encText x) = none := by
  simp [enc1_eq, decodeOpenTruck, takeText_of_long long h]

section
variable {r : Req} {s : State} {plate : Text} {i : Slot} {c : Chan}

theorem openTruck_of_form (b : Bridge) (short : plate.length ≤ 10) (print : ∀ x ∈ plate, printable x = true)
    (data : r.data = enc1 b.val ++ encText plate) : openTruck r s = openTruckOn r b.chan plate s := by
  simp only [openTruck, data, decodeOpenTruck_enc b.val plate (by omega) short, holdsUnprintable_eq_false print,
    Bool.false_eq_true, if_false]
  exact dif_pos b.isLt

theorem openTruck_of_badParam {k : Nat} (hk : k < 256) (hx : plate.length < 256)
    (data : r.data = enc1 k ++ encText plate)
    (bad : ¬ (k < 2 ∧ plate.length ≤ 10 ∧ ∀ x ∈ plate, printable x = true)) :
    openTruck r s = answer r .badParam [] s := by
  unfold openTruck
  rcases lt_or_ge 10 plate.length with long | short
  · rw [data, decodeOpenTruck_of_long long hx]
  · rw [data, decodeOpenTruck_enc k plate hk short]
    dsimp only
    split_ifs with bridge unprintable
    · rfl
    · refine absurd ⟨bridge, short, fun x hx => ?_⟩ bad
      simp only [holdsUnprintable_iff, not_exists, not_and, Bool.not_eq_false] at unprintable
      exact unprintable x hx
    · rfl

theorem noNumber_iff {x : Counter} : x.noNumber = true ↔ x = .invalid ∨ x = .exhausted := by
  cases x <;> simp [Counter.noNumber]

theorem openTruckOn_noNumber (h : s.counter = .invalid ∨ s.counter = .exhausted) :
    openTruckOn r c plate s = answer r .noNumber [] s := by
  rw [openTruckOn, if_pos (noNumber_iff.mpr h)]

theorem openTruckOn_tableFull (number : ¬ (s.counter = .invalid ∨ s.counter = .exhausted))
    (full : ∀ k : Slot, s.slots[k] ≠ none) : openTruckOn r c plate s = answer r .tableFull [] s := by
  rw [openTruckOn, if_neg (mt noNumber_iff.mp number), freeSlot_eq_none_iff.mpr full]

theorem openTruckOn_of_freeSlot (number : ¬ (s.counter = .invalid ∨ s.counter = .exhausted))
    (free : s.freeSlot = some i) :
    openTruckOn r c plate s =
      if s.channels[c].capture ≠ none then answer r .channelBusy [] s
      else acceptCapture r i (newTicket .truck .opening r.port (if plate = [] then none else some plate)) .gross c s := by
  rw [openTruckOn, if_neg (mt noNumber_iff.mp number), free, orAbsent_eq]
  simp only [Option.isSome_iff_ne_none]

end

/-! ### The checks of DUMP and ADD_BIN (R51, R56) -/

/-- The entry of an ACTIVE grade as R51 and R56 judge it. -/
theorem gradeRefusal_eq (s : State) (g : GradeIx) :
    gradeRefusal s g =
      if s.settings.active[g].disabled then some .gradeDisabled
      else if s.settings.active[g].price = none then some .priceMissing else none := by
  simp only [gradeRefusal, Option.isNone_iff_eq_none]

theorem weighOn_eq (r : Req) (i : Slot) (t : Ticket) (need : TicketState) (g : GradeIx) (p : Purpose) (c : Chan)
    (s : State) :
    weighOn r i t need g p c s =
      if t.state ≠ need ∨ t.marker ≠ none then answer r .ticketBusy [] s
      else if s.settings.active[g].disabled then answer r .gradeDisabled [] s
      else if s.settings.active[g].price = none then answer r .priceMissing [] s
      else if s.channels[c].capture ≠ none then answer r .channelBusy [] s
      else acceptCapture r i t p c s := by
  simp only [weighOn, gradeRefusal_eq, Option.isSome_iff_ne_none]
  split_ifs <;> rfl

theorem weighOn_accepted {r : Req} {i : Slot} {t : Ticket} {need : TicketState} {g : GradeIx} {p : Purpose} {c : Chan}
    {s : State} (state : t.state = need) (marker : t.marker = none) (enabled : s.settings.active[g].disabled = false)
    (priced : s.settings.active[g].price ≠ none) (free : s.channels[c].capture = none) :
    weighOn r i t need g p c s = acceptCapture r i t p c s := by
  rw [weighOn_eq, if_neg (by simp [state, marker]), if_neg (ne_true_of_eq_false enabled), if_neg priced,
    if_neg (not_not.mpr free)]

/-- The checks on a found ticket, in their order, as the refusals of the request. -/
theorem weighOn_refusals {row : Instr} {code : Byte} {h : Req → State → State} {s : State} {q : Port} {tag : Byte}
    {data : List Byte} {i : Slot} {t : Ticket} {need : TicketState} {g : GradeIx} {p : Purpose} {c : Chan}
    (served : ServedBy row code h) (granted : GrantedTo s q tag code data)
    (rule : h ⟨q, tag, code, data⟩ s = weighOn ⟨q, tag, code, data⟩ i t need g p c s) :
    if t.state ≠ need ∨ t.marker ≠ none then Refuses row s q ⟨tag, code, .ticketBusy, []⟩
    else if s.settings.active[g].disabled then Refuses row s q ⟨tag, code, .gradeDisabled, []⟩
    else if s.settings.active[g].price = none then Refuses row s q ⟨tag, code, .priceMissing, []⟩
    else if s.channels[c].capture ≠ none then Refuses row s q ⟨tag, code, .channelBusy, []⟩
    else True := by
  rw [weighOn_eq] at rule
  split_ifs at rule ⊢
  all_goals exact refuses served granted rule

/-- The number of a ticket that is found fits the four bytes of a request (R31). -/
theorem TicketAt.number_lt {s : State} {n : Nat} {i : Slot} {t : Ticket} (h : TicketAt s n i t) : n < 4294967296 := by
  obtain ⟨-, most, -⟩ := h
  rw [Config.maxTicketNumber] at most
  omega

/-- A failed dump or bin leaves the ticket as it was found before its marker was set (R35). -/
theorem TicketAt.before {s : State} {n : Nat} {i : Slot} {t : Ticket} {m : Marker} (h : TicketAt s n i t)
    (marker : t.marker = none) (weighs : m.purpose ≠ .gross) : s.slots[i] = afterFailure t m := by
  obtain ⟨-, -, slot, -⟩ := h
  rw [slot]
  unfold afterFailure
  split
  · contradiction
  all_goals rw [← marker]

/-- A number of a grade as the spec counts them names a grade (R63). -/
theorem exists_grade {g : Nat} (least : 1 ≤ g) (most : g ≤ 64) : ∃ x : GradeIx, x.number = g :=
  ⟨⟨g - 1, by omega⟩, Nat.sub_add_cancel least⟩

theorem gradeNumber_bounds (g : GradeIx) : 1 ≤ g.number ∧ g.number ≤ 64 := by
  unfold GradeIx.number
  omega

/-! ### The form of DUMP (R51) -/

theorem enc1_eq_encFlag {f : Nat} (h : f ≤ 1) : enc1 f = encFlag (f == 1) := by
  interval_cases f <;> decide

/-- A final flag byte above 1 does not decode (R170). -/
theorem decodeDump_of_noFlag (n c g : Nat) {f : Nat} (above : 1 < f) (hf : f < 256) :
    decodeDump (enc4 n ++ enc1 c ++ enc1 g ++ enc1 f) = none := by
  have noFlag : decFlag (BitVec.ofNat 8 f) = none := by
    have value : (BitVec.ofNat 8 f).toNat = f := by rw [toNat_ofNat8]; omega
    have other (b : Byte) (hb : b.toNat ≤ 1) : BitVec.ofNat 8 f ≠ b := fun h => by
      rw [h] at value
      omega
    rw [decFlag, if_neg (other 0 (by decide)), if_neg (other 1 (by decide))]
  simp [enc4_eq, enc1_eq, decodeDump, noFlag]

section
variable {r : Req} {s : State} {n : Nat}

theorem dump_of_form (hn : n < 4294967296) (b : Bridge) (g : GradeIx) (final : Bool)
    (data : r.data = enc4 n ++ enc1 b.val ++ enc1 g.number ++ encFlag final) :
    dump r s = onTicket r n s fun i t => weighOn r i t .weighing g (.dump g final) b.chan s := by
  have form : b.val < 2 ∧ 1 ≤ g.number ∧ g.number ≤ 64 := ⟨b.isLt, gradeNumber_bounds g⟩
  simp only [dump, data, decodeDump_enc n b.val g.number final hn (by omega) (by omega)]
  exact dif_pos form

theorem dump_of_badParam {c g f : Nat} (hn : n < 4294967296) (hc : c < 256) (hg : g < 256) (hf : f < 256)
    (data : r.data = enc4 n ++ enc1 c ++ enc1 g ++ enc1 f)
    (bad : ¬ ((1 ≤ n ∧ n ≤ Config.maxTicketNumber) ∧ c < 2 ∧ (1 ≤ g ∧ g ≤ 64) ∧ f ≤ 1)) :
    dump r s = answer r .badParam [] s := by
  unfold dump
  rcases lt_or_ge 1 f with above | flag
  · rw [data, decodeDump_of_noFlag n c g above hf]
  · rw [data, enc1_eq_encFlag flag, decodeDump_enc n c g _ hn hc hg]
    dsimp only
    split_ifs with form
    · rw [Config.maxTicketNumber] at bad
      exact onTicket_of_outOfRange _ _ (by omega)
    · rfl

/-! ### The form of ADD_BIN (R56) -/

theorem addBin_of_form (hn : n < 4294967296) (g : GradeIx) (k : Container)
    (data : r.data = enc4 n ++ enc1 g.number ++ enc1 k.val) :
    addBin r s = onTicket r n s fun i t => weighOn r i t .counter g (.bin g k) 2 s := by
  obtain ⟨least, most⟩ := gradeNumber_bounds g
  have form : 1 ≤ g.number ∧ g.number ≤ 64 ∧ k.val < 16 := ⟨least, most, k.isLt⟩
  simp only [addBin, data, decodeAddBin_enc n g.number k.val hn (by omega) (by omega)]
  exact dif_pos form

theorem addBin_of_badParam {g k : Nat} (hn : n < 4294967296) (hg : g < 256) (hk : k < 256)
    (data : r.data = enc4 n ++ enc1 g ++ enc1 k)
    (bad : ¬ ((1 ≤ n ∧ n ≤ Config.maxTicketNumber) ∧ k < 16 ∧ 1 ≤ g ∧ g ≤ 64)) :
    addBin r s = answer r .badParam [] s := by
  simp only [addBin, data, decodeAddBin_enc n g k hn hg hk]
  split_ifs with form
  · rw [Config.maxTicketNumber] at bad
    exact onTicket_of_outOfRange _ _ (by omega)
  · rfl

end

/-- Settles O22: OPEN_TRUCK, DUMP and ADD_BIN judge form, ticket, grade and channel in their order, and an accepted one
starts its capture. -/
theorem captureRequestsCheckAndStart : Obligations.CaptureRequestsCheckAndStart := by
  refine ⟨fun s p tag => ⟨fun c plate hc hx granted => ?_, fun n c g final hn hc hg hfinal granted => ?_,
    fun n g c hn hg hc granted => ?_⟩, fun s p tag => ?_⟩
  · split
    case isFalse bad => exact refuses openTruck_served granted (openTruck_of_badParam hc hx rfl bad)
    case isTrue form =>
    obtain ⟨bridge, short, print⟩ := form
    have formed : openTruck ⟨p, tag, 0x10, enc1 c ++ encText plate⟩ s = _ :=
      openTruck_of_form ⟨c, bridge⟩ short print rfl
    split_ifs with noNumber full busy
    · exact refuses openTruck_served granted (formed.trans (openTruckOn_noNumber noNumber))
    · exact refuses openTruck_served granted (formed.trans (openTruckOn_tableFull noNumber full))
    · obtain ⟨i, free⟩ := Option.ne_none_iff_exists'.mp (mt freeSlot_eq_none_iff.mp full)
      exact refuses openTruck_served granted
        (formed.trans ((openTruckOn_of_freeSlot noNumber free).trans (if_pos busy)))
  · split
    case isFalse bad => exact refuses dump_served granted (dump_of_badParam hn hc hg hfinal rfl bad)
    case isTrue form =>
    obtain ⟨-, bridge, ⟨least, most⟩, flag⟩ := form
    obtain ⟨grade, rfl⟩ := exists_grade least most
    rw [enc1_eq_encFlag flag] at granted
    have formed := dump_of_form (r := ⟨p, tag, 0x11, _⟩) (s := s) hn ⟨c, bridge⟩ grade (final == 1) rfl
    exact ⟨fun unheld => refuses dump_served granted (formed.trans (onTicket_of_noTicket _ _ unheld)),
      fun i k ticket => weighOn_refusals dump_served granted (formed.trans (onTicket_of_ticketAt _ _ ticket))⟩
  · split
    case isFalse bad => exact refuses addBin_served granted (addBin_of_badParam hn hg hc rfl bad)
    case isTrue form =>
    obtain ⟨-, container, least, most⟩ := form
    obtain ⟨grade, rfl⟩ := exists_grade least most
    have formed := addBin_of_form (r := ⟨p, tag, 0x13, _⟩) (s := s) hn grade ⟨c, container⟩ rfl
    exact ⟨fun unheld => refuses addBin_served granted (formed.trans (onTicket_of_noTicket _ _ unheld)),
      fun i k ticket => weighOn_refusals addBin_served granted (formed.trans (onTicket_of_ticketAt _ _ ticket))⟩
  · intro capture
    refine ⟨fun b plate n i short print granted counter lowest free => ?_,
      fun b n g final i k granted ticket state marker enabled priced free => ?_,
      fun n g c i k granted ticket state marker enabled priced free => ?_⟩
    · have number : ¬ (s.counter = .invalid ∨ s.counter = .exhausted) := by simp [counter]
      exact startsCapture openTruck_served granted ((openTruck_of_form b short print rfl).trans
        ((openTruckOn_of_freeSlot number lowest.freeSlot).trans (if_neg (not_not.mpr free)))) rfl lowest.1 free
    · exact startsCapture dump_served granted ((dump_of_form ticket.number_lt b g final rfl).trans
        ((onTicket_of_ticketAt _ _ ticket).trans (weighOn_accepted state marker enabled priced free))) rfl
        (ticket.before marker (by simp)) free
    · exact startsCapture addBin_served granted ((addBin_of_form ticket.number_lt g c rfl).trans
        ((onTicket_of_ticketAt _ _ ticket).trans (weighOn_accepted state marker enabled priced free))) rfl
        (ticket.before marker (by simp)) free

end Sys2Proof.Machine
end

section
/-! SUPPORT. Settlement at the window (chapter 5): RELEASE (R89). -/

namespace Sys2Proof.Machine

theorem release_served : ServedBy .release 0x31 release := fun _ => rfl

section
variable {r : Req} {n : Nat} {s : State} {i : Slot} {t : Ticket}

theorem release_of_form (hn : n < 4294967296) (data : r.data = enc4 n) :
    release r s = onTicket r n s fun i t => releaseOn r i t s := by
  simp only [release, data, decodeNumber_enc n hn]

/-! ### The ticket back in WEIGHED (R28, R89) -/

/-- Of a ticket that enters WEIGHED, every PAYOUT port hears. -/
theorem putTicket_weighed_get (q : Port) :
    (s.putTicket i t true).ports[q] = latchedIf (decide (s.ports[q].role = .payout)) .ticketReady s.ports[q] := by
  change (s.setSlot i (some t)).ticketReady.ports[q] = _
  rw [State.ticketReady, State.latchRoles, State.latchWhere_get]
  simp [latchedIf, StationPort.latch]

theorem apart_putTicket_weighed : Apart (s.putTicket i t true) (s.setSlot i (some t)) := rfl

/-! ### The checks of RELEASE (R89) -/

theorem heldByOther_of_not_atWindow {p : Port} (h : t.state ≠ .atWindow) : t.heldByOther p = false := by
  simp [Ticket.heldByOther, h]

theorem heldByOther_of_holder {p : Port} {w : Window} (window : t.window = some w) (holder : w.holder = p) :
    t.heldByOther p = false := by
  simp [Ticket.heldByOther, window, holder]

theorem releaseOn_busy (h : t.heldByOther r.port = true) : releaseOn r i t s = answer r .ticketBusy [] s := by
  rw [releaseOn, if_pos h]

theorem releaseOn_wrongState (h : t.state ≠ .atWindow) : releaseOn r i t s = answer r .wrongState [] s := by
  rw [releaseOn, if_neg (ne_true_of_eq_false (heldByOther_of_not_atWindow h)), if_pos h]

theorem releaseOn_accepted (h : t.state = .atWindow) (own : t.heldByOther r.port = false) (number : t.number = some n) :
    releaseOn r i t s = answer r .ok (enc4 n) (s.putTicket i t.unhold true) := by
  rw [releaseOn, if_neg (ne_true_of_eq_false own), if_neg (not_not.mpr h), number]
  rfl

end

/-- Settles O33: RELEASE judges number, ticket, holder and state in this order, and then the ticket is WEIGHED without
its window part and every PAYOUT port hears of it. -/
theorem releaseReturnsTheTicket : Obligations.ReleaseReturnsTheTicket := by
  refine ⟨rfl, fun s p tag n hn granted => ?_⟩
  have formed : release ⟨p, tag, 0x31, enc4 n⟩ s = _ := release_of_form hn rfl
  refine ⟨fun range => refuses release_served granted (formed.trans (onTicket_of_outOfRange _ _ range)),
    fun unheld => refuses release_served granted (formed.trans (onTicket_of_noTicket _ _ unheld)),
    fun i t ticket => ?_⟩
  have found := formed.trans (onTicket_of_ticketAt _ _ ticket)
  refine ⟨fun window other => ?_, fun state => ?_, fun window ⟨w, part, holder⟩ => ?_⟩
  · exact refuses release_served granted (found.trans (releaseOn_busy ((heldByOther_iff window).mpr other)))
  · exact refuses release_served granted (found.trans (releaseOn_wrongState state))
  · obtain ⟨-, -, -, number, -⟩ := ticket
    obtain ⟨u, next, apart, answered⟩ := answers_after release_served granted
      (f := fun _ x => latchedIf (decide (x.role = .payout)) .ticketReady x)
      (found.trans (releaseOn_accepted window (heldByOther_of_holder part holder) number)) putTicket_weighed_get rfl
    exact ⟨u, next, apart.trans apart_putTicket_weighed, answered⟩

end Sys2Proof.Machine
end

section
/-! SUPPORT. Settlement at the window (chapter 5): the checks of PAY, those of R91, then for CASH those of R92, then
those of R93. -/

namespace Sys2Proof.Machine

theorem pay_served : ServedBy .pay 0x32 pay := fun _ => rfl

/-! ### The form of PAY (R91) -/

/-- A method byte above 2 does not decode (R170). -/
theorem decodePay_of_noMethod (n : Nat) {method : Nat} (above : 3 ≤ method) (h : method < 256) :
    decodePay (enc4 n ++ enc1 method) = none := by
  have value : (BitVec.ofNat 8 method).toNat = method := by rw [toNat_ofNat8]; omega
  have other (b : Byte) (hb : b.toNat ≤ 2) : BitVec.ofNat 8 method ≠ b := fun h => by
    rw [h] at value
    omega
  have noMethod : decMethod (BitVec.ofNat 8 method) = none := by
    rw [decMethod, if_neg (other 0 (by decide)), if_neg (other 1 (by decide)), if_neg (other 2 (by decide))]
  simp [enc4_eq, enc1_eq, decodePay, noMethod]

section
variable {r : Req} {n : Nat} {s : State} {i : Slot} {t : Ticket} {m : Method}

theorem pay_of_noMethod {method : Nat} (above : 3 ≤ method) (h : method < 256)
    (data : r.data = enc4 n ++ enc1 method) : pay r s = answer r .badParam [] s := by
  simp only [pay, data, decodePay_of_noMethod n above h]

theorem pay_of_form (hn : n < 4294967296) (data : r.data = enc4 n ++ m.enc) :
    pay r s = onTicket r n s fun i t => payOn r i t m s := by
  simp only [pay, data, decodePay_enc n m hn]

/-! ### The judgements on a found ticket -/

theorem payOn_refused {o : OutcomeCode} (h : payRefusal s r.port t = some o) : payOn r i t m s = answer r o [] s := by
  simp only [payOn, h]

theorem payOn_cashRefused {o : OutcomeCode} {d : List Byte} (passed : payRefusal s r.port t = none) (cash : m = .cash)
    (h : cashRefusal s t = some (o, d)) : payOn r i t m s = answer r o d s := by
  simp only [payOn, passed, cash, h, if_true]

theorem payOn_judged (passed : payRefusal s r.port t = none) (h : m = .cash → cashRefusal s t = none) :
    payOn r i t m s = settle r i t m s := by
  have unrefused : (if m = .cash then cashRefusal s t else none) = none := by
    split
    · exact h ‹_›
    · rfl
  simp only [payOn, passed, unrefused]

theorem payRefusal_eq (s : State) (p : Port) (t : Ticket) :
    payRefusal s p t =
      if t.state = .atWindow ∧ (t.window.any fun w => w.holder != p) then some .ticketBusy
      else if t.state ≠ .atWindow then some .wrongState
      else if (t.lines.any fun l => l.unpriced) then some .priceMissing
      else if t.totalClamped then some .amountRange
      else if t.seller = none ∧ (s.settings.anonThreshold < t.total ∨ (t.lines.any fun l => l.restricted) = true) then
        some .sellerRequired
      else none := by
  simp only [payRefusal, Ticket.heldByOther, Ticket.holdsUnpriced, Ticket.holdsRestricted, Option.isNone_iff_eq_none,
    Bool.and_eq_true, decide_eq_true_eq]

/-- R92 with the seller's checks asked of the seller ID as it stands on the ticket, present or absent. -/
theorem cashRefusal_eq (s : State) (t : Ticket) :
    cashRefusal s t =
      if (t.lines.any fun l => l.restricted) = true then some (.restricted, [])
      else if s.settings.cashLimit = 0 then some (.limit, enc5 0)
      else if (t.seller.any fun id => (s.tallyWay id).isNone && (s.emptyWay id).isNone) = true then
        some (.tallyFull, [])
      else if (t.seller.any fun id =>
          decide (s.settings.cashLimit < s.tallyOf id + cashAmount t.total s.settings.cashStep)) = true then
        t.seller.map fun id => (.limit, enc5 (s.settings.cashLimit - s.tallyOf id))
      else none := by
  unfold cashRefusal
  cases t.seller with
  | none => simp [Ticket.holdsRestricted]
  | some id => simp [Ticket.holdsRestricted, State.allowance]

theorem paidFigures_eq (m : Method) (total step : Nat) :
    paidFigures m total step =
      (if decide (m = .cash) then cashAmount total step else total,
        if decide (m = .cash) then cashRounding total step else 0) := by
  cases m <;> rfl

/-! ### The checks of R93 -/

theorem settle_journalFull (full : 128 ≤ s.journal.length) : settle r i t m s = answer r .journalFull [] s := by
  rw [settle, if_pos (journalFull_iff.mpr full)]

theorem settle_noPrinter (room : ¬ 128 ≤ s.journal.length) (h : s.settings.printersOf[r.port][(0 : Fin 4)] = none) :
    settle r i t m s = answer r .noPrinter [] s := by
  have unnamed : s.printerOf r.port 0 = none := h
  rw [settle, if_neg (mt journalFull_iff.mp room), unnamed]

theorem roomFor_eq_none {duplicate : Bool} {record : CloseRecord}
    (h : s.freePages.length < (lineCount s.settings duplicate record + 7) / 8 ∨ ∀ k : JobNo, s.jobs[k] ≠ none) :
    s.roomFor duplicate record = none := by
  by_contra some_room
  obtain ⟨j, found⟩ := Option.ne_none_iff_exists'.mp some_room
  obtain ⟨pages, free, -⟩ := roomFor_some found
  rcases h with few | taken
  · omega
  · exact taken j free

theorem settle_spoolFull (room : ¬ 128 ≤ s.journal.length) (h : s.settings.printersOf[r.port][(0 : Fin 4)] ≠ none)
    (full : s.roomFor false (closeRecordOf s t r.port
      (.paid m (paidFigures m t.total s.settings.cashStep).1 (paidFigures m t.total s.settings.cashStep).2)) = none) :
    settle r i t m s = answer r .spoolFull [] s := by
  obtain ⟨printer, named⟩ := Option.ne_none_iff_exists'.mp h
  have entry : s.printerOf r.port 0 = some printer := named
  rw [settle, if_neg (mt journalFull_iff.mp room), entry]
  simp only [full]

end

/-! ### The checks in their order, as the refusals of the request -/

section
variable {s : State} {p : Port} {tag : Byte} {n : Nat} {m : Method} {i : Slot} {t : Ticket}

/-- A judgement on the found ticket is the answer to the request. -/
theorem pay_refuses {o : OutcomeCode} {d : List Byte} (granted : GrantedTo s p tag 0x32 (enc4 n ++ m.enc))
    (ticket : TicketAt s n i t)
    (rule : payOn ⟨p, tag, 0x32, enc4 n ++ m.enc⟩ i t m s = answer ⟨p, tag, 0x32, enc4 n ++ m.enc⟩ o d s) :
    Refuses .pay s p ⟨tag, 0x32, o, d⟩ :=
  answers pay_served granted
    ((pay_of_form ticket.number_lt rfl).trans ((onTicket_of_ticketAt _ _ ticket).trans rule)) rfl rfl

/-- The checks of R91, which every method meets; `rest` is what holds of a ticket that passes them. -/
theorem payRefusal_refusals (granted : GrantedTo s p tag 0x32 (enc4 n ++ m.enc)) (ticket : TicketAt s n i t)
    {rest : Prop} (follows : payRefusal s p t = none → rest) :
    if t.state = .atWindow ∧ (t.window.any fun w => w.holder != p) then Refuses .pay s p ⟨tag, 0x32, .ticketBusy, []⟩
    else if t.state ≠ .atWindow then Refuses .pay s p ⟨tag, 0x32, .wrongState, []⟩
    else if (t.lines.any fun l => l.unpriced) then Refuses .pay s p ⟨tag, 0x32, .priceMissing, []⟩
    else if t.totalClamped then Refuses .pay s p ⟨tag, 0x32, .amountRange, []⟩
    else if t.seller = none ∧ (s.settings.anonThreshold < t.total ∨ (t.lines.any fun l => l.restricted) = true) then
      Refuses .pay s p ⟨tag, 0x32, .sellerRequired, []⟩
    else rest := by
  have judged := payRefusal_eq s p t
  split_ifs at judged ⊢
  iterate 5 exact pay_refuses granted ticket (payOn_refused judged)
  exact follows judged

/-- The checks of R92, which CASH alone meets. -/
theorem cashRefusal_refusals (granted : GrantedTo s p tag 0x32 (enc4 n ++ m.enc)) (ticket : TicketAt s n i t)
    (passed : payRefusal s p t = none) {rest : Prop} (follows : (m = .cash → cashRefusal s t = none) → rest) :
    if decide (m = .cash) = true ∧ (t.lines.any fun l => l.restricted) then
      Refuses .pay s p ⟨tag, 0x32, .restricted, []⟩
    else if decide (m = .cash) = true ∧ s.settings.cashLimit = 0 then Refuses .pay s p ⟨tag, 0x32, .limit, enc5 0⟩
    else if decide (m = .cash) = true ∧
        (t.seller.any fun id => (s.tallyWay id).isNone && (s.emptyWay id).isNone) then
      Refuses .pay s p ⟨tag, 0x32, .tallyFull, []⟩
    else if decide (m = .cash) = true ∧ (t.seller.any fun id => decide (s.settings.cashLimit <
        s.tallyOf id + if decide (m = .cash) then cashAmount t.total s.settings.cashStep else t.total)) then
      ∃ id, t.seller = some id ∧ Refuses .pay s p ⟨tag, 0x32, .limit, enc5 (s.settings.cashLimit - s.tallyOf id)⟩
    else rest := by
  by_cases cash : m = .cash
  case neg => simpa [cash] using follows (absurd · cash)
  have refusal {o : OutcomeCode} {d : List Byte} (judged : cashRefusal s t = some (o, d)) :
      Refuses .pay s p ⟨tag, 0x32, o, d⟩ := pay_refuses granted ticket (payOn_cashRefused passed cash judged)
  have judged := cashRefusal_eq s t
  simp only [cash, decide_true, true_and, if_true]
  split_ifs at judged ⊢ with restricted off unentered above
  · exact refusal judged
  · exact refusal judged
  · exact refusal judged
  · obtain ⟨id, seller, -⟩ := (Option.any_eq_true _ _).mp above
    exact ⟨id, seller, refusal (by rw [judged, seller, Option.map_some])⟩
  · exact follows fun _ => judged

/-- The checks of R93, the last ones for every method. -/
theorem settle_refusals (granted : GrantedTo s p tag 0x32 (enc4 n ++ m.enc)) (ticket : TicketAt s n i t)
    (passed : payRefusal s p t = none) (cashPassed : m = .cash → cashRefusal s t = none)
    {paid rounding : Nat} (figures : paidFigures m t.total s.settings.cashStep = (paid, rounding)) :
    if 128 ≤ s.journal.length then Refuses .pay s p ⟨tag, 0x32, .journalFull, []⟩
    else if s.settings.printersOf[p][(0 : Fin 4)] = none then Refuses .pay s p ⟨tag, 0x32, .noPrinter, []⟩
    else if s.freePages.length < (lineCount s.settings false (closeRecordOf s t p (.paid m paid rounding)) + 7) / 8 ∨
        (∀ k : JobNo, s.jobs[k] ≠ none) then
      Refuses .pay s p ⟨tag, 0x32, .spoolFull, []⟩
    else True := by
  have refusal {o : OutcomeCode} (judged : settle ⟨p, tag, 0x32, enc4 n ++ m.enc⟩ i t m s = answer _ o [] s) :
      Refuses .pay s p ⟨tag, 0x32, o, []⟩ :=
    pay_refuses granted ticket ((payOn_judged passed cashPassed).trans judged)
  split_ifs with full unnamed spool
  · exact refusal (settle_journalFull full)
  · exact refusal (settle_noPrinter full unnamed)
  · exact refusal (settle_spoolFull full unnamed (by rw [figures]; exact roomFor_eq_none spool))

end

/-- Settles O35: PAY refuses by form and number, and a found ticket by the checks of R91, R92 and R93 in this order. -/
theorem payChecksInOrder : Obligations.PayChecksInOrder := by
  refine fun s p tag n hn => ⟨fun method above h granted => ?_, fun m granted => ?_⟩
  · exact refuses pay_served granted (pay_of_noMethod above h rfl)
  have formed : pay ⟨p, tag, 0x32, enc4 n ++ m.enc⟩ s = _ := pay_of_form hn rfl
  refine ⟨fun range => refuses pay_served granted (formed.trans (onTicket_of_outOfRange _ _ range)),
    fun unheld => refuses pay_served granted (formed.trans (onTicket_of_noTicket _ _ unheld)), fun i t ticket => ?_⟩
  exact payRefusal_refusals granted ticket fun passed =>
    cashRefusal_refusals granted ticket passed fun cashPassed =>
      settle_refusals granted ticket passed cashPassed (paidFigures_eq m _ _)

end Sys2Proof.Machine
end

section
/-! SUPPORT. The journal and the day (chapter 6): JOURNAL_POP (R106) and DAY_CLOSE (R113, R114). -/

namespace Sys2Proof.Machine

theorem journalPop_served : ServedBy .journalPop 0x39 journalPop := fun _ => rfl

theorem dayClose_served : ServedBy .dayClose 0x3B dayClose := fun _ => rfl

/-! ### The kind and key of a record (R104) -/

/-- What names a record: whether it is a DAY_END record, and its ticket number or its day number. -/
def Record.kindAndKey : Record → Bool × Nat
  | .close r => (false, r.number)
  | .dayEnd r => (true, r.day)

theorem Record.matchesKey_iff {x : Record} {dayEnd : Bool} {key : Nat} :
    x.matchesKey dayEnd key = true ↔ x.kindAndKey = (dayEnd, key) := by
  cases x <;> cases dayEnd <;> simp [Record.matchesKey, Record.kindAndKey]

theorem Record.encKey_eq (x : Record) : x.encKey = encFlag x.kindAndKey.1 ++ enc4 x.kindAndKey.2 := by
  cases x <;> rfl

/-! ### The form of JOURNAL_POP (R106) -/

/-- A byte above 1 is no flag (R179). -/
theorem decFlag_of_above {f : Nat} (above : 2 ≤ f) (h : f < 256) : decFlag (BitVec.ofNat 8 f) = none := by
  have other (b : Byte) (hb : b.toNat ≤ 1) : BitVec.ofNat 8 f ≠ b := by
    rw [ne_eq, ← BitVec.toNat_inj, toNat_ofNat8]
    omega
  rw [decFlag, if_neg (other 0 (by decide)), if_neg (other 1 (by decide))]

/-- A kind byte above 1 does not decode (R170). -/
theorem decodePop_of_noKind (key : Nat) {kind : Nat} (above : 2 ≤ kind) (h : kind < 256) :
    decodePop (enc1 kind ++ enc4 key) = none := by
  simp [enc1_eq, enc4_eq, decodePop, decFlag_of_above above h]

section
variable {r : Req} {s : State} {dayEnd : Bool} {key : Nat}

theorem journalPop_of_noKind {kind : Nat} (above : 2 ≤ kind) (h : kind < 256) (data : r.data = enc1 kind ++ enc4 key) :
    journalPop r s = answer r .badParam [] s := by
  simp only [journalPop, data, decodePop_of_noKind key above h]

theorem journalPop_of_badParam (hkey : key < 4294967296) (data : r.data = encFlag dayEnd ++ enc4 key)
    (bad : key = 0 ∨ (if dayEnd then 65535 else 99999999) < key) : journalPop r s = answer r .badParam [] s := by
  simp only [journalPop, data, decodePop_enc dayEnd key hkey, Config.maxTicketNumber]
  exact if_neg (by omega)

theorem journalPop_of_form (hkey : key < 4294967296) (data : r.data = encFlag dayEnd ++ enc4 key) (least : 1 ≤ key)
    (most : key ≤ if dayEnd then 65535 else 99999999) : journalPop r s = popHead r dayEnd key s := by
  simp only [journalPop, data, decodePop_enc dayEnd key hkey]
  exact if_pos ⟨least, most⟩

/-! ### JOURNAL_POP on a journal (R106) -/

theorem popHead_of_empty (empty : s.journal = []) : popHead r dayEnd key s = answer r .journalEmpty [] s := by
  simp only [popHead, empty]

variable {head : Record} {rest : List Record}

theorem popHead_of_named (journal : s.journal = head :: rest) (named : head.kindAndKey = (dayEnd, key)) :
    popHead r dayEnd key s =
      answer r .ok (encFlag dayEnd ++ enc4 key ++ enc1 rest.length) { s with journal := rest } := by
  simp only [popHead, journal, Record.matchesKey_iff.mpr named, Record.encKey_eq, named, if_true]

theorem popHead_of_unnamed (journal : s.journal = head :: rest) (unnamed : head.kindAndKey ≠ (dayEnd, key)) :
    popHead r dayEnd key s =
      answer r .wrongState (encFlag head.kindAndKey.1 ++ enc4 head.kindAndKey.2) s := by
  simp only [popHead, journal, Record.encKey_eq]
  exact if_neg (mt Record.matchesKey_iff.mp unnamed)

end

/-- Settles O39: JOURNAL_POP judges kind, key range and emptiness in this order, removes the head it names, and
otherwise answers what names the head. -/
theorem journalPopRemovesTheNamedHead : Obligations.JournalPopRemovesTheNamedHead := by
  refine ⟨rfl, fun s p tag key hkey =>
    ⟨fun kind above h granted => refuses journalPop_served granted (journalPop_of_noKind above h rfl),
      fun dayEnd granted =>
        ⟨fun bad => refuses journalPop_served granted (journalPop_of_badParam hkey rfl bad), fun least most => ?_⟩⟩⟩
  have formed : journalPop ⟨p, tag, 0x39, encFlag dayEnd ++ enc4 key⟩ s = _ := journalPop_of_form hkey rfl least most
  refine ⟨fun empty => refuses journalPop_served granted (formed.trans (popHead_of_empty empty)),
    fun head rest journal => ⟨fun named => ?_, fun unnamed => ?_⟩⟩
  · exact answers journalPop_served granted (formed.trans (popHead_of_named journal named)) rfl rfl
  · exact answers journalPop_served granted (formed.trans (popHead_of_unnamed journal unnamed)) rfl rfl

/-! ### The checks and the event of DAY_CLOSE (R113, R114) -/

theorem anyAtWindow_iff {s : State} :
    s.anyAtWindow = true ↔ ∃ (i : Slot) (t : Ticket), s.slots[i] = some t ∧ t.state = .atWindow := by
  simp only [State.anyAtWindow, List.any_eq_true, Vector.mem_toList_iff, Vector.mem_iff_getElem, Option.any_eq_true,
    decide_eq_true_eq]
  constructor
  · rintro ⟨_, ⟨i, h, rfl⟩, t, slot, window⟩
    exact ⟨⟨i, h⟩, t, slot, window⟩
  · rintro ⟨i, t, slot, window⟩
    exact ⟨_, ⟨i, i.isLt, rfl⟩, t, slot, window⟩

section
variable {r : Req} {s : State} (data : r.data = [])
include data

theorem dayClose_atWindow (window : s.anyAtWindow = true) : dayClose r s = answer r .wrongState [] s := by
  simp only [dayClose, data, decodeNothing, window, if_true]

variable (windows : ¬ s.anyAtWindow = true)
include windows

theorem dayClose_journalFull (full : 128 ≤ s.journal.length) : dayClose r s = answer r .journalFull [] s := by
  simp only [dayClose, data, decodeNothing]
  rw [if_neg windows, if_pos (journalFull_iff.mpr full)]

theorem dayClose_accepted (room : s.journal.length < 128) :
    dayClose r s =
      answer r .ok (enc2 s.day ++ enc2 (nextDay s.day) ++ enc1 (s.journal.length + 1)) (closeDay r.port s) := by
  simp only [dayClose, data, decodeNothing]
  rw [if_neg windows, if_neg (by rw [journalFull_iff]; omega)]

end

/-- Settles O40: DAY_CLOSE judges windows and journal in this order, and an accepted one is the event of R114. -/
theorem dayCloseEndsTheDay : Obligations.DayCloseEndsTheDay := by
  refine ⟨rfl, fun s p tag granted => ⟨fun window => ?_, fun away => ?_⟩⟩
  · exact refuses dayClose_served granted (dayClose_atWindow rfl (anyAtWindow_iff.mpr window))
  have windows : ¬ s.anyAtWindow = true := by
    rw [anyAtWindow_iff]
    rintro ⟨i, t, slot, window⟩
    exact away i t slot window
  refine ⟨fun full => refuses dayClose_served granted (dayClose_journalFull rfl windows full), fun room => ?_⟩
  exact answers dayClose_served granted (dayClose_accepted rfl windows room) rfl rfl

end Sys2Proof.Machine
end

section
/-! SUPPORT. Receipt composition (chapter 7): REPRINT of a CLOSE record that the journal holds (R104, R129). -/

namespace Sys2Proof.Machine

theorem reprint_served : ServedBy .reprint 0x3C reprint := fun _ => rfl

/-! ### The CLOSE record of a ticket number (R104) -/

theorem findClose_mem {s : State} {n : Nat} {r : CloseRecord} (h : s.findClose n = some r) :
    .close r ∈ s.journal ∧ r.number = n := by
  obtain ⟨x, held, found⟩ := List.exists_of_findSome?_eq_some h
  cases x with
  | dayEnd _ => cases found
  | close c =>
    obtain ⟨number, same⟩ := Option.ite_none_right_eq_some.mp found
    obtain rfl := Option.some.inj same
    exact ⟨held, number⟩

theorem findClose_eq_none_iff {s : State} {n : Nat} :
    s.findClose n = none ↔ ∀ r, .close r ∈ s.journal → r.number ≠ n := by
  rw [State.findClose, List.findSome?_eq_none_iff]
  constructor
  · intro unfound r held
    simpa using unfound _ held
  · intro other x held
    cases x with
    | dayEnd _ => rfl
    | close c => exact if_neg (other c held)

/-- No two CLOSE records of the journal bear one ticket number (R104). -/
theorem NumberLaw.closeRecord_unique {s : State} (law : NumberLaw s) {r r' : CloseRecord} (held : .close r ∈ s.journal)
    (held' : .close r' ∈ s.journal) (number : r.number = r'.number) : r = r' := by
  obtain ⟨-, -, -, -, nodup⟩ := law
  have apart := List.pairwise_filterMap.mp nodup.of_append_right
  have symmetric : Std.Symm fun x y : Record =>
      ∀ a, x.closeNumber = some a → ∀ b, y.closeNumber = some b → a ≠ b := ⟨fun _ _ h a ha b hb => (h b hb a ha).symm⟩
  by_contra distinct
  exact apart.forall held held' (mt Record.close.inj distinct) _ rfl _ rfl number

theorem NumberLaw.findClose {s : State} (law : NumberLaw s) {r : CloseRecord} (held : .close r ∈ s.journal) :
    s.findClose r.number = some r := by
  cases found : s.findClose r.number with
  | none => exact absurd rfl (findClose_eq_none_iff.mp found r held)
  | some c =>
    obtain ⟨held', number⟩ := findClose_mem found
    rw [law.closeRecord_unique held' held number]

/-! ### The job number a hand-over takes (R133) -/

/-- An entry of a table that a test picks, with none below it, is the first one picked. -/
theorem find?_finRange_of_least {n : Nat} {test : Fin n → Bool} {i : Fin n} (picked : test i = true)
    (before : ∀ k, k < i → test k = false) : (List.finRange n).find? test = some i := by
  refine List.find?_eq_some_iff_getElem.mpr ⟨picked, i, by simp, by simp, fun k hk => ?_⟩
  simpa using before ⟨k, by omega⟩ hk

theorem LowestFreeJob.freeJob {s : State} {j : JobNo} (h : LowestFreeJob s j) : s.freeJob = some j := by
  obtain ⟨free, lowest⟩ := h
  exact find?_finRange_of_least (by simp [free]) fun k hk => by
    simpa [Option.isSome_iff_ne_none] using lowest k hk

theorem roomFor_of_lowest {s : State} {duplicate : Bool} {r : CloseRecord} {j : JobNo}
    (pages : (lineCount s.settings duplicate r + 7) / 8 ≤ s.freePages.length) (lowest : LowestFreeJob s j) :
    s.roomFor duplicate r = some j :=
  (if_pos pages).trans lowest.freeJob

/-! ### The checks of REPRINT and its hand-over (R129) -/

section
variable {r : Req} {n : Nat} {s : State} {record : CloseRecord}

theorem reprint_of_badParam (hn : n < 4294967296) (data : r.data = enc4 n) (bad : n = 0 ∨ 99999999 < n) :
    reprint r s = answer r .badParam [] s := by
  have outside : ¬ numberInRange n = true := by
    rw [numberInRange_iff, Config.maxTicketNumber]
    omega
  simp only [reprint, data, decodeNumber_enc n hn]
  exact if_neg outside

section
variable (data : r.data = enc4 n) (least : 1 ≤ n) (most : n ≤ 99999999)
include data least most

theorem reprint_of_unfound (unfound : s.findClose n = none) : reprint r s = answer r .noTicket [] s := by
  simp only [reprint, data, decodeNumber_enc n (by omega), unfound]
  exact if_pos (numberInRange_iff.mpr ⟨least, most⟩)

theorem reprint_of_found (found : s.findClose n = some record) : reprint r s = reprintOn r record s := by
  simp only [reprint, data, decodeNumber_enc n (by omega), found]
  exact if_pos (numberInRange_iff.mpr ⟨least, most⟩)

end

theorem reprintOn_noPrinter (unnamed : s.settings.printersOf[r.port][(0 : Fin 4)] = none) :
    reprintOn r record s = answer r .noPrinter [] s := by
  have entry : s.printerOf r.port 0 = none := unnamed
  simp only [reprintOn, entry]

variable {printer : Printer} (named : s.settings.printersOf[r.port][(0 : Fin 4)] = some printer)
include named

theorem reprintOn_spoolFull (full : s.roomFor true record = none) :
    reprintOn r record s = answer r .spoolFull [] s := by
  have entry : s.printerOf r.port 0 = some printer := named
  simp only [reprintOn, entry, full]

theorem reprintOn_accepted {j : JobNo} (room : s.roomFor true record = some j) :
    reprintOn r record s =
      answer r .ok
        (enc4 record.number ++ record.closing.enc ++ enc1 (lineCount s.settings true record) ++
          enc1 ((lineCount s.settings true record + 7) / 8) ++ enc1 j.val)
        (s.handOver j printer 1 true record) := by
  have entry : s.printerOf r.port 0 = some printer := named
  simp only [reprintOn, entry, room]
  rfl

end

/-- Settles O41: REPRINT judges form, number, journal, printer and spool in this order, and an accepted one hands one
duplicate over and changes the spool alone. -/
theorem reprintHandsOverADuplicate : Obligations.ReprintHandsOverADuplicate := by
  refine ⟨rfl, fun s p tag n hn granted =>
    ⟨fun bad => refuses reprint_served granted (reprint_of_badParam hn rfl bad), fun least most =>
      ⟨fun other => ?_, ?_⟩⟩⟩
  · exact refuses reprint_served granted (reprint_of_unfound rfl least most (findClose_eq_none_iff.mpr other))
  rintro r held rfl law lines
  have found : reprint ⟨p, tag, 0x3C, enc4 r.number⟩ s = _ := reprint_of_found rfl least most (law.findClose held)
  refine ⟨fun unnamed => refuses reprint_served granted (found.trans (reprintOn_noPrinter unnamed)),
    fun printer named => ⟨fun full => ?_, fun jn pages lowest => ?_⟩⟩
  · exact refuses reprint_served granted (found.trans (reprintOn_spoolFull named (roomFor_eq_none full)))
  have spooled : s.handOver jn printer 1 true r = withSpool s (s.handOver jn printer 1 true r) :=
    (handOver_actsOnSpool jn printer 1 true r).frame s
  rw [← spooled]
  have accepted := found.trans (reprintOn_accepted named (roomFor_of_lowest pages lowest))
  exact answers reprint_served granted accepted (by rw [spooled]; rfl) (by rw [spooled]; rfl)

end Sys2Proof.Machine
end

section
/-! SUPPORT. The pages and numbers of jobs (R132, R133): the free pool after a release, the room for an allocation, and
the requests that name a job (8.4). -/

namespace Sys2Proof.Machine

/-! ### Pages put back into the free pool (R132) -/

theorem mem_insertPage {p x : Page} {pool : List Page} : x ∈ insertPage p pool ↔ x = p ∨ x ∈ pool := by
  induction pool with
  | nil => simp [insertPage]
  | cons q qs ih =>
    unfold insertPage
    split_ifs with below same
    · simp
    · simp [same]
    · simp only [List.mem_cons, ih, or_left_comm]

theorem insertPage_sorted {p : Page} {pool : List Page} (sorted : pool.Pairwise (· < ·)) :
    (insertPage p pool).Pairwise (· < ·) := by
  induction pool with
  | nil => simp [insertPage]
  | cons q qs ih =>
    obtain ⟨least, rest⟩ := List.pairwise_cons.mp sorted
    unfold insertPage
    split_ifs with below same
    · refine List.pairwise_cons.mpr ⟨fun x held => ?_, sorted⟩
      rcases List.mem_cons.mp held with rfl | held
      · exact below
      · exact below.trans (least x held)
    · exact sorted
    · refine List.pairwise_cons.mpr ⟨fun x held => ?_, ih rest⟩
      rcases mem_insertPage.mp held with rfl | held
      · exact lt_of_le_of_ne (not_lt.mp below) (Ne.symm same)
      · exact least x held

/-- A page that is not in the pool is one page more. -/
theorem insertPage_perm {p : Page} {pool : List Page} (absent : p ∉ pool) : (insertPage p pool).Perm (p :: pool) := by
  induction pool with
  | nil => exact .refl _
  | cons q qs ih =>
    obtain ⟨other, rest⟩ := not_or.mp (mt List.mem_cons.mpr absent)
    unfold insertPage
    rw [if_neg other]
    split_ifs with below
    · exact .refl _
    · exact ((ih rest).cons q).trans (.swap p q qs)

/-- Pages put back into the free pool one by one. -/
def putBack (pages pool : List Page) : List Page := pages.foldl (fun f p => insertPage p f) pool

theorem putBack_sorted {pages pool : List Page} (sorted : pool.Pairwise (· < ·)) :
    (putBack pages pool).Pairwise (· < ·) := by
  induction pages generalizing pool with
  | nil => exact sorted
  | cons p ps ih => exact ih (insertPage_sorted sorted)

/-- Pages that the pool did not hold are added to it. -/
theorem putBack_perm {pages pool : List Page} (apart : (pages ++ pool).Nodup) :
    (putBack pages pool).Perm (pages ++ pool) := by
  induction pages generalizing pool with
  | nil => exact .refl _
  | cons p ps ih =>
    obtain ⟨absent, rest⟩ := List.nodup_cons.mp apart
    have inserted : (ps ++ insertPage p pool).Perm (p :: (ps ++ pool)) :=
      ((insertPage_perm fun held => absent (List.mem_append_right ps held)).append_left ps).trans List.perm_middle
    exact (ih (inserted.nodup_iff.mpr apart)).trans inserted

/-- No page of a job is in the free pool, or twice in the job (R132). -/
theorem PageLaw.job_nodup {s : State} (law : PageLaw s) {jn : JobNo} {j : Job} (job : s.jobs[jn] = some j) :
    (j.pages ++ s.freePages).Nodup := by
  obtain ⟨-, once⟩ := law
  have nodup : (s.freePages ++ s.jobPages).Nodup := List.nodup_iff_count_le_one.mpr fun p => (once p).le
  have held : some j ∈ s.jobs.toList := by
    rw [← job, Vector.mem_toList_iff]
    exact Vector.getElem_mem _
  have part : j.pages.Sublist s.jobPages := by
    simpa [State.jobPages] using (List.singleton_sublist.mpr held).flatMap fun x => (x.map Job.pages).getD []
  exact List.perm_append_comm.nodup_iff.mp (nodup.sublist (part.append_left s.freePages))

theorem releaseJob_of_job {s : State} {jn : JobNo} {j : Job} (job : s.jobs[jn] = some j) :
    s.releaseJob jn = { s with jobs := s.jobs.set jn none, freePages := putBack j.pages s.freePages } := by
  simp only [State.releaseJob, job]
  rfl

/-! ### Room for an allocation (R133) -/

theorem canAllocate_eq_none {s : State} {n : Nat} (full : s.freePages.length < n ∨ ∀ k : JobNo, s.jobs[k] ≠ none) :
    s.canAllocate n = none := by
  cases found : s.canAllocate n with
  | none => rfl
  | some jn =>
    obtain ⟨pages, free⟩ := canAllocate_some found
    rcases full with few | taken
    · omega
    · exact absurd free (taken jn)

theorem canAllocate_of_lowest {s : State} {n : Nat} {jn : JobNo} (pages : n ≤ s.freePages.length)
    (lowest : LowestFreeJob s jn) : s.canAllocate n = some jn :=
  (if_pos pages).trans lowest.freeJob

/-! ### Requests that name a job (8.4) -/

section
variable (r : Req) {n : Nat} {s : State} {jn : JobNo} {j : Job} (k : JobNo → Job → State)

theorem onJob_of_outOfRange (h : 32 ≤ n) : onJob r n s k = answer r .badParam [] s := dif_neg (by omega)

theorem onJob_of_free (free : s.jobs[jn] = none) : onJob r jn.val s k = answer r .noJob [] s := by
  simp only [Fin.getElem_fin] at free
  simp only [onJob, jn.isLt, dif_pos, free]

theorem onJob_of_job (job : s.jobs[jn] = some j) : onJob r jn.val s k = k jn j := by
  simp only [Fin.getElem_fin] at job
  simp only [onJob, jn.isLt, dif_pos, job]

theorem onOwnJob_of_notOwner (other : ∀ j, s.jobs[jn] = some j → j.owner ≠ .port r.port) :
    onOwnJob r jn.val s k = answer r .noJob [] s := by
  cases job : s.jobs[jn] with
  | none => exact onJob_of_free r _ job
  | some j => exact (onJob_of_job r _ job).trans (if_neg (other j job))

theorem onOwnJob_of_owner (job : s.jobs[jn] = some j) (own : j.owner = .port r.port) :
    onOwnJob r jn.val s k = k jn j :=
  (onJob_of_job r _ job).trans (if_pos own)

end

end Sys2Proof.Machine
end

section
/-! SUPPORT. The Spool Manager's requests on jobs (chapter 8): JOB_OPEN (R136) and JOB_RELEASE (R146). -/

namespace Sys2Proof.Machine

theorem jobOpen_served : ServedBy .jobOpen 0x40 jobOpen := fun _ => rfl

theorem jobRelease_served : ServedBy .jobRelease 0x46 jobRelease := fun _ => rfl

/-! ### The checks of JOB_OPEN and its allocation (R136) -/

section
variable {r : Req} {s : State} {entry pages : Nat} (hentry : entry < 256) (hpages : pages < 256)
  (data : r.data = enc1 entry ++ enc1 pages)
include hentry hpages data

theorem jobOpen_of_badParam (bad : ¬ (entry < 4 ∧ 1 ≤ pages ∧ pages ≤ 12)) :
    jobOpen r s = answer r .badParam [] s := by
  simp only [jobOpen, data, decodeTwo_enc entry pages hentry hpages]
  exact dif_neg bad

variable (form : entry < 4 ∧ 1 ≤ pages ∧ pages ≤ 12)
include form

theorem jobOpen_noPrinter (unnamed : s.printerOf r.port ⟨entry, form.1⟩ = none) :
    jobOpen r s = answer r .noPrinter [] s := by
  simp only [jobOpen, data, decodeTwo_enc entry pages hentry hpages, form, and_self, dif_pos, unnamed]

variable {printer : Printer} (named : s.printerOf r.port ⟨entry, form.1⟩ = some printer)
include named

theorem jobOpen_spoolFull (full : s.canAllocate pages = none) : jobOpen r s = answer r .spoolFull [] s := by
  simp only [jobOpen, data, decodeTwo_enc entry pages hentry hpages, form, and_self, dif_pos, named, full]

theorem jobOpen_accepted {jn : JobNo} (room : s.canAllocate pages = some jn) :
    jobOpen r s =
      answer r .ok (enc1 jn.val ++ enc1 pages ++ enc1 (8 * pages))
        (s.allocate jn pages (openedJob r.port printer)) := by
  simp only [jobOpen, data, decodeTwo_enc entry pages hentry hpages, form, and_self, dif_pos, named, room]
  rfl

end

/-! ### The checks of JOB_RELEASE and its release (R146) -/

section
variable {r : Req} {s : State}

theorem jobRelease_of_form {n : Nat} (hn : n < 256) (data : r.data = enc1 n) :
    jobRelease r s = onJob r n s (jobReleaseOn r s) := by
  simp only [jobRelease, data, decodeOne_enc n hn]

variable {jn : JobNo} {j : Job}

theorem jobReleaseOn_noJob (foreign : j.owner ≠ .port r.port ∧ s.ports[r.port].role ≠ .office) :
    jobReleaseOn r s jn j = answer r .noJob [] s := by
  unfold jobReleaseOn
  rw [if_pos (by simpa using foreign)]

variable (own : ¬ (j.owner ≠ .port r.port ∧ s.ports[r.port].role ≠ .office))
include own

theorem jobReleaseOn_released (job : s.jobs[jn] = some j)
    (ready : j.state = .done ∨ (j.state = .writing ∧ s.ports[r.port].role = .office)) :
    jobReleaseOn r s jn j =
      answer r .ok (enc1 j.pages.length ++ enc1 (putBack j.pages s.freePages).length)
        { s with jobs := s.jobs.set jn none, freePages := putBack j.pages s.freePages } := by
  unfold jobReleaseOn
  rw [if_neg (by simpa using own), if_pos (by simpa using ready), releaseJob_of_job job]

theorem jobReleaseOn_jobState (unready : ¬ (j.state = .done ∨ (j.state = .writing ∧ s.ports[r.port].role = .office))) :
    jobReleaseOn r s jn j = answer r .jobState [] s := by
  unfold jobReleaseOn
  rw [if_neg (by simpa using own), if_neg (by simpa using unready)]

end

/-- Settles O43: JOB_OPEN judges form, named printer and room in this order and allocates; JOB_RELEASE judges form, owner
and state and returns the pages. -/
theorem jobsAreOpenedAndReleased : Obligations.JobsAreOpenedAndReleased := by
  refine fun s p tag => ⟨fun entry pages hentry hpages granted => ?_, fun n above hn granted => ?_,
    fun jn law granted => ⟨fun free => ?_, fun j job => ?_⟩⟩
  · split_ifs with form
    · split
      next unnamed => exact refuses jobOpen_served granted (jobOpen_noPrinter hentry hpages rfl form unnamed)
      next printer entryNamed =>
        have named : s.printerOf p ⟨entry, form.1⟩ = some printer := entryNamed
        refine ⟨fun full => ?_, fun jn enough lowest => ?_⟩
        · exact refuses jobOpen_served granted
            (jobOpen_spoolFull hentry hpages rfl form named (canAllocate_eq_none full))
        · exact answers jobOpen_served granted
            (jobOpen_accepted hentry hpages rfl form named (canAllocate_of_lowest enough lowest)) rfl rfl
    · exact refuses jobOpen_served granted (jobOpen_of_badParam hentry hpages rfl form)
  · exact refuses jobRelease_served granted ((jobRelease_of_form hn rfl).trans (onJob_of_outOfRange _ _ above))
  · exact refuses jobRelease_served granted ((jobRelease_of_form (by omega) rfl).trans (onJob_of_free _ _ free))
  have found : jobRelease ⟨p, tag, 0x46, enc1 jn.val⟩ s = _ :=
    (jobRelease_of_form (by omega) rfl).trans (onJob_of_job _ _ job)
  split_ifs with foreign ready
  · exact refuses jobRelease_served granted (found.trans (jobReleaseOn_noJob foreign))
  · have pool := putBack_perm (law.job_nodup job)
    obtain ⟨t, next, apart, answered⟩ :=
      answers jobRelease_served granted (found.trans (jobReleaseOn_released foreign job ready)) rfl rfl
    have freed : t.freePages = putBack j.pages s.freePages := congrArg State.freePages apart
    obtain ⟨sorted, -⟩ := law
    rw [← freed] at apart
    refine ⟨t, next, apart, fun q => ?_, ?_, ?_⟩
    · rw [freed, pool.mem_iff, List.mem_append, or_comm]
    · rw [freed]
      exact putBack_sorted sorted
    · rw [pool.length_eq, List.length_append, Nat.add_comm] at answered
      exact answered
  · exact refuses jobRelease_served granted (found.trans (jobReleaseOn_jobState foreign ready))

end Sys2Proof.Machine
end

section
/-! SUPPORT. The lines of a job in page memory (R132, R133, R137): the slot of a line, what a write of lines leaves in
their slots, and what it leaves as it was. -/

namespace Sys2Proof.Machine

/-! ### Slots and their addresses (R132, R133) -/

section
variable {j : Job} {m n slot slot' : Nat} {page page' : Page}

theorem lineSlot_eq_some : j.lineSlot n = some (page, slot) ↔ j.pages[n / 8]? = some page ∧ n % 8 = slot := by
  simp [Job.lineSlot, Config.slotsPerPage]

theorem exists_lineSlot (room : n < j.capacity) : ∃ page slot, j.lineSlot n = some (page, slot) := by
  rw [Job.capacity, Config.slotsPerPage] at room
  exact ⟨_, _, lineSlot_eq_some.mpr ⟨List.getElem?_eq_getElem (by omega), rfl⟩⟩

/-- The slots lie in memory in the order of their marks, 32 bytes each. -/
theorem slotAddress_eq : slotAddress page slot = 32 * markAddress page slot := by
  simp only [slotAddress, markAddress, Config.pageBytes, Config.slotBytes, Config.slotsPerPage]
  omega

/-- Two lines of a job have two slots. -/
theorem markAddress_ne (nodup : j.pages.Nodup) (other : m ≠ n) (held : j.lineSlot m = some (page, slot))
    (held' : j.lineSlot n = some (page', slot')) : markAddress page slot ≠ markAddress page' slot' := by
  obtain ⟨entry, rfl⟩ := lineSlot_eq_some.mp held
  obtain ⟨entry', rfl⟩ := lineSlot_eq_some.mp held'
  simp only [markAddress, Config.slotsPerPage]
  intro same
  have samePage : page = page' := Fin.ext (by omega)
  have sameEntry : m / 8 = n / 8 :=
    (List.getElem?_inj (List.getElem?_eq_some_iff.mp entry).1 nodup).mp (by rw [entry, entry', samePage])
  omega

end

/-! ### What a write leaves as it was -/

section
variable {s : State} {j : Job} {m n a : Nat}

/-- Address `a` lies outside the slot of line `n`. -/
def Job.slotAvoids (j : Job) (n a : Nat) : Prop :=
  ∀ page slot, j.lineSlot n = some (page, slot) → a < slotAddress page slot ∨ slotAddress page slot + 32 ≤ a

/-- Address `a` is not that of the mark of line `n`. -/
def Job.markAvoids (j : Job) (n a : Nat) : Prop :=
  ∀ page slot, j.lineSlot n = some (page, slot) → a ≠ markAddress page slot

theorem writeLine_pageMem_avoided (l : Text × Bool) (law : MemoryLaw s) (avoids : j.slotAvoids n a) :
    memRead (s.writeLine j n l).pageMem a = memRead s.pageMem a := by
  obtain ⟨pageMem, -⟩ := law
  unfold State.writeLine
  split
  · rfl
  next page slot held =>
    rw [memRead_memWriteAll _ _ _ pageMem]
    split_ifs with above
    · have past : (fillLine l.1)[a - slotAddress page slot]? = none := by
        rw [List.getElem?_eq_none_iff, fillLine_length]
        have := avoids page slot held
        omega
      rw [past, Option.getD_none]
    · rfl

theorem writeLine_boldMarks_avoided (l : Text × Bool) (law : MemoryLaw s) (avoids : j.markAvoids n a) :
    memRead (s.writeLine j n l).boldMarks a = memRead s.boldMarks a := by
  obtain ⟨-, boldMarks⟩ := law
  unfold State.writeLine
  split
  · rfl
  next page slot held => rw [memRead_memWrite _ _ _ boldMarks, if_neg (avoids page slot held)]

theorem writeLines_pageMem_avoided (ls : List (Text × Bool)) (law : MemoryLaw s)
    (avoids : ∀ k, k < ls.length → j.slotAvoids (n + k) a) :
    memRead (s.writeLines j n ls).pageMem a = memRead s.pageMem a := by
  induction ls generalizing s n with
  | nil => rfl
  | cons l ls ih =>
    have later : ∀ k, k < ls.length → j.slotAvoids (n + 1 + k) a := fun k hk => by
      rw [Nat.add_right_comm]
      exact avoids (k + 1) (Nat.succ_lt_succ hk)
    exact (ih (State.writeLine_wf j n l law) later).trans
      (writeLine_pageMem_avoided l law (avoids 0 (Nat.succ_pos _)))

theorem writeLines_boldMarks_avoided (ls : List (Text × Bool)) (law : MemoryLaw s)
    (avoids : ∀ k, k < ls.length → j.markAvoids (n + k) a) :
    memRead (s.writeLines j n ls).boldMarks a = memRead s.boldMarks a := by
  induction ls generalizing s n with
  | nil => rfl
  | cons l ls ih =>
    have later : ∀ k, k < ls.length → j.markAvoids (n + 1 + k) a := fun k hk => by
      rw [Nat.add_right_comm]
      exact avoids (k + 1) (Nat.succ_lt_succ hk)
    exact (ih (State.writeLine_wf j n l law) later).trans
      (writeLine_boldMarks_avoided l law (avoids 0 (Nat.succ_pos _)))

/-- The lines written reach no part of the state but the two memories. -/
theorem writeLines_frame (s : State) (j : Job) (n : Nat) (ls : List (Text × Bool)) :
    ∃ pageMem boldMarks, s.writeLines j n ls = { s with pageMem := pageMem, boldMarks := boldMarks } := by
  induction ls generalizing s n with
  | nil => exact ⟨_, _, rfl⟩
  | cons l ls ih =>
    obtain ⟨pageMem, boldMarks, rest⟩ := ih (s.writeLine j n l) (n + 1)
    refine ⟨pageMem, boldMarks, rest.trans ?_⟩
    unfold State.writeLine
    split <;> rfl

/-! ### What a write leaves in its slots -/

theorem storedLine_writeLine (l : Text × Bool) (law : MemoryLaw s) (room : n < j.capacity) :
    (s.writeLine j n l).storedLine j n = (fillLine l.1, l.2) := by
  obtain ⟨pageMem, boldMarks⟩ := law
  obtain ⟨page, slot, held⟩ := exists_lineSlot room
  have characters := memReadAll_memWriteAll (slotAddress page slot) (fillLine l.1) pageMem
  rw [fillLine_length] at characters
  simp only [State.storedLine, State.writeLine, held, Config.slotBytes, characters,
    memRead_memWrite _ _ _ boldMarks, if_true]
  cases l.2 <;> rfl

/-- A line below those written stands as it was. -/
theorem storedLine_writeLines_below (ls : List (Text × Bool)) (law : MemoryLaw s) (nodup : j.pages.Nodup)
    (below : m < n) : (s.writeLines j n ls).storedLine j m = s.storedLine j m := by
  unfold State.storedLine
  split
  · rfl
  next page slot held =>
    have apart (k : Nat) (page' : Page) (slot' : Nat) (held' : j.lineSlot (n + k) = some (page', slot')) :
        markAddress page slot ≠ markAddress page' slot' := markAddress_ne nodup (by omega) held held'
    have mark : memRead (s.writeLines j n ls).boldMarks (markAddress page slot) = _ :=
      writeLines_boldMarks_avoided ls law fun k _ => apart k
    have characters : ∀ c ∈ List.range Config.slotBytes,
        memRead (s.writeLines j n ls).pageMem (slotAddress page slot + c) =
          memRead s.pageMem (slotAddress page slot + c) := by
      intro c column
      rw [List.mem_range, Config.slotBytes] at column
      refine writeLines_pageMem_avoided ls law fun k _ page' slot' held' => ?_
      have := apart k page' slot' held'
      rw [slotAddress_eq, slotAddress_eq]
      omega
    rw [mark]
    exact congrArg (·, _) (List.map_congr_left characters)

/-- Every line written stands in its slot. -/
theorem storedLine_writeLines {ls : List (Text × Bool)} {k : Nat} {l : Text × Bool} (law : MemoryLaw s)
    (nodup : j.pages.Nodup) (room : n + ls.length ≤ j.capacity) (line : ls[k]? = some l) :
    (s.writeLines j n ls).storedLine j (n + k) = (fillLine l.1, l.2) := by
  induction ls generalizing s n k with
  | nil => cases line
  | cons x ls ih =>
    rw [List.length_cons] at room
    have lawful : MemoryLaw (s.writeLine j n x) := State.writeLine_wf j n x law
    cases k with
    | zero =>
      obtain rfl : x = l := Option.some.inj line
      exact (storedLine_writeLines_below ls lawful nodup (Nat.lt_succ_self n)).trans
        (storedLine_writeLine x law (by omega))
    | succ k =>
      rw [← Nat.succ_add_eq_add_succ]
      exact ih lawful (by omega) line

end

/-- A text of at most 32 characters is filled with spaces. -/
theorem fillLine_of_short {t : Text} (short : t.length ≤ 32) :
    fillLine t = t ++ List.replicate (32 - t.length) 0x20 := by
  rw [fillLine, Config.slotBytes, List.take_append, List.take_of_length_le short, List.take_replicate,
    Nat.min_eq_left (Nat.sub_le 32 t.length)]

end Sys2Proof.Machine
end

section
/-! SUPPORT. A job that goes on (R137, R139, R141, R142): the engine of a STALLED job, the part it enters, and what a
written or closed job does by its state. -/

namespace Sys2Proof.Machine

/-! ### The engine of a STALLED job (R141, R152) -/

/-- The engine is in SENDING with nothing on the link and no backoff: its next byte begins a frame (R153). -/
def Engine.awaitsByte (e : Engine) : Prop := e.state = .sending ∧ e.frame = none ∧ e.backoff = none

/-- A job that is in a queue and not QUEUED is its head (R135). -/
theorem QueueLaw.headJob {s : State} (law : QueueLaw s) {jn : JobNo} {j : Job} (job : s.jobs[jn] = some j)
    (queues : j.state.queues = true) (begun : j.state ≠ .queued) : s.headJob j.printer = some (jn, j) := by
  obtain ⟨-, -, joined, behind⟩ := law
  have held := joined jn j job queues
  have notBehind := fun tail => begun (behind j.printer jn j tail job)
  unfold State.headJob
  cases queue : s.queues[j.printer] with
  | nil => simp [queue] at held
  | cons first rest =>
    rw [queue] at held notBehind
    obtain rfl : jn = first := (List.mem_cons.mp held).resolve_right notBehind
    simp [job]

/-- An engine that holds a job and has no byte to send neither rests nor is inhibited (R152, R155). -/
theorem Engine.lawful.awaitsByte {e : Engine} (law : e.lawful) {jn : JobNo} (held : e.job = some jn)
    (silent : e.pendingByte = none) : e.awaitsByte := by
  obtain ⟨-, -, frame, backoff, -, resting, -, -, inhibited, -⟩ := law
  simp only [silent, Option.isSome_none, Bool.false_eq_true, and_false, imp_false] at frame backoff inhibited
  have working : ¬ (e.state = .idle ∨ e.state = .halted ∨ e.state = .off) := fun rests => by
    simp [(resting rests).1] at held
  refine ⟨?_, by simpa using frame, by simpa using backoff⟩
  cases state : e.state with
  | sending => rfl
  | inhibited => exact absurd state inhibited
  | idle | halted | off => simp [state] at working

theorem SpoolLaw.stalled_awaitsByte {s : State} (law : SpoolLaw s) {jn : JobNo} {j : Job} (job : s.jobs[jn] = some j)
    (stalled : j.state = .stalled) (unended : j.endPending = none) : (s.printers[j.printer]).awaitsByte := by
  obtain ⟨-, -, queues, engines⟩ := law
  have head := queues.headJob job (by rw [stalled]; rfl) (by rw [stalled]; decide)
  obtain ⟨lawful, -, ofHead, -⟩ := engines j.printer
  obtain ⟨holds, -, silent, -⟩ := ofHead jn j head
  exact lawful.awaitsByte (holds (.inr stalled)) (silent stalled unended)

/-! ### The part the engine enters (R158) -/

section
variable {s : State} {p : Printer} {jn : JobNo} {j : Job}

/-- Of two settings of one engine the later one stands. -/
theorem State.setEngine_setEngine (s : State) (p : Printer) (x y : Engine) :
    (s.setEngine p x).setEngine p y = s.setEngine p y := by
  simp [State.setEngine]

/-- Before the first byte of a part, the engine begins its frame or is inhibited (R153, R155). -/
theorem enterPart_beginFrame {part : CopyPart} {b : LinkByte} (awaits : (s.printers[p]).awaitsByte)
    (first : (s.partBytes j part).head? = some b) :
    (s.enterPart p j part).beginFrame p = s.setEngine p (sendsByte s s.printers[p] { part := part, next := 0 } b) := by
  have engine : (s.enterPart p j part).printers[p] =
      { s.printers[p] with position := some { part := part, next := 0 }, pendingByte := some b } := by
    rw [State.enterPart, State.setEngine_get, if_pos rfl, first]
  rw [State.beginFrame, engine, State.enterPart, State.setEngine_setEngine, State.setEngine_setEngine]
  generalize s.printers[p] = e at awaits
  cases e
  obtain ⟨rfl, rfl, rfl⟩ := awaits
  simp only [Option.isSome_some, Option.isNone_none, and_self, if_true, sendsByte]
  split_ifs <;> rfl

/-- Of the state, sending reads the inhibit limit alone. -/
theorem sendsByte_congr {t : State} (settings : t.settings = s.settings) (e : Engine) (pos : Position) (b : LinkByte) :
    sendsByte t e pos b = sendsByte s e pos b := by
  rw [sendsByte, sendsByte, settings]

theorem nextPart_of_unsent (job : s.jobs[jn] = some j) (unended : j.endPending = none) (unsent : j.sent < j.written) :
    s.nextPart p jn = s.enterPart p j (.stored j.sent) := by
  simp [State.nextPart, job, unended, unsent]

theorem nextPart_of_closed (job : s.jobs[jn] = some j) (unended : j.endPending = none) (sent : j.sent = j.written)
    (closed : j.closed = true) : s.nextPart p jn = s.enterPart p j .cut := by
  simp [State.nextPart, job, unended, sent, closed]

/-! ### A job written to or closed, by its state (R137, R141, R142) -/

/-- A STALLED job back in PRINTING (R141). -/
def Job.resumed (j : Job) : Job := { j with state := .printing, stall := none }

theorem afterWrite_of_unmoved (unmoved : j.state = .writing ∨ j.state = .printing ∨ j.state = .halted) :
    s.afterWrite jn j = s := by
  unfold State.afterWrite
  rcases unmoved with state | state | state <;> rw [state]

theorem afterWrite_of_queued (queued : j.state = .queued) : s.afterWrite jn j = s.offer j.printer := by
  simp only [State.afterWrite, queued]

/-- A resumed job's engine sends the first byte of the part that comes next. -/
theorem afterWrite_of_stalled {part : CopyPart} {b : LinkByte} (stalled : j.state = .stalled)
    (awaits : (s.printers[j.printer]).awaitsByte)
    (entered : (s.setJob jn (some j.resumed)).nextPart j.printer jn =
      (s.setJob jn (some j.resumed)).enterPart j.printer j.resumed part)
    (first : (s.partBytes j.resumed part).head? = some b) :
    s.afterWrite jn j = (s.setJob jn (some j.resumed)).setEngine j.printer
      (sendsByte s s.printers[j.printer] { part := part, next := 0 } b) := by
  have resumes : s.afterWrite jn j =
      ((s.setJob jn (some j.resumed)).nextPart j.printer jn).beginFrame j.printer := by
    simp only [State.afterWrite, stalled]
    rfl
  rw [resumes, entered]
  exact enterPart_beginFrame awaits first

theorem afterWrite_actsOnSpool (jn : JobNo) (j : Job) : ActsOnSpool (·.afterWrite jn j) := by
  unfold State.afterWrite
  split
  · exact (beginFrame_actsOnSpool _).comp ((nextPart_actsOnSpool _ jn).comp (setJob_actsOnSpool jn _))
  · exact offer_actsOnSpool _
  · exact .unchanged

end

end Sys2Proof.Machine
end

section
/-! SUPPORT. A request that acts on the spool alone, and its answer (R171, R172). -/

namespace Sys2Proof.Machine

theorem answers_onSpool {i : Instr} {code : Byte} {h : Req → State → State} {s : State} {p : Port} {tag : Byte}
    {data : List Byte} {o : OutcomeCode} {d : List Byte} {f : State → State} (served : ServedBy i code h)
    (granted : GrantedTo s p tag code data) (acts : ActsOnSpool f)
    (rule : h ⟨p, tag, code, data⟩ s = answer ⟨p, tag, code, data⟩ o d (f s)) :
    ∃ u, exec i s = .next u ∧ Apart u (withSpool s (f s)) ∧ Answered s u p ⟨tag, code, o, d⟩ := by
  rw [acts.frame s] at rule
  exact answers served granted rule rfl rfl

end Sys2Proof.Machine
end

section
/-! SUPPORT. The Spool Manager's requests on jobs (chapter 8): JOB_WRITE (R137). -/

namespace Sys2Proof.Machine

theorem jobWrite_served : ServedBy .jobWrite 0x41 jobWrite := fun _ => rfl

/-! ### The form of JOB_WRITE (R137, R170) -/

/-- A line above 32 characters is not taken (R170). -/
theorem takeLines_of_long {ls : List (Text × Bool)} (bytes : ∀ l ∈ ls, l.1.length < 256)
    (long : ∃ l ∈ ls, 32 < l.1.length) : takeLines ls.length (encLines ls) = none := by
  induction ls with
  | nil => simp at long
  | cons l ls ih =>
    obtain ⟨bytes, later⟩ := List.forall_mem_cons.mp bytes
    have flag : decFlag (if l.2 then 1 else 0) = some l.2 := by cases l.2 <;> decide
    have data : encLines (l :: ls) = encText l.1 ++ ((if l.2 then 1 else 0) :: encLines ls) := by
      simp [encLines, encFlag]
    rw [data, List.length_cons, takeLines]
    by_cases first : 32 < l.1.length
    · have length : (BitVec.ofNat 8 l.1.length).toNat = l.1.length := by rw [toNat_ofNat8]; omega
      have refused (rest : List Byte) : takeText 32 (encText l.1 ++ rest) = none := by
        simp only [encText, enc1_eq, List.cons_append, List.nil_append, takeText, length]
        exact if_neg (by omega)
      simp only [refused]
    · have rest := ih later (by simpa [first] using long)
      simp only [takeText_encText 32 l.1 _ (by omega) bytes, flag, rest]

/-- The data of a JOB_WRITE: the job number and the list of lines. -/
def jobWriteData (number : Nat) (ls : List (Text × Bool)) : List Byte :=
  enc1 number ++ encList (fun l : Text × Bool => encText l.1 ++ encFlag l.2) ls

theorem decodeJobWrite_of_long {number : Nat} {ls : List (Text × Bool)} (count : ls.length < 256)
    (bytes : ∀ l ∈ ls, l.1.length < 256) (long : ∃ l ∈ ls, 32 < l.1.length) :
    decodeJobWrite (jobWriteData number ls) = none := by
  have length : (BitVec.ofNat 8 ls.length).toNat = ls.length := by rw [toNat_ofNat8]; omega
  have refused := takeLines_of_long bytes long
  simp only [jobWriteData, encList, enc1_eq, List.cons_append, List.nil_append, decodeJobWrite, length]
  exact congrArg _ refused

theorem decodeJobWrite_of_short {number : Nat} {ls : List (Text × Bool)} (hn : number < 256) (count : ls.length < 256)
    (short : ∀ l ∈ ls, l.1.length ≤ 32) : decodeJobWrite (jobWriteData number ls) = some (number, ls) := by
  rw [jobWriteData, encList, ← List.append_assoc]
  exact decodeJobWrite_enc number ls hn count short

section
variable {r : Req} {number : Nat} {ls : List (Text × Bool)} {s : State}

theorem jobWrite_of_form (hn : number < 256) (data : r.data = jobWriteData number ls) (least : 1 ≤ ls.length)
    (most : ls.length ≤ 6) (short : ∀ l ∈ ls, l.1.length ≤ 32) :
    jobWrite r s = onOwnJob r number s (jobWriteOn r ls s) := by
  simp only [jobWrite, data, decodeJobWrite_of_short hn (by omega) short]
  exact if_pos ⟨least, most⟩

theorem jobWrite_of_badParam (hn : number < 256) (count : ls.length < 256) (bytes : ∀ l ∈ ls, l.1.length < 256)
    (data : r.data = jobWriteData number ls)
    (bad : 32 ≤ number ∨ ls.length = 0 ∨ 6 < ls.length ∨ ∃ l ∈ ls, 32 < l.1.length) :
    jobWrite r s = answer r .badParam [] s := by
  by_cases long : ∃ l ∈ ls, 32 < l.1.length
  · simp only [jobWrite, data, decodeJobWrite_of_long count bytes long]
  · have short : ∀ l ∈ ls, l.1.length ≤ 32 := fun l held => not_lt.mp fun above => long ⟨l, held, above⟩
    by_cases lines : 1 ≤ ls.length ∧ ls.length ≤ 6
    · have outside : 32 ≤ number := by
        simp only [long, or_false] at bad
        omega
      exact (jobWrite_of_form hn data lines.1 lines.2 short).trans (onJob_of_outOfRange _ _ outside)
    · simp only [jobWrite, data, decodeJobWrite_of_short hn count short]
      exact if_neg lines

/-! ### The checks of JOB_WRITE on its job (R137) -/

variable {jn : JobNo} {j : Job}

theorem jobWriteOn_jobState (ended : j.closed ∨ j.state = .done ∨ j.endPending ≠ none) :
    jobWriteOn r ls s jn j = answer r .jobState [] s :=
  if_pos (by rwa [Option.isSome_iff_ne_none])

variable (goes : ¬ (j.closed ∨ j.state = .done ∨ j.endPending ≠ none))
include goes

theorem jobWriteOn_jobFull (full : 8 * j.pages.length < j.written + ls.length) :
    jobWriteOn r ls s jn j = answer r .jobFull (enc1 (8 * j.pages.length - j.written)) s :=
  (if_neg (by rwa [Option.isSome_iff_ne_none])).trans (if_pos full)

theorem jobWriteOn_accepted (room : ¬ 8 * j.pages.length < j.written + ls.length) :
    jobWriteOn r ls s jn j = answer r .ok (enc1 (j.written + ls.length)) (writeJob jn j ls s) :=
  (if_neg (by rwa [Option.isSome_iff_ne_none])).trans (if_neg room)

end

/-! ### The lines in their slots (R137) -/

section
variable (jn : JobNo) (j : Job) (ls : List (Text × Bool)) (s : State)

/-- A line as JOB_WRITE stores it: '?' for every byte that is not printable. -/
def storedForm (l : Text × Bool) : Text × Bool := (l.1.map storedByte, l.2)

/-- The job's record with its lines written. -/
def Job.lengthened (j : Job) (ls : List (Text × Bool)) : Job := { j with written := j.written + ls.length }

/-- The lines stand in their slots and are counted, and nothing has gone on yet. -/
def linesWritten : State :=
  (s.writeLines j j.written (ls.map storedForm)).setJob jn (some (j.lengthened ls))

theorem writeJob_eq : writeJob jn j ls s = (linesWritten jn j ls s).afterWrite jn (j.lengthened ls) := rfl

theorem writeJob_actsOnSpool : ActsOnSpool (writeJob jn j ls) :=
  (afterWrite_actsOnSpool jn _).comp ((setJob_actsOnSpool jn _).comp (writeLines_actsOnSpool j _ _))

theorem linesWritten_frame :
    linesWritten jn j ls s = { s with
      pageMem := (linesWritten jn j ls s).pageMem, boldMarks := (linesWritten jn j ls s).boldMarks
      jobs := s.jobs.set jn (some (j.lengthened ls)) } := by
  obtain ⟨pageMem, boldMarks, written⟩ := writeLines_frame s j j.written (ls.map storedForm)
  rw [linesWritten, written]
  rfl

@[simp] theorem linesWritten_settings : (linesWritten jn j ls s).settings = s.settings := by
  rw [linesWritten_frame]

@[simp] theorem linesWritten_jobs : (linesWritten jn j ls s).jobs = s.jobs.set jn (some (j.lengthened ls)) := by
  rw [linesWritten_frame]

@[simp] theorem linesWritten_printers : (linesWritten jn j ls s).printers = s.printers := by
  rw [linesWritten_frame]

variable {jn j ls s}

theorem linesWritten_storedLine {n : Nat} {l : Text × Bool} (law : MemoryLaw s) (nodup : j.pages.Nodup)
    (room : j.written + ls.length ≤ j.capacity) (short : l.1.length ≤ 32) (line : ls[n]? = some l) :
    (linesWritten jn j ls s).storedLine j (j.written + n) =
      ((l.1.map fun b => if printable b then b else 0x3F) ++ List.replicate (32 - l.1.length) 0x20, l.2) := by
  have stored : (ls.map storedForm)[n]? = some (storedForm l) := by rw [List.getElem?_map, line]; rfl
  refine (storedLine_writeLines law nodup (by rwa [List.length_map]) stored).trans ?_
  rw [storedForm, fillLine_of_short (by rwa [List.length_map]), List.length_map]
  rfl

theorem linesWritten_pageMem_avoided {a : Nat} (law : MemoryLaw s)
    (avoids : ∀ n, n < ls.length → j.slotAvoids (j.written + n) a) :
    memRead (linesWritten jn j ls s).pageMem a = memRead s.pageMem a :=
  writeLines_pageMem_avoided _ law (by rwa [List.length_map])

theorem linesWritten_boldMarks_avoided {a : Nat} (law : MemoryLaw s)
    (avoids : ∀ n, n < ls.length → j.markAvoids (j.written + n) a) :
    memRead (linesWritten jn j ls s).boldMarks a = memRead s.boldMarks a :=
  writeLines_boldMarks_avoided _ law (by rwa [List.length_map])

/-- A line sent to a printer has a first byte, be it its LF (R158). -/
theorem exists_storedLineBytes_head (line : Text × Bool) : ∃ b, (storedLineBytes line).head? = some b := by
  cases first : (storedLineBytes line).head? with
  | some b => exact ⟨b, rfl⟩
  | none =>
    rw [List.head?_eq_none_iff, storedLineBytes] at first
    split_ifs at first <;> simp at first

theorem writeJob_of_unmoved (unmoved : j.state = .writing ∨ j.state = .printing ∨ j.state = .halted) :
    writeJob jn j ls s = linesWritten jn j ls s :=
  afterWrite_of_unmoved (j := j.lengthened ls) unmoved

theorem writeJob_of_queued (queued : j.state = .queued) :
    writeJob jn j ls s = (linesWritten jn j ls s).offer j.printer :=
  afterWrite_of_queued (j := j.lengthened ls) queued

/-- A STALLED job that was written to goes on from the first line not yet sent. -/
theorem writeJob_of_stalled {b : LinkByte} (law : SpoolLaw s) (job : s.jobs[jn] = some j) (stalled : j.state = .stalled)
    (unended : j.endPending = none) (least : 1 ≤ ls.length)
    (first : (storedLineBytes ((linesWritten jn j ls s).storedLine j j.sent)).head? = some b) :
    writeJob jn j ls s = { linesWritten jn j ls s with
      jobs := s.jobs.set jn (some (j.lengthened ls).resumed)
      printers := s.printers.set j.printer
        (sendsByte s s.printers[j.printer] { part := .stored j.sent, next := 0 } b) } := by
  obtain ⟨-, jobs, -⟩ := id law
  obtain ⟨-, -, -, sent, -⟩ := jobs jn j job
  have awaits : ((linesWritten jn j ls s).printers[j.printer]).awaitsByte := by
    rw [linesWritten_printers]
    exact law.stalled_awaitsByte job stalled unended
  have entered : ((linesWritten jn j ls s).setJob jn (some (j.lengthened ls).resumed)).nextPart j.printer jn = _ :=
    nextPart_of_unsent (j := (j.lengthened ls).resumed) (by rw [State.setJob_get, if_pos rfl]) unended
      (show j.sent < j.written + ls.length by omega)
  have went := afterWrite_of_stalled (j := j.lengthened ls) stalled awaits entered first
  rw [writeJob_eq, went, sendsByte_congr (linesWritten_settings jn j ls s)]
  simp only [State.setEngine, State.setJob, linesWritten_printers, linesWritten_jobs, Vector.set_set]
  rfl

end

/-- Settles O44: JOB_WRITE judges form, owner, state and room in this order; an accepted one puts its lines into their
slots, and the job goes on by its state. -/
theorem jobWriteFillsItsSlots : Obligations.JobWriteFillsItsSlots := by
  refine fun s p tag number ls hn bytes count granted => ⟨fun bad => ?_, ?_⟩
  · exact refuses jobWrite_served granted (jobWrite_of_badParam hn count bytes rfl bad)
  rintro jn rfl least most short law memory
  have formed : jobWrite ⟨p, tag, 0x41, jobWriteData jn.val ls⟩ s = _ := jobWrite_of_form hn rfl least most short
  refine ⟨fun other => refuses jobWrite_served granted (formed.trans (onOwnJob_of_notOwner _ _ other)),
    fun j job own => ?_⟩
  have found := formed.trans (onOwnJob_of_owner ⟨p, tag, 0x41, jobWriteData jn.val ls⟩ _ job own)
  split_ifs with ended full
  · exact refuses jobWrite_served granted (found.trans (jobWriteOn_jobState ended))
  · exact answers jobWrite_served granted (found.trans (jobWriteOn_jobFull ended full)) rfl rfl
  have unended : j.endPending = none := not_not.mp fun pending => ended (.inr (.inr pending))
  have nodup : j.pages.Nodup := by
    obtain ⟨-, jobs, -⟩ := law
    obtain ⟨-, ascending, -⟩ := jobs jn j job
    exact ascending.imp fun below => below.ne
  obtain ⟨t, next, apart, answered⟩ := answers_onSpool jobWrite_served granted (writeJob_actsOnSpool jn j ls)
    (found.trans (jobWriteOn_accepted ended full))
  have written := ((writeJob_actsOnSpool jn j ls).frame s).symm
  refine ⟨t, linesWritten jn j ls s, next, answered, linesWritten_frame jn j ls s, fun n l line => ?_,
    fun a avoids => linesWritten_pageMem_avoided memory fun n hn page slot => avoids n page slot hn,
    fun a avoids => linesWritten_boldMarks_avoided memory fun n hn page slot => avoids n page slot hn,
    fun unmoved => ?_, fun queued => ?_, fun stalled => ?_⟩
  · exact linesWritten_storedLine memory nodup (not_lt.mp full) (short l (List.mem_of_getElem? line)) line
  · rwa [written, writeJob_of_unmoved unmoved] at apart
  · rwa [writeJob_of_queued queued] at apart
  · obtain ⟨b, first⟩ := exists_storedLineBytes_head ((linesWritten jn j ls s).storedLine j j.sent)
    rw [written, writeJob_of_stalled law job stalled unended least first] at apart
    exact ⟨b, first, apart⟩

end Sys2Proof.Machine
end

section
/-! SUPPORT. The Spool Manager's requests on jobs (chapter 8): JOB_SUBMIT (R138) and JOB_CLOSE (R142). -/

namespace Sys2Proof.Machine

theorem jobSubmit_served : ServedBy .jobSubmit 0x42 jobSubmit := fun _ => rfl

theorem jobClose_served : ServedBy .jobClose 0x43 jobClose := fun _ => rfl

/-! ### The checks of JOB_SUBMIT (R138) -/

section
variable {r : Req} {s : State} {n copies threshold : Nat} (hn : n < 256) (hcopies : copies < 256)
  (hthreshold : threshold < 256) (data : r.data = enc1 n ++ enc1 copies ++ enc1 threshold)
include hn hcopies hthreshold data

theorem jobSubmit_of_form (form : 1 ≤ copies ∧ copies ≤ 3 ∧ threshold ≤ 96) :
    jobSubmit r s = onJob r n s (jobSubmitOn r copies threshold s) := by
  simp only [jobSubmit, data, decodeThree_enc n copies threshold hn hcopies hthreshold]
  exact if_pos form

theorem jobSubmit_of_badParam (bad : ¬ (n < 32 ∧ (1 ≤ copies ∧ copies ≤ 3) ∧ threshold ≤ 96)) :
    jobSubmit r s = answer r .badParam [] s := by
  by_cases form : 1 ≤ copies ∧ copies ≤ 3 ∧ threshold ≤ 96
  · exact (jobSubmit_of_form hn hcopies hthreshold data form).trans (onJob_of_outOfRange _ _ (by omega))
  · simp only [jobSubmit, data, decodeThree_enc n copies threshold hn hcopies hthreshold]
    exact if_neg form

end

theorem submitJob_actsOnSpool (jn : JobNo) (j : Job) (copies threshold : Nat) :
    ActsOnSpool (submitJob jn j copies threshold) :=
  (offer_actsOnSpool _).comp ((joinQueue_actsOnSpool _ jn).comp (setJob_actsOnSpool jn _))

/-- JOB_SUBMIT on the job it names (R138). -/
theorem jobSubmit_onJob {s : State} {p : Port} {tag : Byte} {data : List Byte} {jn : JobNo} {j : Job}
    {copies threshold : Nat} (granted : GrantedTo s p tag 0x42 data)
    (found : jobSubmit ⟨p, tag, 0x42, data⟩ s = jobSubmitOn ⟨p, tag, 0x42, data⟩ copies threshold s jn j) :
    if 8 * j.pages.length < threshold then Refuses .jobSubmit s p ⟨tag, 0x42, .badParam, []⟩
    else if j.owner ≠ .port p then Refuses .jobSubmit s p ⟨tag, 0x42, .noJob, []⟩
    else if j.state ≠ .writing then Refuses .jobSubmit s p ⟨tag, 0x42, .jobState, []⟩
    else if threshold = 0 ∧ j.written = 0 then Refuses .jobSubmit s p ⟨tag, 0x42, .noLines, []⟩
    else ∃ t, exec .jobSubmit s = .next t ∧ Apart t (withSpool s (submitJob jn j copies threshold s)) ∧
      Answered s t p ⟨tag, 0x42, .ok, enc1 (s.queues[j.printer].length + 1)⟩ := by
  unfold jobSubmitOn at found
  change if j.capacity < threshold then _ else _
  split_ifs with capacity other begun empty
  · rw [if_pos capacity] at found
    exact refuses jobSubmit_served granted found
  · rw [if_neg capacity, if_pos other] at found
    exact refuses jobSubmit_served granted found
  · rw [if_neg capacity, if_neg other, if_pos begun] at found
    exact refuses jobSubmit_served granted found
  · rw [if_neg capacity, if_neg other, if_neg begun, if_pos empty] at found
    exact refuses jobSubmit_served granted found
  · rw [if_neg capacity, if_neg other, if_neg begun, if_neg empty] at found
    exact answers_onSpool jobSubmit_served granted (submitJob_actsOnSpool jn j copies threshold) found

/-! ### The checks of JOB_CLOSE (R142) -/

theorem jobClose_of_form {r : Req} {s : State} {n : Nat} (hn : n < 256) (data : r.data = enc1 n) :
    jobClose r s = onOwnJob r n s (jobCloseOn r s) := by
  simp only [jobClose, data, decodeOne_enc n hn]

section
variable {r : Req} {s : State} {jn : JobNo} {j : Job}

theorem jobCloseOn_jobState (unclosable : j.state = .writing ∨ j.state = .done ∨ j.closed ∨ j.endPending ≠ none) :
    jobCloseOn r s jn j = answer r .jobState [] s :=
  if_pos (by rwa [Option.isSome_iff_ne_none])

variable (closable : ¬ (j.state = .writing ∨ j.state = .done ∨ j.closed ∨ j.endPending ≠ none))
include closable

theorem jobCloseOn_noLines (empty : j.written = 0) : jobCloseOn r s jn j = answer r .noLines [] s :=
  (if_neg (by rwa [Option.isSome_iff_ne_none])).trans (if_pos empty)

theorem jobCloseOn_accepted (lines : ¬ j.written = 0) :
    jobCloseOn r s jn j = answer r .ok (enc1 j.written) (closeJob jn j s) :=
  (if_neg (by rwa [Option.isSome_iff_ne_none])).trans (if_neg lines)

end

/-! ### A closed job, by its state (R141, R142) -/

theorem closeJob_actsOnSpool (jn : JobNo) (j : Job) : ActsOnSpool (closeJob jn j) :=
  (afterWrite_actsOnSpool jn _).comp (setJob_actsOnSpool jn _)

/-- The job's record closed. -/
def Job.shut (j : Job) : Job := { j with closed := true }

section
variable {s : State} {jn : JobNo} {j : Job}

theorem closeJob_of_unmoved (unmoved : j.state = .writing ∨ j.state = .printing ∨ j.state = .halted) :
    closeJob jn j s = s.setJob jn (some j.shut) :=
  afterWrite_of_unmoved (j := j.shut) unmoved

theorem closeJob_of_queued (queued : j.state = .queued) :
    closeJob jn j s = (s.setJob jn (some j.shut)).offer j.printer :=
  afterWrite_of_queued (j := j.shut) queued

/-- A STALLED job that is closed with every line sent sends CUT. -/
theorem closeJob_of_stalled (law : SpoolLaw s) (job : s.jobs[jn] = some j) (stalled : j.state = .stalled)
    (unended : j.endPending = none) (sent : j.sent = j.written) :
    closeJob jn j s = { s with
      jobs := s.jobs.set jn (some j.shut.resumed)
      printers := s.printers.set j.printer
        (sendsByte s s.printers[j.printer] { part := .cut, next := 0 } (controlCode Config.codeCut)) } := by
  have entered : ((s.setJob jn (some j.shut)).setJob jn (some j.shut.resumed)).nextPart j.printer jn = _ :=
    nextPart_of_closed (j := j.shut.resumed) (by rw [State.setJob_get, if_pos rfl]) unended sent rfl
  have awaits := law.stalled_awaitsByte job stalled unended
  have went := afterWrite_of_stalled (s := s.setJob jn (some j.shut)) (j := j.shut) stalled awaits entered rfl
  refine went.trans ?_
  simp only [State.setEngine, State.setJob, Vector.set_set]
  rfl

end

/-- Settles O45: JOB_SUBMIT judges form, capacity, owner, state and lines in this order and queues the job; JOB_CLOSE
judges form, owner, state and lines, and the closed job goes on by its state. -/
theorem jobsAreSubmittedAndClosed : Obligations.JobsAreSubmittedAndClosed := by
  constructor
  · intro s p tag n copies threshold hn hcopies hthreshold granted
    split_ifs with form
    · obtain ⟨number, ⟨least, most⟩, lines⟩ := form
      have formed : jobSubmit ⟨p, tag, 0x42, enc1 n ++ enc1 copies ++ enc1 threshold⟩ s = _ :=
        jobSubmit_of_form hn hcopies hthreshold rfl ⟨least, most, lines⟩
      refine ⟨fun free => ?_, fun j job => ?_⟩
      · exact refuses jobSubmit_served granted (formed.trans (onJob_of_free (jn := ⟨n, number⟩) _ _ free))
      · exact jobSubmit_onJob granted (formed.trans (onJob_of_job (jn := ⟨n, number⟩) _ _ job))
    · exact refuses jobSubmit_served granted (jobSubmit_of_badParam hn hcopies hthreshold rfl form)
  intro s p tag number hn granted
  have formed : jobClose ⟨p, tag, 0x43, enc1 number⟩ s = _ := jobClose_of_form hn rfl
  refine ⟨fun outside => refuses jobClose_served granted (formed.trans (onJob_of_outOfRange _ _ outside)), ?_⟩
  rintro jn rfl law
  refine ⟨fun other => refuses jobClose_served granted (formed.trans (onOwnJob_of_notOwner _ _ other)),
    fun j job own => ?_⟩
  have found := formed.trans (onOwnJob_of_owner ⟨p, tag, 0x43, enc1 jn.val⟩ _ job own)
  split_ifs with unclosable empty
  · exact refuses jobClose_served granted (found.trans (jobCloseOn_jobState unclosable))
  · exact refuses jobClose_served granted (found.trans (jobCloseOn_noLines unclosable empty))
  obtain ⟨t, next, apart, answered⟩ := answers_onSpool jobClose_served granted (closeJob_actsOnSpool jn j)
    (found.trans (jobCloseOn_accepted unclosable empty))
  have closed := ((closeJob_actsOnSpool jn j).frame s).symm
  have unended : j.endPending = none := not_not.mp fun pending => unclosable (.inr (.inr (.inr pending)))
  refine ⟨t, next, answered, fun unmoved => ?_, fun queued => ?_, fun stalled sent => ?_⟩
  · rwa [closed, closeJob_of_unmoved (.inr unmoved)] at apart
  · rwa [closeJob_of_queued queued] at apart
  · rwa [closed, closeJob_of_stalled law job stalled unended sent] at apart

end Sys2Proof.Machine
end

section
/-! SUPPORT. The line formats (10.4) and the receiver of a station port (10.2): the CHECK of a frame, the bytes of a
frame at a receiver, and the judgement of the frame that they spell (R167, R169, R171). -/

namespace Sys2Proof.Machine

/-! ### The CHECK of a frame (R167) -/

/-- The byte that brings the sum of LEN and a body to 0. -/
def checkOf (body : List Byte) : Byte := 0 - byteSum (BitVec.ofNat 8 body.length :: body)

theorem requestFrame_eq (tag code : Byte) (data : List Byte) :
    requestFrame tag code data =
      Config.sync :: BitVec.ofNat 8 (data.length + 2) :: (tag :: code :: data) ++ [checkOf (tag :: code :: data)] := rfl

theorem Response.bytes_eq (r : Response) :
    r.bytes = Config.sync :: BitVec.ofNat 8 r.body.length :: r.body ++ [checkOf r.body] := rfl

theorem byteSum_snoc (bs : List Byte) (b : Byte) : byteSum (bs ++ [b]) = byteSum bs + b := by
  simp [byteSum, List.foldl_append]

theorem byteSum_checkOf (body : List Byte) :
    byteSum (BitVec.ofNat 8 body.length :: (body ++ [checkOf body])) = 0 := by
  rw [← List.cons_append, byteSum_snoc]
  simp [checkOf]

theorem frameGood_checkOf {body : List Byte} (least : 2 ≤ body.length) (most : body.length ≤ 240) :
    frameGood (BitVec.ofNat 8 body.length) (body ++ [checkOf body]) = true := by
  have len : (BitVec.ofNat 8 body.length).toNat = body.length := Nat.mod_eq_of_lt (by omega)
  simp [frameGood, len, least, most, byteSum_checkOf]

/-! ### A byte at the receiver, by its state (R167) -/

section
variable {x : StationPort} (on : x.role ≠ .off)
include on

theorem takeByte_of_hunt (hunts : x.receiver = .hunt) (b : Byte) :
    x.takeByte b = if b = Config.sync then { x with receiver := .length } else x := by
  simp only [StationPort.takeByte, if_neg on, hunts]

theorem takeByte_of_length (counts : x.receiver = .length) (b : Byte) :
    x.takeByte b = { x with receiver := .body b [] (b.toNat + 1) } := by
  simp only [StationPort.takeByte, if_neg on, counts]

section
variable {len : Byte} {held : List Byte} {expected : Nat} (holds : x.receiver = .body len held expected)
include holds

theorem takeByte_of_body (more : 1 < expected) (b : Byte) :
    x.takeByte b = { x with receiver := .body len (held ++ [b]) (expected - 1) } := by
  simp only [StationPort.takeByte, if_neg on, holds, if_neg (Nat.not_le.mpr more)]

theorem takeByte_of_last (last : expected ≤ 1) (b : Byte) :
    x.takeByte b = ({ x with receiver := .hunt } : StationPort).judgeFrame len (held ++ [b]) := by
  simp only [StationPort.takeByte, if_neg on, holds, if_pos last]

end

/-- The bytes of a body leave the receiver with all of them held and the CHECK expected. -/
theorem takeBytes_of_body {len : Byte} {bs held : List Byte} (holds : x.receiver = .body len held (bs.length + 1)) :
    bs.foldl StationPort.takeByte x = { x with receiver := .body len (held ++ bs) 1 } := by
  induction bs generalizing x held with
  | nil =>
    rw [List.append_nil]
    exact congrArg (fun r => { x with receiver := r }) holds
  | cons b bs ih =>
    rw [List.foldl_cons, takeByte_of_body on holds (Nat.succ_lt_succ (Nat.succ_pos _)), List.append_cons held b bs]
    exact ih (x := { x with receiver := .body len (held ++ [b]) (bs.length + 1) }) on rfl

/-- A frame of any body and any CHECK is judged at its last byte. -/
theorem takeFrame (hunts : x.receiver = .hunt) {body : List Byte} (fits : body.length < 256) (check : Byte) :
    (Config.sync :: BitVec.ofNat 8 body.length :: body ++ [check]).foldl StationPort.takeByte x =
      x.judgeFrame (BitVec.ofNat 8 body.length) (body ++ [check]) := by
  generalize length : BitVec.ofNat 8 body.length = len
  have counts : len.toNat = body.length := by rw [← length]; exact Nat.mod_eq_of_lt fits
  calc (Config.sync :: len :: body ++ [check]).foldl StationPort.takeByte x
    _ = (len :: (body ++ [check])).foldl StationPort.takeByte { x with receiver := .length } :=
      congrArg (List.foldl _ · _) ((takeByte_of_hunt on hunts _).trans (if_pos rfl))
    _ = (body ++ [check]).foldl StationPort.takeByte { x with receiver := .body len [] (body.length + 1) } := by
      rw [List.foldl_cons, takeByte_of_length (x := { x with receiver := .length }) on rfl, counts]
    _ = StationPort.takeByte { x with receiver := .body len body 1 } check := by
      rw [List.foldl_concat, takeBytes_of_body
        (x := { x with receiver := .body len [] (body.length + 1) }) on rfl, List.nil_append]
    _ = ({ x with receiver := .hunt } : StationPort).judgeFrame len (body ++ [check]) :=
      takeByte_of_last (x := { x with receiver := .body len body 1 }) on rfl le_rfl check
    _ = x.judgeFrame len (body ++ [check]) := by rw [← hunts]

end

/-! ### The judgement of a request frame (R169) -/

theorem judgeFrame_of_good {x : StationPort} {len tag code check : Byte} {data : List Byte}
    (good : frameGood len (tag :: code :: data ++ [check]) = true) :
    x.judgeFrame len (tag :: code :: data ++ [check]) = x.goodFrame tag code data := by
  rw [StationPort.judgeFrame, if_pos good, List.dropLast_concat]

theorem takeRequestFrame {x : StationPort} {tag code : Byte} {data : List Byte} (on : x.role ≠ .off)
    (hunts : x.receiver = .hunt) (fits : data.length ≤ 238) :
    (requestFrame tag code data).foldl (fun y b => y.takeByte b) x = x.goodFrame tag code data := by
  have most : (tag :: code :: data).length ≤ 240 := Nat.add_le_add_right fits 2
  rw [requestFrame_eq]
  exact (takeFrame on hunts (Nat.lt_of_le_of_lt most (by decide)) _).trans
    (judgeFrame_of_good (frameGood_checkOf (Nat.le_add_left _ _) most))

section
variable {x : StationPort} {tag code : Byte} {data : List Byte}

theorem goodFrame_busy (busy : x.request ≠ none) :
    x.goodFrame tag code data = x.answerAtPort ⟨tag, code, .busy, []⟩ :=
  if_pos (Option.isSome_iff_ne_none.mpr busy)

theorem goodFrame_unknownRequest (free : x.request = none) (unknown : rolesFor code = none) :
    x.goodFrame tag code data = x.answerAtPort ⟨tag, code, .unknownRequest, []⟩ := by
  simp [StationPort.goodFrame, free, unknown]

theorem goodFrame_of_known {roles : List Role} (free : x.request = none) (known : rolesFor code = some roles) :
    x.goodFrame tag code data =
      if x.role ∈ roles then { x with request := some ⟨tag, code, data, .waiting⟩ }
      else x.answerAtPort ⟨tag, code, .roleDenied, []⟩ := by
  simp [StationPort.goodFrame, free, known]

end

/-! ### A response frame (10.4) -/

theorem Response.body_length (r : Response) : r.body.length = r.data.length + 3 := rfl

/-- Settles O57: the bytes of a request frame leave the receiver with the frame judged whole, by the checks of R169 in
their order; a response frame's CHECK brings the sum to 0, and its length lies within that of a good frame. -/
theorem requestFramesReachThePort : Obligations.RequestFramesReachThePort := by
  constructor
  · intro x tag code data on hunts fits
    rw [takeRequestFrame on hunts fits]
    by_cases busy : x.request ≠ none
    · rw [if_pos busy]
      exact goodFrame_busy busy
    · have free : x.request = none := not_not.mp busy
      rw [if_neg busy]
      cases known : rolesFor code with
      | none => exact goodFrame_unknownRequest free known
      | some roles => exact goodFrame_of_known free known
  · intro r fits
    have least : 2 ≤ r.body.length := by rw [r.body_length]; omega
    have most : r.body.length ≤ 240 := by rw [r.body_length]; omega
    exact ⟨checkOf r.body, r.bytes_eq, byteSum_checkOf r.body, frameGood_checkOf least most⟩

end Sys2Proof.Machine
end

section
/-! SUPPORT. What a request row can do, said once for each of the fifty rows (R170 to R173): it answers and changes
nothing else, or it is accepted with one effect under the checks it has passed, or it is left pending in phase
DEFERRED. -/

namespace Sys2Proof.Machine

/-- Slot `i` holds ticket `t` of number `n`, which lies in the range of ticket numbers (R31). -/
structure FoundAt (s : State) (n : Nat) (i : Slot) (t : Ticket) : Prop where
  least : 1 ≤ n
  most : n ≤ Config.maxTicketNumber
  slot : s.slots[i] = some t
  number : t.number = some n

/-- The capture that an accepted request starts at a channel with a signal: marked ticket, capture record, and the
request in phase DEFERRED (R32, R48). -/
def State.beginCapture (s : State) (r : Req) (i : Slot) (t : Ticket) (p : Purpose) (c : Chan) : State :=
  ((s.setSlot i (some { t with marker := some ⟨p, c, r.port, r.tag⟩ })).setChannel c
    (capturing s p.kind i c)).deferRequest r.port

/-- The record of a walk-in ticket at its opening (R55). -/
def openedWalkin (s : State) (p : Port) (n : Nat) : Ticket :=
  { newTicket .walkin .counter p none with number := some n, openedAt := s.seconds }

/-- The state on which an accepted request row is answered OK or CLAMPED, with the checks it has passed. -/
inductive Accepts (r : Req) (s : State) : Instr → State → Prop
  | ackEvents (e : EventSet) : namesEventsOnly e = true →
      Accepts r s .ackEvents (s.setPort r.port (s.ports[r.port].acknowledge e))
  | setMask (e : EventSet) : namesEventsOnly e = true →
      Accepts r s .setMask (s.setPort r.port { s.ports[r.port] with mask := e })
  | setAlias (q : Port) (entry : Fin 4) (k : Option Printer) : s.save = none →
      Accepts r s .setAlias (s.setAliasEntry q entry k)
  | openWalkin {n : Nat} {i : Slot} : s.counter = .valid n → s.freeSlot = some i →
      Accepts r s .openWalkin ((s.writeCounter (.after n)).setSlot i (some (openedWalkin s r.port n)))
  | closeWeighing {n : Nat} {i : Slot} {t : Ticket} : FoundAt s n i t → t.state = .counter → t.marker = none →
      t.lines ≠ [] → Accepts r s .closeWeighing (s.putTicket i { t with state := .weighed } true)
  | deduct {n : Nat} {i : Slot} {t : Ticket} (k dm : Nat) : FoundAt s n i t → t.state ≠ .atWindow → t.marker = none →
      Accepts r s .deduct (s.setSlot i (some (t.deduct k dm)))
  | setSeller {n : Nat} {i : Slot} {t : Ticket} (id : Option Text) : FoundAt s n i t →
      Accepts r s .setSeller (s.setSlot i (some { t with seller := id }))
  | setPlate {n : Nat} {i : Slot} {t : Ticket} (plate : Option Text) : FoundAt s n i t →
      Accepts r s .setPlate (s.setSlot i (some { t with plate := plate }))
  | void {n : Nat} {i : Slot} {t : Ticket} (reason : Nat) : FoundAt s n i t → t.state ≠ .atWindow →
      s.journalFull = false → Accepts r s .void (voidEffects r.port i t reason s)
  | getTicket (t : Ticket) (part : Nat) : Accepts r s .getTicket (s.countFreeRead t part)
  | clearScaleFault (c : Chan) : Accepts r s .clearScaleFault (clearFault c s)
  | setGrade (g : GradeIx) {e : GradeEntry} : s.save = none → GradeEntry.lawful e → Accepts r s .setGrade (s.stage g e)
  | switchPrices : s.save = none → Accepts r s .switchPrices s.switchPrices
  | setContainer (k : Container) {tare : Nat} : s.save = none → tare ≤ 100000 →
      Accepts r s .setContainer (s.setTare k tare)
  | reprice {n : Nat} {i : Slot} {t : Ticket} : FoundAt s n i t → t.state ≠ .atWindow → t.marker = none →
      Accepts r s .reprice (s.setSlot i (some (t.reprice s.settings)))
  | review {n : Nat} {i : Slot} {t : Ticket} : FoundAt s n i t → t.state = .weighed ∨ t.state = .atWindow →
      Accepts r s .review (s.setSlot i (some (t.hold r.port s.settings.holdTime)))
  | release {n : Nat} {i : Slot} {t : Ticket} : FoundAt s n i t → t.state = .atWindow →
      Accepts r s .release (s.putTicket i t.unhold true)
  | pay {n : Nat} {i : Slot} {t : Ticket} (m : Method) {printer : Printer} {j : JobNo} : FoundAt s n i t →
      t.state = .atWindow → s.journalFull = false →
      s.roomFor false (closeRecordOf s t r.port (.paid m (paidFigures m t.total s.settings.cashStep).1
        (paidFigures m t.total s.settings.cashStep).2)) = some j →
      Accepts r s .pay (payEffects r.port i t m printer j s)
  | drawerKick (p : Printer) : Accepts r s .drawerKick (s.kickDrawer p)
  | journalPop {head : Record} {rest : List Record} : s.journal = head :: rest →
      Accepts r s .journalPop { s with journal := rest }
  | dayClose : s.journalFull = false → Accepts r s .dayClose (closeDay r.port s)
  | reprint {record : CloseRecord} (printer : Printer) {j : JobNo} : s.roomFor true record = some j →
      Accepts r s .reprint (s.handOver j printer 1 true record)
  | jobOpen {pages : Nat} (printer : Printer) {jn : JobNo} : 1 ≤ pages → s.canAllocate pages = some jn →
      Accepts r s .jobOpen (s.allocate jn pages (openedJob r.port printer))
  | jobWrite {jn : JobNo} {j : Job} (ls : List (Text × Bool)) : s.jobs[jn] = some j → j.closed = false →
      j.state ≠ .done → j.endPending = none → j.written + ls.length ≤ j.capacity → 1 ≤ ls.length →
      Accepts r s .jobWrite (writeJob jn j ls s)
  | jobSubmit {jn : JobNo} {j : Job} {copies threshold : Nat} : s.jobs[jn] = some j → j.owner = .port r.port →
      j.state = .writing → 1 ≤ copies → (threshold = 0 → j.written ≠ 0) →
      Accepts r s .jobSubmit (submitJob jn j copies threshold s)
  | jobClose {jn : JobNo} {j : Job} : s.jobs[jn] = some j → j.state ≠ .writing → j.state ≠ .done →
      j.closed = false → j.endPending = none → j.written ≠ 0 → Accepts r s .jobClose (closeJob jn j s)
  | jobCancel {jn : JobNo} {j : Job} : s.jobs[jn] = some j → j.state ≠ .done →
      Accepts r s .jobCancel (cancelJob r jn j s).1
  | jobRelease {jn : JobNo} {j : Job} : s.jobs[jn] = some j → j.state = .done ∨ j.state = .writing →
      Accepts r s .jobRelease (s.releaseJob jn)
  | printerResume {p : Printer} : s.printers[p].state = .halted → Accepts r s .printerResume (resumeEngine p s)
  | printerFlush (p : Printer) : Accepts r s .printerFlush (flushQueue p s)
  | printerRedirect {p q : Printer} : p ≠ q → Accepts r s .printerRedirect (redirectQueue p q s)
  | setParam {q : Param} {d : List Byte} {v : ParamValue} : q.decode d = some v → s.save = none →
      hasOffice (putSetting s.settings q (q.fit v)) = true → Accepts r s .setParam (applyParam q (q.fit v) s)
  | setNextNumber {n : Nat} : 1 ≤ n → n ≤ Config.maxTicketNumber → nextNumberAllowed s n = true →
      Accepts r s .setNextNumber (s.writeCounter (.valid n))
  | setClock (c : ClockReading) : Accepts r s .setClock { s with clock := some c }
  | restart : s.save = none → Accepts r s .restart (s.callStart .warm)
  | coldClear : s.save = none → s.holdsBusiness = false →
      Accepts r s .coldClear ((s.writeCounter .invalid).callStart .cold)

/-- The state in which a request row is left pending in phase DEFERRED, with the checks it has passed (R173). -/
inductive Defers (r : Req) (s : State) : Instr → State → Prop
  | openTruck {i : Slot} (plate : Option Text) (c : Chan) : s.slots[i] = none → s.channels[c].capture = none →
      s.channels[c].state ≠ .fault → s.channels[c].state ≠ .noSignal →
      Defers r s .openTruck (s.beginCapture r i (newTicket .truck .opening r.port plate) .gross c)
  | dump {n : Nat} {i : Slot} {t : Ticket} (g : GradeIx) (final : Bool) (c : Chan) : FoundAt s n i t →
      t.state = .weighing → t.marker = none → s.channels[c].capture = none →
      s.channels[c].state ≠ .fault → s.channels[c].state ≠ .noSignal →
      Defers r s .dump (s.beginCapture r i t (.dump g final) c)
  | addBin {n : Nat} {i : Slot} {t : Ticket} (g : GradeIx) (k : Container) : FoundAt s n i t →
      t.state = .counter → t.marker = none → s.channels[(2 : Chan)].capture = none →
      s.channels[(2 : Chan)].state ≠ .fault → s.channels[(2 : Chan)].state ≠ .noSignal →
      Defers r s .addBin (s.beginCapture r i t (.bin g k) 2)
  | saveSettings : s.save = none → Defers r s .saveSettings (beginSave r.port s)

/-- What a request row may leave: an answer and nothing else changed, the answer of an accepted request, or a request
left pending. -/
def HandledTo (row : Instr) (r : Req) (s u : State) : Prop :=
  (∃ o d, u = answer r o d s) ∨
    (∃ o d e, (o = .ok ∨ o = .clamped) ∧ Accepts r s row e ∧ u = answer r o d e) ∨ Defers r s row u

/-- The rule `h` of a row with this CODE does what its row may do. -/
def Handles (row : Instr) (code : Byte) (h : Req → State → State) : Prop :=
  ∀ (r : Req) (s : State), r.code = code → HandledTo row r s (h r s)

section
variable {row : Instr} {r : Req} {s : State}

theorem HandledTo.unmoved {o : OutcomeCode} {d : List Byte} : HandledTo row r s (answer r o d s) := .inl ⟨o, d, rfl⟩

theorem HandledTo.accepted {d : List Byte} {e : State} (h : Accepts r s row e) :
    HandledTo row r s (answer r .ok d e) := .inr (.inl ⟨.ok, d, e, .inl rfl, h, rfl⟩)

theorem HandledTo.deferred {e : State} (h : Defers r s row e) : HandledTo row r s e := .inr (.inr h)

/-! ### Requests that name a ticket or a job -/

theorem HandledTo.onTicket {n : Nat} {k : Slot → Ticket → State}
    (goes : ∀ i t, FoundAt s n i t → HandledTo row r s (k i t)) : HandledTo row r s (onTicket r n s k) := by
  rcases onTicket_cases r n s k with ⟨-, h⟩ | ⟨-, h, -⟩ | ⟨i, t, range, -, slot, number, h⟩ <;> rw [h]
  · exact .unmoved
  · exact .unmoved
  · obtain ⟨least, most⟩ := numberInRange_iff.mp range
    exact goes i t ⟨least, most, slot, number⟩

theorem HandledTo.onJob {n : Nat} {k : JobNo → Job → State}
    (goes : ∀ jn j, s.jobs[jn] = some j → HandledTo row r s (k jn j)) : HandledTo row r s (onJob r n s k) := by
  unfold Machine.onJob
  split
  · split
    · exact .unmoved
    · rename_i range _ j job
      exact goes ⟨n, range⟩ j job
  · exact .unmoved

theorem HandledTo.onOwnJob {n : Nat} {k : JobNo → Job → State}
    (goes : ∀ jn j, s.jobs[jn] = some j → HandledTo row r s (k jn j)) : HandledTo row r s (onOwnJob r n s k) :=
  .onJob fun jn j job => by
    split
    · exact goes jn j job
    · exact .unmoved

theorem HandledTo.onPrinter {k : Printer → State} (goes : ∀ p, HandledTo row r s (k p)) :
    HandledTo row r s (onPrinter r s k) := by
  unfold Machine.onPrinter
  split
  · exact .unmoved
  · split
    · exact goes _
    · exact .unmoved

end

/-! ### Event sets and printer entries of a port (10.6, 10.7) -/

theorem getEvents_handles : Handles .getEvents 0x01 getEvents := fun r s _ => by
  unfold getEvents
  split <;> exact .unmoved

theorem ackEvents_handles : Handles .ackEvents 0x02 ackEvents := fun r s _ => by
  unfold ackEvents
  split
  · exact .unmoved
  · split
    · exact .accepted (.ackEvents _ ‹_›)
    · exact .unmoved

theorem setMask_handles : Handles .setMask 0x03 setMask := fun r s _ => by
  unfold setMask
  split
  · exact .unmoved
  · split
    · exact .accepted (.setMask _ ‹_›)
    · exact .unmoved

theorem isSome_eq_false {α : Type} {x : Option α} (h : ¬ x.isSome = true) : x = none := by
  simpa using h

theorem setAlias_handles : Handles .setAlias 0x04 setAlias := fun r s _ => by
  unfold setAlias
  split
  · exact .unmoved
  · split
    · exact .unmoved
    · split
      · split
        · exact .unmoved
        · exact .accepted (.setAlias _ _ _ (isSome_eq_false ‹_›))
      · exact .unmoved

/-! ### Weighing (chapter 3) -/

/-- The acceptance of a capture request: answered SCALE_FAULT where the channel has no signal. -/
theorem acceptCapture_handledTo {row : Instr} {r : Req} {s : State} {i : Slot} {t : Ticket} {p : Purpose} {c : Chan}
    (code : r.code = p.code) (free : s.channels[c].capture = none)
    (before : s.slots[i] = afterFailure t ⟨p, c, r.port, r.tag⟩)
    (heard : s.channels[c].state ≠ .fault → s.channels[c].state ≠ .noSignal →
      Defers r s row (s.beginCapture r i t p c)) : HandledTo row r s (acceptCapture r i t p c s) := by
  by_cases unheard : s.channels[c].state = .fault ∨ s.channels[c].state = .noSignal
  · rw [acceptCapture_of_unheard free unheard code before]
    exact .unmoved
  · obtain ⟨notFault, signal⟩ := not_or.mp unheard
    rw [acceptCapture_of_heard notFault signal]
    exact .deferred (heard notFault signal)

theorem openTruck_handles : Handles .openTruck 0x10 openTruck := fun r s code => by
  unfold openTruck
  split
  · exact .unmoved
  · split
    · split
      · exact .unmoved
      · unfold openTruckOn
        split
        · exact .unmoved
        · split
          · exact .unmoved
          · rename_i i free
            split
            · exact .unmoved
            · have open_ := freeSlot_some free
              have idle := isSome_eq_false ‹_›
              exact acceptCapture_handledTo code idle open_ fun notFault signal =>
                .openTruck _ _ open_ idle notFault signal
    · exact .unmoved

theorem weighOn_handledTo {row : Instr} {r : Req} {s : State} {n : Nat} {i : Slot} {t : Ticket} {need : TicketState}
    {g : GradeIx} {p : Purpose} {c : Chan} (found : FoundAt s n i t) (code : r.code = p.code) (weighs : p ≠ .gross)
    (heard : t.state = need → t.marker = none → s.channels[c].capture = none → s.channels[c].state ≠ .fault →
      s.channels[c].state ≠ .noSignal → Defers r s row (s.beginCapture r i t p c)) :
    HandledTo row r s (weighOn r i t need g p c s) := by
  rw [weighOn_eq]
  split_ifs with busy disabled unpriced running
  iterate 4 exact .unmoved
  obtain ⟨state, marker⟩ := not_or.mp busy
  rw [not_not] at state marker running
  refine acceptCapture_handledTo code running ?_ (heard state marker running)
  rw [found.slot]
  unfold afterFailure
  cases p with
  | gross => exact absurd rfl weighs
  | dump | bin => rw [← marker]

theorem dump_handles : Handles .dump 0x11 dump := fun r s code => by
  unfold dump
  split
  · exact .unmoved
  · split
    · exact .onTicket fun i t found => weighOn_handledTo found code (by simp)
        fun state marker free notFault signal => .dump _ _ _ found state marker free notFault signal
    · exact .unmoved

theorem openWalkin_handles : Handles .openWalkin 0x12 openWalkin := fun r s _ => by
  unfold openWalkin
  split
  · exact .unmoved
  · split
    · exact .unmoved
    · exact .unmoved
    · split
      · exact .unmoved
      · exact .accepted (.openWalkin ‹_› ‹_›)

theorem addBin_handles : Handles .addBin 0x13 addBin := fun r s code => by
  unfold addBin
  split
  · exact .unmoved
  · split
    · exact .onTicket fun i t found => weighOn_handledTo found code (by simp)
        fun state marker free notFault signal => .addBin _ _ found state marker free notFault signal
    · exact .unmoved

theorem closeWeighing_handles : Handles .closeWeighing 0x14 closeWeighing := fun r s _ => by
  unfold closeWeighing
  split
  · exact .unmoved
  · refine .onTicket fun i t found => ?_
    unfold closeWeighingOn
    split_ifs with busy wrong empty
    iterate 3 exact .unmoved
    rw [ne_eq, not_not] at wrong
    simp only [wrong, true_and, not_or, Bool.not_eq_true, Option.isSome_eq_false_iff,
      Option.isNone_iff_eq_none] at busy
    exact .accepted (.closeWeighing found wrong busy.2 (by simpa using empty))

/-- A ticket that is neither at the window nor marked. -/
theorem not_busy {t : Ticket} (h : ¬ (t.state = .atWindow ∨ t.marker.isSome = true)) :
    t.state ≠ .atWindow ∧ t.marker = none := by
  obtain ⟨window, marker⟩ := not_or.mp h
  exact ⟨window, isSome_eq_false marker⟩

theorem deduct_handles : Handles .deduct 0x15 deduct := fun r s _ => by
  unfold deduct
  split
  · exact .unmoved
  · split
    · refine .onTicket fun i t found => ?_
      unfold deductOn
      split
      · exact .unmoved
      · obtain ⟨window, marker⟩ := not_busy ‹_›
        split
        · exact .unmoved
        · exact .accepted (.deduct _ _ found window marker)
    · exact .unmoved

/-! ### Ticket Table (chapter 2) -/

theorem setSeller_handles : Handles .setSeller 0x16 setSeller := fun r s _ => by
  unfold setSeller
  split
  · exact .unmoved
  · split
    · exact .unmoved
    · refine .onTicket fun i t found => ?_
      unfold setSellerOn
      split
      · exact .unmoved
      · exact .accepted (.setSeller _ found)

theorem setPlate_handles : Handles .setPlate 0x17 setPlate := fun r s _ => by
  unfold setPlate
  split
  · exact .unmoved
  · split
    · exact .unmoved
    · refine .onTicket fun i t found => ?_
      unfold setPlateOn
      split
      · exact .unmoved
      · exact .accepted (.setPlate _ found)

theorem void_handles : Handles .void 0x18 void := fun r s _ => by
  unfold void
  split
  · exact .unmoved
  · split
    · refine .onTicket fun i t found => ?_
      unfold voidOn
      split
      · exact .unmoved
      · split
        · exact .unmoved
        · exact .accepted (.void _ found ‹_› (Bool.eq_false_iff.mpr ‹_›))
    · exact .unmoved

theorem getTicket_handles : Handles .getTicket 0x19 getTicket := fun r s _ => by
  unfold getTicket
  split
  · exact .unmoved
  · split
    · exact .onTicket fun i t found => .accepted (.getTicket _ _)
    · exact .unmoved

theorem listTickets_handles : Handles .listTickets 0x1A listTickets := fun r s _ => by
  unfold listTickets
  split
  · exact .unmoved
  · split <;> exact .unmoved

/-! ### Scale channels (chapter 1) -/

theorem readScale_handles : Handles .readScale 0x20 readScale := fun r s _ => by
  unfold readScale
  split
  · exact .unmoved
  · split <;> exact .unmoved

theorem clearScaleFault_handles : Handles .clearScaleFault 0x21 clearScaleFault := fun r s _ => by
  unfold clearScaleFault
  split
  · exact .unmoved
  · split
    · exact .accepted (.clearScaleFault _)
    · exact .unmoved

/-! ### Tariff Table (chapter 4) -/

/-- A name of a SET_GRADE has at most 12 characters (R66). -/
theorem takeText_length {max : Nat} {d rest : List Byte} {t : Text} (h : takeText max d = some (t, rest)) :
    t.length ≤ max := by
  unfold takeText at h
  split at h
  · cases h
  · split at h
    · rename_i short
      cases h
      rw [List.length_take]
      omega
    · cases h

theorem decodeSetGrade_name {d : List Byte} {g rate : Nat} {name : Text} {price : Option Nat} {a b : Bool}
    (h : decodeSetGrade d = some (g, name, price, rate, a, b)) : name.length ≤ 12 := by
  unfold decodeSetGrade at h
  split at h
  · split at h
    · cases h
    · rename_i taken
      split at h
      · split at h
        · cases h
          exact takeText_length taken
        · cases h
      · cases h
  · cases h

theorem setGrade_handles : Handles .setGrade 0x28 setGrade := fun r s _ => by
  unfold setGrade
  split
  · exact .unmoved
  · rename_i decoded
    split
    · rename_i form
      obtain ⟨-, -, price, rate⟩ := form
      split
      · exact .unmoved
      · refine .accepted (.setGrade _ (isSome_eq_false ‹_›) ⟨?_, price, rate⟩)
        have := decodeSetGrade_name decoded
        simp [fillName]
        omega
    · exact .unmoved

theorem switchPrices_handles : Handles .switchPrices 0x29 switchPrices := fun r s _ => by
  unfold switchPrices
  split
  · exact .unmoved
  · split
    · exact .unmoved
    · exact .accepted (.switchPrices (isSome_eq_false ‹_›))

theorem getGrade_handles : Handles .getGrade 0x2A getGrade := fun r s _ => by
  unfold getGrade
  split
  · exact .unmoved
  · split <;> exact .unmoved

theorem setContainer_handles : Handles .setContainer 0x2B setContainer := fun r s _ => by
  unfold setContainer
  split
  · exact .unmoved
  · split
    · rename_i form
      split
      · exact .unmoved
      · exact .accepted (.setContainer _ (isSome_eq_false ‹_›) form.2)
    · exact .unmoved

theorem reprice_handles : Handles .reprice 0x2C reprice := fun r s _ => by
  unfold reprice
  split
  · exact .unmoved
  · refine .onTicket fun i t found => ?_
    unfold repriceOn
    split
    · exact .unmoved
    · obtain ⟨window, marker⟩ := not_busy ‹_›
      exact .accepted (.reprice found window marker)

/-! ### Settlement (chapter 5) -/

theorem review_handles : Handles .review 0x30 review := fun r s _ => by
  unfold review
  split
  · exact .unmoved
  · refine .onTicket fun i t found => ?_
    unfold reviewOn
    split
    · exact .unmoved
    · split
      · exact .unmoved
      · rename_i state
        exact .accepted (.review found (by tauto))

theorem release_handles : Handles .release 0x31 release := fun r s _ => by
  unfold release
  split
  · exact .unmoved
  · refine .onTicket fun i t found => ?_
    unfold releaseOn
    split
    · exact .unmoved
    · split
      · exact .unmoved
      · rename_i state
        exact .accepted (.release found (not_not.mp state))

theorem payRefusal_atWindow {s : State} {p : Port} {t : Ticket} (h : payRefusal s p t = none) :
    t.state = .atWindow := by
  rw [payRefusal_eq] at h
  split_ifs at h with other away
  exact not_not.mp away

theorem pay_handles : Handles .pay 0x32 pay := fun r s _ => by
  unfold pay
  split
  · exact .unmoved
  · refine .onTicket fun i t found => ?_
    unfold payOn
    split
    · exact .unmoved
    · rename_i passed
      split
      · exact .unmoved
      · unfold settle
        split
        · exact .unmoved
        · split
          · exact .unmoved
          · dsimp only
            split
            · exact .unmoved
            · exact .accepted (.pay _ found (payRefusal_atWindow passed) (Bool.eq_false_iff.mpr ‹_›) ‹_›)

theorem drawerKick_handles : Handles .drawerKick 0x33 drawerKick := fun r s _ => by
  unfold drawerKick
  split
  · exact .unmoved
  · split
    · exact .unmoved
    · exact .accepted (.drawerKick _)

theorem getTally_handles : Handles .getTally 0x34 getTally := fun r s _ => by
  unfold getTally
  split
  · exact .unmoved
  · split <;> exact .unmoved

/-! ### Journal and day (chapter 6) -/

theorem journalPeek_handles : Handles .journalPeek 0x38 journalPeek := fun r s _ => by
  unfold journalPeek
  split
  · exact .unmoved
  · split
    · split <;> exact .unmoved
    · exact .unmoved

theorem journalPop_handles : Handles .journalPop 0x39 journalPop := fun r s _ => by
  unfold journalPop
  split
  · exact .unmoved
  · rename_i dayEnd key _
    by_cases form : 1 ≤ key ∧ key ≤ (if dayEnd then 65535 else Config.maxTicketNumber)
    · rw [if_pos form]
      unfold popHead
      split
      · exact .unmoved
      · split
        · exact .accepted (.journalPop ‹_›)
        · exact .unmoved
    · rw [if_neg form]
      exact .unmoved

theorem getTotals_handles : Handles .getTotals 0x3A getTotals := fun r s _ => by
  unfold getTotals
  split
  · exact .unmoved
  · split
    · split <;> exact .unmoved
    · exact .unmoved

theorem dayClose_handles : Handles .dayClose 0x3B dayClose := fun r s _ => by
  unfold dayClose
  split
  · exact .unmoved
  · split
    · exact .unmoved
    · split
      · exact .unmoved
      · exact .accepted (.dayClose (Bool.eq_false_iff.mpr ‹_›))

theorem reprint_handles : Handles .reprint 0x3C reprint := fun r s _ => by
  unfold reprint
  split
  · exact .unmoved
  · split
    · split
      · exact .unmoved
      · unfold reprintOn
        split
        · exact .unmoved
        · dsimp only
          split
          · exact .unmoved
          · exact .accepted (.reprint _ ‹_›)
    · exact .unmoved

/-! ### Spool and printers (chapter 8) -/

theorem jobOpen_handles : Handles .jobOpen 0x40 jobOpen := fun r s _ => by
  unfold jobOpen
  split
  · exact .unmoved
  · split
    · rename_i form
      split
      · exact .unmoved
      · split
        · exact .unmoved
        · exact .accepted (.jobOpen _ form.2.1 ‹_›)
    · exact .unmoved

theorem jobWrite_handles : Handles .jobWrite 0x41 jobWrite := fun r s _ => by
  unfold jobWrite
  split
  · exact .unmoved
  · split
    · rename_i lines
      refine .onOwnJob fun jn j job => ?_
      unfold jobWriteOn
      split_ifs with ended full
      · exact .unmoved
      · exact .unmoved
      · obtain ⟨opened, alive, unended⟩ : j.closed = false ∧ j.state ≠ .done ∧ j.endPending = none := by
          simpa only [not_or, Bool.not_eq_true, Option.isSome_eq_false_iff, Option.isNone_iff_eq_none] using ended
        exact .accepted (.jobWrite _ job opened alive unended (not_lt.mp full) lines.1)
    · exact .unmoved

theorem jobSubmit_handles : Handles .jobSubmit 0x42 jobSubmit := fun r s _ => by
  unfold jobSubmit
  split
  · exact .unmoved
  · split
    · rename_i form
      refine .onJob fun jn j job => ?_
      unfold jobSubmitOn
      split_ifs with capacity other begun empty
      iterate 4 exact .unmoved
      exact .accepted (.jobSubmit job (not_not.mp other) (not_not.mp begun) form.1 fun zero none => empty ⟨zero, none⟩)
    · exact .unmoved

theorem jobClose_handles : Handles .jobClose 0x43 jobClose := fun r s _ => by
  unfold jobClose
  split
  · exact .unmoved
  · refine .onOwnJob fun jn j job => ?_
    unfold jobCloseOn
    split_ifs with unclosable empty
    · exact .unmoved
    · exact .unmoved
    · obtain ⟨begun, alive, opened, unended⟩ :
          j.state ≠ .writing ∧ j.state ≠ .done ∧ j.closed = false ∧ j.endPending = none := by
        simpa only [not_or, Bool.not_eq_true, Option.isSome_eq_false_iff, Option.isNone_iff_eq_none] using unclosable
      exact .accepted (.jobClose job begun alive opened unended empty)

theorem jobCancel_handles : Handles .jobCancel 0x44 jobCancel := fun r s _ => by
  unfold jobCancel
  split
  · exact .unmoved
  · refine .onJob fun jn j job => ?_
    unfold jobCancelOn
    split
    · exact .unmoved
    · split
      · exact .unmoved
      · exact .accepted (.jobCancel job ‹_›)

theorem jobStatus_handles : Handles .jobStatus 0x45 jobStatus := fun r s _ => by
  unfold jobStatus
  split
  · exact .unmoved
  · exact .onJob fun jn j job => .unmoved

theorem jobRelease_handles : Handles .jobRelease 0x46 jobRelease := fun r s _ => by
  unfold jobRelease
  split
  · exact .unmoved
  · refine .onJob fun jn j job => ?_
    unfold jobReleaseOn
    dsimp only
    split_ifs with foreign ready
    · exact .unmoved
    · exact .accepted (.jobRelease job (ready.imp_right And.left))
    · exact .unmoved

theorem printerResume_handles : Handles .printerResume 0x48 printerResume := fun _ _ _ => .onPrinter fun p => by
  split
  · exact .accepted (.printerResume ‹_›)
  · exact .unmoved

theorem printerFlush_handles : Handles .printerFlush 0x49 printerFlush := fun _ _ _ => .onPrinter fun p =>
  .accepted (.printerFlush p)

theorem printerRedirect_handles : Handles .printerRedirect 0x4A printerRedirect := fun r s _ => by
  unfold printerRedirect
  split
  · exact .unmoved
  · split
    · rename_i form
      exact .accepted (.printerRedirect fun same => form.2.2 (congrArg Fin.val same))
    · exact .unmoved

theorem printerStatus_handles : Handles .printerStatus 0x4B printerStatus := fun _ _ _ => .onPrinter fun _ => .unmoved

/-! ### Settings, number word, clock (chapter 11) -/

theorem decodeSetParam_decodes {d : List Byte} {q : Param} {v : ParamValue} (h : decodeSetParam d = some (q, v)) :
    ∃ rest, q.decode rest = some v := by
  unfold decodeSetParam at h
  split at h
  · rename_i rest
    obtain ⟨q', -, h⟩ := Option.bind_eq_some_iff.mp h
    obtain ⟨v', decoded, same⟩ := Option.map_eq_some_iff.mp h
    cases same
    exact ⟨rest, decoded⟩
  · cases h

theorem setParam_handles : Handles .setParam 0x50 setParam := fun r s _ => by
  unfold setParam
  split
  · exact .unmoved
  · rename_i q v decoded
    obtain ⟨rest, value⟩ := decodeSetParam_decodes decoded
    unfold setParamTo
    split_ifs with office saving fitting
    · exact .unmoved
    · exact .accepted (.setParam value (isSome_eq_false saving) office)
    · exact .inr (.inl ⟨.clamped, _, _, .inr rfl, .setParam value (isSome_eq_false saving) office, rfl⟩)
    · exact .unmoved

theorem getParam_handles : Handles .getParam 0x51 getParam := fun r s _ => by
  unfold getParam
  split
  · exact .unmoved
  · split <;> exact .unmoved

theorem saveSettings_handles : Handles .saveSettings 0x52 saveSettings := fun r s _ => by
  unfold saveSettings
  split
  · exact .unmoved
  · split
    · exact .unmoved
    · exact .deferred (.saveSettings (isSome_eq_false ‹_›))

theorem setNextNumber_handles : Handles .setNextNumber 0x53 setNextNumber := fun r s _ => by
  unfold setNextNumber
  split
  · exact .unmoved
  · split
    · rename_i form
      obtain ⟨range, allowed⟩ := (Bool.and_eq_true _ _).mp form
      obtain ⟨least, most⟩ := numberInRange_iff.mp range
      exact .accepted (.setNextNumber least most allowed)
    · exact .unmoved

theorem setClock_handles : Handles .setClock 0x54 setClock := fun r s _ => by
  unfold setClock
  split
  · exact .unmoved
  · split
    · exact .accepted (.setClock _)
    · exact .unmoved

theorem restart_handles : Handles .restart 0x55 restart := fun r s _ => by
  unfold restart
  split
  · exact .unmoved
  · split
    · exact .unmoved
    · exact .accepted (.restart (isSome_eq_false ‹_›))

theorem coldClear_handles : Handles .coldClear 0x56 coldClear := fun r s _ => by
  unfold coldClear
  split
  · exact .unmoved
  · split_ifs with saving business
    · exact .unmoved
    · exact .unmoved
    · exact .accepted (.coldClear (isSome_eq_false saving) (Bool.eq_false_iff.mpr business))

/-! ### Every row -/

/-- A request row is served at its CODE by a rule that does what the row may do. -/
theorem request_served {row : Instr} {code : Byte} (h : requestCode row = some code) :
    ∃ rule, ServedBy row code rule ∧ Handles row code rule := by
  cases row <;> cases h
  case getEvents => exact ⟨_, fun _ => rfl, getEvents_handles⟩
  case ackEvents => exact ⟨_, fun _ => rfl, ackEvents_handles⟩
  case setMask => exact ⟨_, fun _ => rfl, setMask_handles⟩
  case setAlias => exact ⟨_, fun _ => rfl, setAlias_handles⟩
  case openTruck => exact ⟨_, openTruck_served, openTruck_handles⟩
  case dump => exact ⟨_, dump_served, dump_handles⟩
  case openWalkin => exact ⟨_, fun _ => rfl, openWalkin_handles⟩
  case addBin => exact ⟨_, addBin_served, addBin_handles⟩
  case closeWeighing => exact ⟨_, fun _ => rfl, closeWeighing_handles⟩
  case deduct => exact ⟨_, fun _ => rfl, deduct_handles⟩
  case setSeller => exact ⟨_, setSeller_served, setSeller_handles⟩
  case setPlate => exact ⟨_, setPlate_served, setPlate_handles⟩
  case void => exact ⟨_, void_served, void_handles⟩
  case getTicket => exact ⟨_, fun _ => rfl, getTicket_handles⟩
  case listTickets => exact ⟨_, fun _ => rfl, listTickets_handles⟩
  case readScale => exact ⟨_, fun _ => rfl, readScale_handles⟩
  case clearScaleFault => exact ⟨_, fun _ => rfl, clearScaleFault_handles⟩
  case setGrade => exact ⟨_, fun _ => rfl, setGrade_handles⟩
  case switchPrices => exact ⟨_, fun _ => rfl, switchPrices_handles⟩
  case getGrade => exact ⟨_, fun _ => rfl, getGrade_handles⟩
  case setContainer => exact ⟨_, fun _ => rfl, setContainer_handles⟩
  case reprice => exact ⟨_, fun _ => rfl, reprice_handles⟩
  case review => exact ⟨_, fun _ => rfl, review_handles⟩
  case release => exact ⟨_, release_served, release_handles⟩
  case pay => exact ⟨_, pay_served, pay_handles⟩
  case drawerKick => exact ⟨_, fun _ => rfl, drawerKick_handles⟩
  case getTally => exact ⟨_, fun _ => rfl, getTally_handles⟩
  case journalPeek => exact ⟨_, fun _ => rfl, journalPeek_handles⟩
  case journalPop => exact ⟨_, journalPop_served, journalPop_handles⟩
  case getTotals => exact ⟨_, fun _ => rfl, getTotals_handles⟩
  case dayClose => exact ⟨_, dayClose_served, dayClose_handles⟩
  case reprint => exact ⟨_, reprint_served, reprint_handles⟩
  case jobOpen => exact ⟨_, jobOpen_served, jobOpen_handles⟩
  case jobWrite => exact ⟨_, jobWrite_served, jobWrite_handles⟩
  case jobSubmit => exact ⟨_, jobSubmit_served, jobSubmit_handles⟩
  case jobClose => exact ⟨_, jobClose_served, jobClose_handles⟩
  case jobCancel => exact ⟨_, fun _ => rfl, jobCancel_handles⟩
  case jobStatus => exact ⟨_, fun _ => rfl, jobStatus_handles⟩
  case jobRelease => exact ⟨_, jobRelease_served, jobRelease_handles⟩
  case printerResume => exact ⟨_, fun _ => rfl, printerResume_handles⟩
  case printerFlush => exact ⟨_, fun _ => rfl, printerFlush_handles⟩
  case printerRedirect => exact ⟨_, fun _ => rfl, printerRedirect_handles⟩
  case printerStatus => exact ⟨_, fun _ => rfl, printerStatus_handles⟩
  case setParam => exact ⟨_, fun _ => rfl, setParam_handles⟩
  case getParam => exact ⟨_, fun _ => rfl, getParam_handles⟩
  case saveSettings => exact ⟨_, fun _ => rfl, saveSettings_handles⟩
  case setNextNumber => exact ⟨_, fun _ => rfl, setNextNumber_handles⟩
  case setClock => exact ⟨_, fun _ => rfl, setClock_handles⟩
  case restart => exact ⟨_, fun _ => rfl, restart_handles⟩
  case coldClear => exact ⟨_, fun _ => rfl, coldClear_handles⟩

/-- What any request row can do: nothing, or what its rule leaves of the granted request, the engine then free. -/
theorem request_cases {row : Instr} {code : Byte} {s t : State} (h : requestCode row = some code)
    (next : exec row s = .next t) :
    t = s ∨ ∃ r u, s.taking = true ∧ s.granted code = some r ∧ HandledTo row r s u ∧ t = u.releaseEngine := by
  obtain ⟨rule, served, handles⟩ := request_served h
  obtain rfl := Host.Outcome.next.inj ((served s).symm.trans next)
  rcases serve_cases code rule s with same | ⟨r, taking, granted, served⟩
  · exact .inl same
  · obtain ⟨-, itsCode, -⟩ := granted_some granted
    exact .inr ⟨r, _, taking, granted, handles r s itsCode, served⟩

end Sys2Proof.Machine
end

section
/-! SUPPORT. The operations of the Spool Manager and the Printer Engines (chapters 8 and 9) as sequences of the basic
changes of the spool: one lemma for each operation, so that what every basic change keeps, every operation keeps. -/

namespace Sys2Proof.Machine

/-- `t` is reached from `s` by basic changes of the spool: records of jobs, engines and queues, allocations and
releases of pages, lines written, and events latched. -/
inductive SpoolMoves (s : State) : State → Prop
  | unmoved : SpoolMoves s s
  | job {t : State} {jn : JobNo} {j x : Job} : SpoolMoves s t → t.jobs[jn] = some j → x.pages = j.pages →
      SpoolMoves s (t.setJob jn (some x))
  | engine {t : State} {p : Printer} {x : Engine} : SpoolMoves s t →
      x.refusals ≤ 15 ∨ x.refusals = (t.printers[p]).refusals → SpoolMoves s (t.setEngine p x)
  | queue {t : State} (p : Printer) (q : List JobNo) : SpoolMoves s t → SpoolMoves s (t.setQueue p q)
  | latch {t : State} {e : Event} (f : Port → StationPort → Bool) : SpoolMoves s t →
      e = .jobDone ∨ e = .printerHalted → SpoolMoves s (t.latchWhere e f)
  | release {t : State} (jn : JobNo) : SpoolMoves s t → SpoolMoves s (t.releaseJob jn)
  | allocate {t : State} {jn : JobNo} {n : Nat} (x : Job) : SpoolMoves s t → n ≤ t.freePages.length →
      t.jobs[jn] = none → SpoolMoves s (t.allocate jn n x)
  | write {t : State} (j : Job) (n : Nat) (ls : List (Text × Bool)) : SpoolMoves s t →
      SpoolMoves s (t.writeLines j n ls)

/-- The head of a queue with its record stands in that queue and in the table of jobs (R135). -/
theorem headJob_eq_some {s : State} {p : Printer} {jn : JobNo} {j : Job} :
    s.headJob p = some (jn, j) ↔ (∃ rest, s.queues[p] = jn :: rest) ∧ s.jobs[jn] = some j := by
  unfold State.headJob
  cases s.queues[p] with
  | nil => simp
  | cons first rest =>
    simp only [Option.map_eq_some_iff, Prod.mk.injEq, List.cons.injEq]
    constructor
    · rintro ⟨x, job, rfl, rfl⟩
      exact ⟨⟨rest, rfl, rfl⟩, job⟩
    · rintro ⟨⟨_, rfl, rfl⟩, job⟩
      exact ⟨j, job, rfl, rfl⟩

namespace SpoolMoves

variable {s t : State} {p : Printer} {jn : JobNo} {j : Job}

theorem beginFrame (h : SpoolMoves s t) : SpoolMoves s (t.beginFrame p) := by
  unfold State.beginFrame
  dsimp only
  split
  · split <;> exact h.engine (.inr rfl)
  · exact h

theorem enterPart (h : SpoolMoves s t) (part : CopyPart) : SpoolMoves s (t.enterPart p j part) :=
  h.engine (.inr rfl)

theorem nextPart (h : SpoolMoves s t) : SpoolMoves s (t.nextPart p jn) := by
  unfold State.nextPart
  split
  · exact h
  · split_ifs
    · exact h.enterPart _
    · exact h.enterPart _
    · exact h.enterPart _
    · exact (h.job ‹_› (by rfl)).engine (.inr rfl)

theorem beginCopy (h : SpoolMoves s t) : SpoolMoves s (t.beginCopy p jn) := by
  unfold State.beginCopy
  split
  · exact h
  · rename_i j job
    have sent := h.job (x := { j with sent := 0 }) job rfl
    split
    · exact (sent.enterPart _).beginFrame
    · exact sent.nextPart.beginFrame

theorem offer (h : SpoolMoves s t) : SpoolMoves s (t.offer p) := by
  unfold State.offer
  split
  · exact h
  · rename_i head
    obtain ⟨-, job⟩ := headJob_eq_some.mp head
    split
    · refine SpoolMoves.beginCopy (SpoolMoves.engine (h.job job ?_) ?_)
      · rfl
      · exact .inr rfl
    · exact h

theorem restEngine (h : SpoolMoves s t) : SpoolMoves s (t.restEngine p) :=
  SpoolMoves.offer (h.engine (.inl (Nat.zero_le 15)))

theorem endJob (h : SpoolMoves s t) (d : DoneStatus) (latch : Bool) : SpoolMoves s (t.endJob jn d latch) := by
  unfold State.endJob
  split
  · exact h
  · split
    · exact h.release jn
    · dsimp only
      split
      · exact (h.job ‹_› (by rfl)).latch _ (.inl rfl)
      · exact h.job ‹_› (by rfl)

theorem leaveQueue (h : SpoolMoves s t) : SpoolMoves s (t.leaveQueue p jn) := h.queue _ _

theorem joinQueue (h : SpoolMoves s t) : SpoolMoves s (t.joinQueue p jn) := h.queue _ _

theorem copyEnd (h : SpoolMoves s t) : SpoolMoves s (t.copyEnd p jn) := by
  unfold State.copyEnd
  split
  · exact h.restEngine
  · split
    · exact (h.leaveQueue.endJob _ _).restEngine
    · split
      · exact (h.job ‹_› (by rfl)).beginCopy
      · exact (h.leaveQueue.endJob _ _).restEngine

theorem partSent (h : SpoolMoves s t) (part : CopyPart) : SpoolMoves s (t.partSent p jn part) := by
  cases part with
  | copyMarker => exact h.nextPart.beginFrame
  | stored n =>
    unfold State.partSent
    dsimp only
    split
    · exact h
    · exact (h.job ‹_› (by rfl)).nextPart.beginFrame
  | cut => exact h.copyEnd

theorem byteAccepted (h : SpoolMoves s t) : SpoolMoves s (t.byteAccepted p) := by
  have freed := h.engine (p := p) (x := { t.printers[p] with frame := none, refusals := 0 }) (.inl (Nat.zero_le 15))
  unfold State.byteAccepted
  dsimp only
  split
  · split
    · exact freed
    · split
      · exact SpoolMoves.beginFrame (freed.engine (.inr rfl))
      · exact freed.partSent _
  · exact freed

theorem turnToCut (h : SpoolMoves s t) : SpoolMoves s (t.turnToCut p) := by
  unfold State.turnToCut
  dsimp only
  split
  · split
    · exact h
    · split
      · exact h.enterPart _
      · exact h
  · exact h

theorem haltEngine (h : SpoolMoves s t) (k : FaultKind) : SpoolMoves s (t.haltEngine p k) := by
  unfold State.haltEngine
  refine SpoolMoves.latch _ ?_ (.inr rfl)
  split
  · exact h.engine (.inr rfl)
  · split
    · exact h.engine (.inr rfl)
    · split
      · exact SpoolMoves.job (h.engine (.inr rfl)) ‹_› (by rfl)
      · exact SpoolMoves.endJob (SpoolMoves.leaveQueue (SpoolMoves.engine h (.inr (by rfl)))) _ _

theorem byteRefused (h : SpoolMoves s t) : SpoolMoves s (t.byteRefused p) := by
  have counted := h.engine (p := p)
    (x := { t.printers[p] with frame := none, refusals := min 15 ((t.printers[p]).refusals + 1) })
    (.inl (min_le_left 15 _))
  unfold State.byteRefused
  dsimp only
  split
  · exact counted.haltEngine _
  · exact SpoolMoves.turnToCut (counted.engine (.inr rfl))

theorem dropJob (h : SpoolMoves s t) : SpoolMoves s (t.dropJob p) := by
  unfold State.dropJob
  dsimp only
  split
  · split
    · exact h.engine (.inr rfl)
    · exact h.restEngine
  · exact h

theorem kickDrawer (h : SpoolMoves s t) : SpoolMoves s (t.kickDrawer p) := by
  unfold State.kickDrawer
  dsimp only
  split
  · exact h
  · exact h.engine (.inr rfl)

theorem reachEngine (h : SpoolMoves s t) (q : Param) : SpoolMoves s (reachEngine q t) := by
  unfold Machine.reachEngine
  split
  · dsimp only
    split
    · exact h.engine (.inr rfl)
    · split
      · exact SpoolMoves.offer (h.engine (.inr rfl))
      · exact h
  · exact h

/-! ### The Spool Manager's requests -/

theorem afterWrite (h : SpoolMoves s t) {x : Job} (job : t.jobs[jn] = some j) (pages : x.pages = j.pages) :
    SpoolMoves s (t.afterWrite jn x) := by
  unfold State.afterWrite
  split
  · exact (h.job (x := { x with state := .printing, stall := none }) job pages).nextPart.beginFrame
  · exact h.offer
  · exact h

theorem writeJob (h : SpoolMoves s t) (ls : List (Text × Bool)) (job : t.jobs[jn] = some j) :
    SpoolMoves s (writeJob jn j ls t) := by
  rw [writeJob_eq]
  refine SpoolMoves.afterWrite (j := j.lengthened ls) ?_ (by simp) rfl
  refine SpoolMoves.job (j := j) (h.write _ _ _) ?_ rfl
  obtain ⟨_, _, written⟩ := writeLines_frame t j j.written (ls.map storedForm)
  rw [written]
  exact job

theorem submitJob (h : SpoolMoves s t) (copies threshold : Nat) (job : t.jobs[jn] = some j) :
    SpoolMoves s (submitJob jn j copies threshold t) :=
  (h.job (x := j.submitted copies threshold) job rfl).joinQueue.offer

theorem closeJob (h : SpoolMoves s t) (job : t.jobs[jn] = some j) : SpoolMoves s (closeJob jn j t) :=
  (h.job (x := j.shut) job rfl).afterWrite (j := j.shut) (by rw [State.setJob_get, if_pos rfl]) rfl

theorem cancelJob (h : SpoolMoves s t) (r : Req) (job : t.jobs[jn] = some j) :
    SpoolMoves s (cancelJob r jn j t).1 := by
  unfold Machine.cancelJob
  dsimp only
  split
  · exact h
  · split
    · exact h.endJob _ _
    · exact (h.leaveQueue.endJob _ _).offer
    · exact h.leaveQueue.endJob _ _
    · exact (h.job job (by rfl)).turnToCut
    · exact (h.job job (by rfl)).nextPart.beginFrame
    · exact h

theorem resumeEngine (h : SpoolMoves s t) : SpoolMoves s (resumeEngine p t) := by
  unfold Machine.resumeEngine
  dsimp only
  refine SpoolMoves.restEngine (SpoolMoves.engine ?_ (.inr rfl))
  split
  · rename_i head
    split
    · exact h.job (headJob_eq_some.mp head).2 rfl
    · exact h
  · exact h

/-- A sequence of operations that each are basic changes. -/
theorem foldl {α : Type} {f : State → α → State} (step : ∀ u a, SpoolMoves s u → SpoolMoves s (f u a)) (l : List α)
    (h : SpoolMoves s t) : SpoolMoves s (l.foldl f t) := by
  induction l generalizing t with
  | nil => exact h
  | cons a l ih => exact ih (step t a h)

theorem flushQueue (h : SpoolMoves s t) : SpoolMoves s (flushQueue p t) :=
  (foldl (fun _ _ moved => moved.endJob _ _) _ (h.queue p [])).dropJob

theorem moveJob (h : SpoolMoves s t) : SpoolMoves s (moveJob p t jn) := by
  unfold Machine.moveJob
  split
  · exact h
  · exact h.job ‹_› (by rfl)

theorem redirectQueue (h : SpoolMoves s t) {q : Printer} : SpoolMoves s (redirectQueue p q t) :=
  (((foldl (fun _ _ moved => moved.moveJob) _ h).queue _ _).queue _ _).offer

theorem stallEnd (h : SpoolMoves s t) : SpoolMoves s (stallEnd jn t) := by
  unfold Machine.stallEnd
  split
  · exact h
  · split
    · exact (h.job ‹_› (by rfl)).nextPart.beginFrame
    · exact h

theorem handOver (h : SpoolMoves s t) {copies : Nat} {duplicate : Bool} {r : CloseRecord}
    (pages : (lineCount t.settings duplicate r + 7) / 8 ≤ t.freePages.length) (free : t.jobs[jn] = none) :
    SpoolMoves s (t.handOver jn p copies duplicate r) := by
  rw [handOver_eq, State.placeDocument]
  have allocated := h.allocate (composerJob p r.number (lineCount t.settings duplicate r) copies) pages free
  split
  · exact allocated
  · exact SpoolMoves.offer (SpoolMoves.joinQueue (SpoolMoves.write _ _ _ allocated))

/-! ### The events at the printers' lines and timers -/

theorem frameEnd (h : SpoolMoves s t) (a : Answer) : SpoolMoves s (frameEnd p a t) := by
  unfold Machine.frameEnd
  dsimp only
  split_ifs
  · exact h
  · exact h.restEngine
  · cases a
    · exact h.byteAccepted
    · exact h.byteRefused

theorem backoffEnd (h : SpoolMoves s t) : SpoolMoves s (backoffEnd p t) := by
  unfold Machine.backoffEnd
  dsimp only
  split
  · exact h
  · exact SpoolMoves.beginFrame (h.engine (.inr rfl))

theorem clockPulled (h : SpoolMoves s t) (period : Nat) : SpoolMoves s (clockPulled p period t) := by
  unfold Machine.clockPulled abortFrame
  dsimp only
  split_ifs
  · exact h
  · exact h.restEngine
  · exact SpoolMoves.turnToCut (h.engine (.inr rfl))
  · exact h.engine (.inr rfl)

theorem clockReleased (h : SpoolMoves s t) : SpoolMoves s (clockReleased p t) := by
  unfold Machine.clockReleased
  dsimp only
  split
  · exact SpoolMoves.beginFrame (h.engine (.inr rfl))
  · exact h

theorem whileTaking {f : State → State} (step : SpoolMoves s t → SpoolMoves s (f t)) (h : SpoolMoves s t) :
    SpoolMoves s (whileTaking f t) := by
  unfold Machine.whileTaking
  split
  · exact step h
  · exact h

theorem clockLow (h : SpoolMoves s t) (period : Nat) : SpoolMoves s (clockLow p period t) := by
  unfold Machine.clockLow
  split
  · exact h
  · exact SpoolMoves.whileTaking (fun h => h.clockPulled period) (h.engine (.inr rfl))

theorem clockRelease (h : SpoolMoves s t) : SpoolMoves s (clockRelease p t) := by
  unfold Machine.clockRelease
  split
  · exact SpoolMoves.whileTaking clockReleased (h.engine (.inr rfl))
  · exact h

theorem inhibitEnd (h : SpoolMoves s t) : SpoolMoves s (inhibitEnd p t) := by
  unfold Machine.inhibitEnd
  dsimp only
  split
  · exact h.haltEngine _
  · exact h

theorem drawerPhaseEnd (h : SpoolMoves s t) : SpoolMoves s (drawerPhaseEnd p t) := by
  unfold Machine.drawerPhaseEnd
  dsimp only
  split
  · exact h
  · exact h.engine (.inr rfl)

theorem takeClock (h : SpoolMoves s t) : SpoolMoves s (takeClock t p) := by
  unfold Machine.takeClock
  split
  · exact h.clockPulled _
  · exact h.clockReleased

theorem takeClocks (h : SpoolMoves s t) : SpoolMoves s ((List.finRange 3).foldl Machine.takeClock t) :=
  foldl (fun _ _ moved => moved.takeClock) _ h

theorem offerAll (h : SpoolMoves s t) : SpoolMoves s t.offerAll := foldl (fun _ _ moved => moved.offer) _ h

theorem warmHead (h : SpoolMoves s t) : SpoolMoves s (t.warmHead p) := by
  unfold State.warmHead
  split
  · exact h
  · rename_i head
    obtain ⟨-, job⟩ := headJob_eq_some.mp head
    split
    · split
      · exact h.job job rfl
      · exact h.leaveQueue.endJob _ _
    · exact h

end SpoolMoves

/-- `t` is `s` but for the spool's six parts and the port records. -/
def SpoolFrame (s t : State) : Prop := t = { withSpool s t with ports := t.ports }

theorem SpoolFrame.trans {s t u : State} (first : SpoolFrame s t) (second : SpoolFrame t u) : SpoolFrame s u :=
  Eq.trans second (congrArg (fun v => { withSpool v u with ports := u.ports }) first)

/-- The basic changes of the spool reach its six parts and the port records. -/
theorem SpoolMoves.frame {s t : State} (h : SpoolMoves s t) : SpoolFrame s t := by
  induction h with
  | unmoved => rfl
  | job _ _ _ ih => exact ih.trans rfl
  | engine _ _ ih => exact ih.trans rfl
  | queue _ _ _ ih => exact ih.trans rfl
  | latch f _ _ ih => exact ih.trans rfl
  | @release t jn _ ih =>
    refine ih.trans ?_
    unfold State.releaseJob
    split <;> rfl
  | allocate x _ _ _ ih => exact ih.trans rfl
  | @write t j n ls _ ih =>
    obtain ⟨_, _, written⟩ := writeLines_frame t j n ls
    exact ih.trans (by rw [written]; rfl)

end Sys2Proof.Machine
end

section
/-! SUPPORT. What the scale feeds, their timers and the beams can do (chapter 1), said once: the record of one channel
moves, SCALE_FAULT is latched where the signal is lost, and a capture that ends hands its outcome to the table. -/

namespace Sys2Proof.Machine

/-- One channel record moved on, with SCALE_FAULT latched where the signal is lost (R11). -/
def State.moveChannel (s : State) (c : Chan) (x : Channel) (lost : Bool) : State :=
  if lost then (s.setChannel c x).scaleFault else s.setChannel c x

/-- What one of the scale's events leaves: the channel moved on with its capture untouched, or its capture ended; with a
weight only where a message may have been taken. -/
inductive ScaleResult (weighs : Bool) (c : Chan) (s : State) : State → Prop
  | quiet (x : Channel) (lost : Bool) : x.capture = s.channels[c].capture →
      (∀ b, s.channels[c].lawful b → x.lawful b) → ScaleResult weighs c s (s.moveChannel c x lost)
  | ended {cap : Capture} (x : Channel) (lost : Bool) (res : CaptureResult) : s.channels[c].capture = some cap →
      x.capture = none → (∀ b, s.channels[c].lawful b → x.lawful b) →
      (∀ w, res = .ok w → weighs = true) → ScaleResult weighs c s (captureOutcome c cap.kind cap.slot res (s.moveChannel c x lost))

section
variable {s : State} {c : Chan} {x y : Channel} {lost weighs : Bool}

/-- All that a moved channel leaves of the state: its record, and the ports. -/
theorem State.moveChannel_eq (s : State) (c : Chan) (x : Channel) (lost : Bool) :
    s.moveChannel c x lost =
      { s with channels := s.channels.set c x, ports := (s.moveChannel c x lost).ports } := by
  cases lost <;> rfl

theorem State.moveChannel_channels : (s.moveChannel c x lost).channels = s.channels.set c x := by
  cases lost <;> rfl

theorem State.moveChannel_get (s : State) (c d : Chan) (x : Channel) (lost : Bool) :
    (s.moveChannel c x lost).channels[d] = if c = d then x else s.channels[d] := by
  cases lost <;> exact getElem_set_fin _ _ _ _

theorem State.moveChannel_setChannel (s : State) (c : Chan) (x y : Channel) (lost : Bool) :
    (s.moveChannel c x lost).setChannel c y = s.moveChannel c y lost := by
  cases lost
  · exact State.setChannel_setChannel s c x y
  · unfold State.moveChannel State.scaleFault State.latchRoles State.latchWhere State.setChannel
    simp

theorem State.setChannel_get_self (s : State) (c : Chan) (x : Channel) : (s.setChannel c x).channels[c] = x := by
  rw [State.setChannel_get, if_pos rfl]

theorem State.setChannel_self (s : State) (c : Chan) : s.setChannel c s.channels[c] = s := by
  unfold State.setChannel
  rw [set_self]

/-- The channel with its capture record deleted. -/
def Channel.uncaptured (x : Channel) : Channel := { x with capture := none }

theorem Channel.uncaptured_lawful {b : Bool} (law : x.lawful b) : x.uncaptured.lawful b := by
  obtain ⟨run, errors, beams, silent, outside, fresh⟩ := law
  exact ⟨run, errors, beams, fun h => ⟨(silent h).1, (silent h).2.1, rfl⟩, outside, fresh⟩

/-- The end of a capture at a channel that has just moved on, if one was in flight. -/
theorem endCapture_result {res : CaptureResult} (same : x.capture = s.channels[c].capture)
    (law : ∀ b, s.channels[c].lawful b → x.uncaptured.lawful b) (taken : ∀ w, res = .ok w → weighs = true) :
    ScaleResult weighs c s (endCapture c res (s.moveChannel c x lost)) := by
  unfold endCapture
  rw [State.moveChannel_get, if_pos rfl]
  cases h : x.capture with
  | none =>
    have lawful : ∀ b, s.channels[c].lawful b → x.lawful b := fun b ok => by
      have uncaptured : x.uncaptured = x := by rw [Channel.uncaptured, ← h]
      rw [← uncaptured]
      exact law b ok
    exact .quiet x lost same lawful
  | some cap =>
    dsimp only
    rw [State.moveChannel_setChannel]
    exact .ended _ lost res (same.symm.trans h) rfl law taken

/-! ### The signal lost, and bad messages (R5, R9) -/

theorem Channel.silenced_lawful {next : ChannelState} {b : Bool} (quiet : next = .fault ∨ next = .noSignal)
    (law : x.lawful b) : ({ x with state := next, run := 0, freshness := none } : Channel).uncaptured.lawful b := by
  obtain ⟨-, errors, beams, -⟩ := law
  refine ⟨Nat.zero_le _, errors, beams, fun _ => ⟨rfl, rfl, rfl⟩, fun _ => rfl, fun h => ?_⟩
  rcases quiet with rfl | rfl <;> simp [Channel.uncaptured] at h

theorem leaveSignal_result {next : ChannelState} (quiet : next = .fault ∨ next = .noSignal)
    (same : x.capture = s.channels[c].capture) (law : ∀ b, s.channels[c].lawful b → x.lawful b) :
    ScaleResult weighs c s (leaveSignal c next (s.setChannel c x)) := by
  have moved : leaveSignal c next (s.setChannel c x) =
      endCapture c .scaleFault (s.moveChannel c { x with state := next, run := 0, freshness := none } true) := by
    unfold leaveSignal State.moveChannel
    dsimp only
    rw [State.setChannel_get_self, State.setChannel_setChannel]
    rfl
  rw [moved]
  exact endCapture_result same (fun b ok => Channel.silenced_lawful quiet (law b ok)) fun _ weight => by cases weight

theorem badMessage_result (same : x.capture = s.channels[c].capture)
    (law : ∀ b, s.channels[c].lawful b → x.lawful b) : ScaleResult weighs c s (badMessage c (s.setChannel c x)) := by
  have counted : ∀ b, s.channels[c].lawful b →
      ({ x with errorCount := min 255 (x.errorCount + 1) } : Channel).lawful b := fun b ok => by
    obtain ⟨run, -, rest⟩ := law b ok
    exact ⟨run, min_le_left _ _, rest⟩
  unfold badMessage
  dsimp only
  rw [State.setChannel_get_self, State.setChannel_setChannel]
  split
  · exact leaveSignal_result (.inl rfl) same counted
  · exact .quiet _ false same counted

/-! ### Good messages (R6 to R8, R16) -/

theorem stabilize_run {st : ChannelSettings} {status : Status} {w : Int} :
    (stabilize st status w x).run ≤ 255 := by
  unfold stabilize
  split_ifs
  · exact min_le_left _ _
  · exact Nat.le_of_ble_eq_true rfl
  · exact Nat.zero_le _

/-- Ref and run alone are formed by a reading in range. -/
theorem stabilize_eq (st : ChannelSettings) (status : Status) (w : Int) (x : Channel) :
    stabilize st status w x =
      { x with ref := (stabilize st status w x).ref, run := (stabilize st status w x).run } := by
  unfold stabilize
  split_ifs <;> rfl

theorem Channel.takeReading_capture {st : ChannelSettings} {status : Status} {w : Int} :
    (x.takeReading st status w).capture = x.capture := by
  unfold Channel.takeReading
  dsimp only
  split
  · rw [stabilize_eq]
  · rfl

theorem Channel.takeReading_lawful {st : ChannelSettings} {status : Status} {w : Int} {b : Bool}
    (law : x.lawful b) : (x.takeReading st status w).lawful b := by
  obtain ⟨-, errors, beams, -⟩ := law
  unfold Channel.takeReading
  dsimp only
  split
  · refine ⟨stabilize_run, ?_, ?_, fun h => ?_, fun h => ?_, fun _ => ?_⟩
    · rw [stabilize_eq]; exact errors
    · rw [stabilize_eq]; exact beams
    · dsimp only at h
      split at h <;> simp at h
    · dsimp only at h
      split at h <;> simp at h
    · rw [stabilize_eq]; rfl
  · exact ⟨Nat.zero_le _, errors, beams, fun h => by simp at h, fun _ => rfl, fun _ => rfl⟩

theorem goodMessage_result {status : Status} {weight : Int} (same : x.capture = s.channels[c].capture)
    (law : ∀ b, s.channels[c].lawful b → x.lawful b) :
    ScaleResult true c s (goodMessage c status weight (s.setChannel c x)) := by
  unfold goodMessage
  dsimp only
  rw [State.setChannel_get_self]
  split
  · exact .quiet x false same law
  · rw [State.setChannel_setChannel]
    split
    · refine endCapture_result (lost := false) (Channel.takeReading_capture.trans same) (fun b ok => ?_) fun _ _ => rfl
      exact Channel.uncaptured_lawful (Channel.takeReading_lawful (law b ok))
    · exact .quiet _ false (Channel.takeReading_capture.trans same) fun b ok => Channel.takeReading_lawful (law b ok)

/-! ### The scale's events -/

/-- A receiver moved on is no part of the channel's law. -/
theorem Channel.lawful_receiver {b : Bool} {r : ScaleReceiver} (law : x.lawful b) :
    ({ x with receiver := r } : Channel).lawful b := law

/-- The channel as it stands, for the lemmas on a channel that has moved on. -/
theorem ScaleResult.unmoved : ScaleResult weighs c s s := by
  have still := ScaleResult.quiet (weighs := weighs) (c := c) (s := s) s.channels[c] false rfl fun _ => id
  rwa [State.moveChannel, if_neg (by decide), State.setChannel_self] at still

theorem scaleByte_result (c : Chan) (b : Byte) (s : State) : ScaleResult true c s (scaleByte c b s) := by
  unfold scaleByte
  dsimp only
  split
  · split
    · exact .quiet _ false rfl fun _ => id
    · exact .unmoved
  · split
    · exact badMessage_result rfl fun _ => id
    · split
      · exact .quiet _ false rfl fun _ => id
      · split
        · exact goodMessage_result rfl fun _ => id
        · exact badMessage_result rfl fun _ => id

theorem scaleGap_result (c : Chan) (s : State) : ScaleResult false c s (scaleGap c s) := by
  unfold scaleGap
  dsimp only
  split
  · exact .unmoved
  · exact badMessage_result rfl fun _ => id

theorem freshnessEnd_result (c : Chan) (s : State) : ScaleResult false c s (freshnessEnd c s) := by
  unfold freshnessEnd
  dsimp only
  split
  · have lost := leaveSignal_result (weighs := false) (s := s) (c := c) (next := .noSignal) (.inr rfl) rfl fun _ => id
    rwa [State.setChannel_self] at lost
  · exact .unmoved

theorem windowResult_ne_ok (x : Channel) (w : Nat) (h : windowResult x = .ok w) : false = true := by
  unfold windowResult at h
  split_ifs at h

theorem windowEnd_result (c : Chan) (s : State) : ScaleResult false c s (windowEnd c s) := by
  have expired := endCapture_result (weighs := false) (s := s) (c := c) (lost := false) (res := windowResult s.channels[c]) rfl
    (fun _ => Channel.uncaptured_lawful) (windowResult_ne_ok s.channels[c])
  rwa [State.moveChannel, if_neg (by decide), State.setChannel_self] at expired

theorem updateBeam_result (b : Bridge) (e : BeamEnd) (f : Beam → Beam) (s : State) :
    ScaleResult false b.chan s (s.updateBeam b e f) := by
  unfold State.updateBeam
  dsimp only
  split
  · rename_i beams
    refine .quiet _ false rfl fun bridge law => ?_
    obtain ⟨run, errors, itsBeams, rest⟩ := law
    rw [beams] at itsBeams
    exact ⟨run, errors, itsBeams, rest⟩
  · exact .unmoved

/-! ### The outcome at the table (R33 to R35) -/

/-- A capture outcome is discarded, or acted on at the slot whose marker names its channel and kind. -/
theorem captureOutcome_cases (c : Chan) (kind : CaptureKind) (i : Slot) (res : CaptureResult) (s : State) :
    captureOutcome c kind i res s = s ∨
      ∃ t m, s.slots[i] = some t ∧ t.marker = some m ∧ m.channel = c ∧ m.purpose.kind = kind ∧
        captureOutcome c kind i res s = actOnOutcome i t m res s := by
  unfold captureOutcome
  split
  · exact .inl rfl
  · split
    · exact .inl rfl
    · split
      · rename_i t slot _ m marker names
        exact .inr ⟨t, m, slot, marker, names.1, names.2, rfl⟩
      · exact .inl rfl

/-- What an outcome leaves at its slot, before the deferred answer: a number issued, the slot FREE, the weighing
recorded, or the marker alone removed (R34, R35). -/
inductive Acted (res : CaptureResult) (i : Slot) (t : Ticket) (m : Marker) (s : State) : State → Prop
  | issued {n w : Nat} : res = .ok w → m.purpose = .gross → s.counter = .valid n →
      Acted res i t m s ((s.writeCounter (.after n)).setSlot i (some (t.grossed n m.channel w s.seconds)))
  | freed : m.purpose = .gross → Acted res i t m s (s.setSlot i none)
  | dumped {g : GradeIx} {final : Bool} {w : Nat} (ends : Bool) : res = .ok w → m.purpose = .dump g final →
      Acted res i t m s (s.putTicket i (t.dumped s.settings g final m.channel w s.seconds) ends)
  | binned {g : GradeIx} {k : Container} {w : Nat} (ends : Bool) : res = .ok w → m.purpose = .bin g k →
      Acted res i t m s (s.putTicket i (t.binned s.settings g k m.channel w s.seconds) ends)
  | failed : m.purpose ≠ .gross → Acted res i t m s (s.setSlot i (some { t with marker := none }))

theorem actOnOutcome_acted (i : Slot) (t : Ticket) (m : Marker) (res : CaptureResult) (s : State) :
    ∃ u o d, Acted res i t m s u ∧ actOnOutcome i t m res s = u.answerMarker m o d := by
  unfold actOnOutcome
  split
  · split
    · exact ⟨_, _, _, .issued rfl ‹_› ‹_›, rfl⟩
    · exact ⟨_, _, _, .freed ‹_›, rfl⟩
    · exact ⟨_, _, _, .freed ‹_›, rfl⟩
  · exact ⟨_, _, _, .freed ‹_›, rfl⟩
  · exact ⟨_, _, _, .dumped _ rfl ‹_›, rfl⟩
  · exact ⟨_, _, _, .binned _ rfl ‹_›, rfl⟩
  · rename_i purpose _
    exact ⟨_, _, _, .failed (by rw [purpose]; simp), rfl⟩
  · rename_i purpose _
    exact ⟨_, _, _, .failed (by rw [purpose]; simp), rfl⟩

/-- The scale's part of the state: channels, slots, counter and number word, and the ports. -/
def ScaleFrame (s t : State) : Prop :=
  t = { s with
    channels := t.channels, slots := t.slots, counter := t.counter, numberWord := t.numberWord, ports := t.ports }

theorem Acted.frame {res : CaptureResult} {i : Slot} {t : Ticket} {m : Marker} {u : State} (h : Acted res i t m s u) :
    u = { s with slots := u.slots, counter := u.counter, numberWord := u.numberWord, ports := u.ports } := by
  cases h with
  | issued | freed | failed => rfl
  | dumped ends | binned ends => cases ends <;> rfl

/-- The scale's events reach the channels, the slots, the counter, the number word and the ports alone. -/
theorem ScaleResult.frame {t : State} (h : ScaleResult weighs c s t) : ScaleFrame s t := by
  have moved := fun x lost => State.moveChannel_eq s c x lost
  cases h with
  | quiet x lost _ _ =>
    cases lost <;> rfl
  | @ended cap x lost res =>
    rcases captureOutcome_cases c cap.kind cap.slot res (s.moveChannel c x lost) with same | ⟨t, m, -, -, -, -, acts⟩
    · rw [same]
      cases lost <;> rfl
    · obtain ⟨u, o, d, acted, answered⟩ := actOnOutcome_acted cap.slot t m res (s.moveChannel c x lost)
      rw [acts, answered, acted.frame]
      cases lost <;> rfl

end
end Sys2Proof.Machine
end

section
/-! SUPPORT. What the operations over totals, tally and settings keep (R63, R83 to R85, R94, R108 to R110, R181). -/

namespace Sys2Proof.Machine

/-! ### Totals (R109, R110) -/

/-- A saturating addition stays in range, a marked total at its maximum. -/
theorem Total.add_lawful {max n : Nat} {t : Total} (law : t.lawful max) : (t.add max n).lawful max := by
  unfold Total.add
  split_ifs with marked room
  · exact law
  · exact ⟨room, fun mark => absurd mark marked⟩
  · exact ⟨le_rfl, fun _ => rfl⟩

/-- Every one of the totals is lawful: TotalsLaw without the day number. -/
def Totals.lawful (t : Totals) : Prop :=
  (∀ g : GradeIx,
    (t.grades[g].weight).lawful Config.maxSum ∧ (t.grades[g].amount).lawful Config.maxSum ∧
      (t.grades[g].count).lawful Config.maxCount) ∧
    t.paid.lawful Config.maxCount ∧ t.voided.lawful Config.maxCount ∧ t.cash.lawful Config.maxSum ∧
    t.nonCash.lawful Config.maxSum ∧ t.rounding.lawful Config.maxSum

theorem totalsLaw_iff (s : State) : TotalsLaw s ↔ s.totals.lawful ∧ 1 ≤ s.day ∧ s.day ≤ 65535 := by
  unfold TotalsLaw Totals.lawful
  tauto

theorem Totals.addLine_lawful {t : Totals} (l : Line) (law : t.lawful) : (t.addLine l).lawful := by
  obtain ⟨grades, rest⟩ := law
  refine ⟨fun g => ?_, rest⟩
  obtain ⟨weight, amount, count⟩ := grades l.grade
  simp only [Totals.addLine, getElem_set_fin]
  split
  · exact ⟨Total.add_lawful weight, Total.add_lawful amount, Total.add_lawful count⟩
  · exact grades g

theorem Totals.addLines_lawful {t : Totals} (ls : List Line) (law : t.lawful) : (ls.foldl Totals.addLine t).lawful := by
  induction ls generalizing t with
  | nil => exact law
  | cons l ls ih => exact ih (t.addLine_lawful l law)

theorem Totals.addPayment_lawful {t : Totals} (m : Method) (paid rounding : Nat) (ls : List Line) (law : t.lawful) :
    (t.addPayment m paid rounding ls).lawful := by
  obtain ⟨grades, paidTotal, voided, cash, nonCash, roundings⟩ := law
  apply Totals.addLines_lawful
  cases m with
  | cash =>
    exact ⟨grades, Total.add_lawful paidTotal, voided, Total.add_lawful cash, nonCash, Total.add_lawful roundings⟩
  | cheque | transfer =>
    exact ⟨grades, Total.add_lawful paidTotal, voided, cash, Total.add_lawful nonCash, Total.add_lawful roundings⟩

theorem Totals.addVoid_lawful {t : Totals} (law : t.lawful) : t.addVoid.lawful := by
  obtain ⟨grades, paid, voided, rest⟩ := law
  exact ⟨grades, paid, Total.add_lawful voided, rest⟩

theorem Total.zero_lawful (max : Nat) : Total.zero.lawful max := ⟨Nat.zero_le _, by simp [Total.zero]⟩

theorem Totals.zero_lawful : Totals.zero.lawful :=
  ⟨fun g => by simp [Totals.zero, Total.zero_lawful], Total.zero_lawful _, Total.zero_lawful _, Total.zero_lawful _,
    Total.zero_lawful _, Total.zero_lawful _⟩

theorem nextDay_inRange {n : Nat} (least : 1 ≤ n) (most : n ≤ 65535) : 1 ≤ nextDay n ∧ nextDay n ≤ 65535 := by
  unfold nextDay
  split <;> omega

/-! ### The tally (R83 to R85, R94) -/

/-- The way found holds the seller's entry. -/
theorem tallyWay_some {s : State} {id : Text} {w : Fin 4} (h : s.tallyWay id = some w) :
    ∃ e, s.tally[tallyBucket id][w] = some e ∧ e.seller = id := by
  have found := List.find?_some h
  rwa [beq_iff_eq, Option.map_eq_some_iff] at found

/-- No way of the bucket holds a seller who is not found. -/
theorem tallyWay_none {s : State} {id : Text} (h : s.tallyWay id = none) (w : Fin 4) (e : TallyEntry)
    (entry : s.tally[tallyBucket id][w] = some e) : e.seller ≠ id := by
  intro same
  have other := List.find?_eq_none.mp h w (List.mem_finRange w)
  rw [entry, Option.map_some, same] at other
  exact other (beq_self_eq_true _)

/-- The way a new entry takes is empty. -/
theorem emptyWay_some {s : State} {id : Text} {w : Fin 4} (h : s.emptyWay id = some w) :
    s.tally[tallyBucket id][w] = none := by
  simpa using List.find?_some h

theorem State.setTally_get (s : State) (b b' : Fin 64) (w w' : Fin 4) (e : TallyEntry) :
    (s.setTally b w e).tally[b'][w'] = if b = b' ∧ w = w' then some e else s.tally[b'][w'] := by
  unfold State.setTally
  dsimp only
  rw [getElem_set_fin]
  by_cases bucket : b = b'
  · subst bucket
    rw [if_pos rfl, getElem_set_fin]
    simp
  · rw [if_neg bucket, if_neg (fun h => bucket h.1)]

/-- An entry of a seller put into a way of the seller's bucket, no other way holding that seller, keeps the table
lawful. -/
theorem setTally_keeps {s : State} {w : Fin 4} {e : TallyEntry} (law : TallyLaw s)
    (alone : ∀ w' e', s.tally[tallyBucket e.seller][w'] = some e' → e'.seller = e.seller → w' = w) :
    TallyLaw (s.setTally (tallyBucket e.seller) w e) := by
  obtain ⟨buckets, unique⟩ := law
  have elsewhere : ∀ b' w' e', s.tally[b'][w'] = some e' → e'.seller = e.seller →
      b' = tallyBucket e.seller ∧ w' = w := fun b' w' e' entry same => by
    have bucket : b' = tallyBucket e.seller := by rw [← same, buckets b' w' e' entry]
    subst bucket
    exact ⟨rfl, alone w' e' entry same⟩
  refine ⟨fun b' w' e' entry => ?_, fun b₁ b₂ w₁ w₂ e₁ e₂ first second same => ?_⟩
  · rw [State.setTally_get] at entry
    split at entry
    · rename_i here
      cases entry
      exact here.1
    · exact buckets b' w' e' entry
  · rw [State.setTally_get] at first second
    split at first <;> split at second <;> rename_i one two
    · exact ⟨one.1.symm.trans two.1, one.2.symm.trans two.2⟩
    · cases first
      obtain ⟨rfl, rfl⟩ := elsewhere b₂ w₂ e₂ second same.symm
      exact absurd ⟨rfl, rfl⟩ two
    · cases second
      obtain ⟨rfl, rfl⟩ := elsewhere b₁ w₁ e₁ first same
      exact absurd ⟨rfl, rfl⟩ one
    · exact unique b₁ b₂ w₁ w₂ e₁ e₂ first second same

theorem tallyPayment_keeps {s : State} (id : Text) (c n : Nat) (law : TallyLaw s) :
    TallyLaw (s.tallyPayment id c n) := by
  unfold State.tallyPayment
  dsimp only
  split
  · exact law
  · rename_i w cash payouts base
    refine setTally_keeps (e := ⟨id, cash + c, min 255 (payouts + 1), n⟩) law fun w' e' entry same => ?_
    cases found : s.tallyWay id with
    | none => exact absurd same (tallyWay_none found w' e' entry)
    | some v =>
      obtain ⟨e, there, seller⟩ := tallyWay_some found
      have looked : s.tallyEntry id = some e := by rw [State.tallyEntry, found, Option.bind_some, there]
      rw [found, looked] at base
      cases base
      exact (law.2 _ _ _ _ _ _ entry there (same.trans seller.symm)).2

theorem tallyLaw_empty {s : State} (h : s.tally = emptyTally) : TallyLaw s := by
  have empty : ∀ (b : Fin 64) (w : Fin 4), s.tally[b][w] = none := fun b w => by simp [h, emptyTally]
  refine ⟨fun b w e entry => ?_, fun b _ w _ e _ entry => ?_⟩ <;> rw [empty] at entry <;> cases entry

theorem tallyPayment_tally (s : State) (id : Text) (c n : Nat) :
    s.tallyPayment id c n = { s with tally := (s.tallyPayment id c n).tally } := by
  unfold State.tallyPayment
  dsimp only
  split <;> rfl

/-! ### The values SET_PARAM sets (R181) -/

theorem clamp_le {lo hi n : Nat} (h : lo ≤ hi) : clamp lo hi n ≤ hi := by
  unfold clamp
  split_ifs <;> omega

theorem le_clamp {lo hi n : Nat} (h : lo ≤ hi) : lo ≤ clamp lo hi n := by
  unfold clamp
  split_ifs <;> omega

theorem foldl_max_mem {l : List Nat} (h : l ≠ []) : l.foldl max 0 ∈ l := by
  have general : ∀ (l : List Nat) (a : Nat), l.foldl max a = a ∨ l.foldl max a ∈ l := by
    intro l
    induction l with
    | nil => exact fun a => .inl rfl
    | cons x l ih =>
      intro a
      rcases ih (max a x) with same | member
      · rcases max_choice a x with left | right
        · exact .inl (same.trans left)
        · exact .inr (List.mem_cons.mpr (.inl (same.trans right)))
      · exact .inr (List.mem_cons_of_mem _ member)
  rcases general l 0 with zero | member
  · obtain ⟨x, rest, rfl⟩ := List.exists_cons_of_ne_nil h
    rcases general rest (max 0 x) with same | member
    · rw [List.foldl_cons, same]
      simp
    · exact List.mem_cons_of_mem _ member
  · exact member

/-- The value lowered to is one of those allowed, the least of which is 1. -/
theorem lowerTo_mem {allowed : List Nat} {n : Nat} (one : 1 ∈ allowed) (h : 1 ≤ n) : lowerTo allowed n ∈ allowed := by
  have kept : 1 ∈ allowed.filter (· ≤ n) := List.mem_filter.mpr ⟨one, decide_eq_true h⟩
  exact List.mem_of_mem_filter (foldl_max_mem (List.ne_nil_of_mem kept))

theorem drawerTime_lawful (n : Nat) : drawerTimeLawful (drawerTime n) := by
  have least : 10 ≤ clamp 10 250 n := le_clamp (by decide)
  have most : clamp 10 250 n ≤ 250 := clamp_le (by decide)
  unfold drawerTime drawerTimeLawful
  omega

theorem putChannelItem_lawful {c : ChannelSettings} (n : Nat) (item : ChannelItem) (law : ChannelSettings.lawful c) :
    ChannelSettings.lawful (putChannelItem c (item.fit n) item) := by
  obtain ⟨capacity, division, motion, stable, window, minimum, freshness, errors⟩ := law
  have bounds : ∀ {lo hi : Nat}, lo ≤ hi → lo ≤ clamp lo hi n ∧ clamp lo hi n ≤ hi := fun h => ⟨le_clamp h, clamp_le h⟩
  cases item with
  | capacity => exact ⟨bounds (by decide), division, motion, stable, window, minimum, freshness, errors⟩
  | division =>
    have division := lowerTo_mem (allowed := allowedDivisions) (by decide)
      (le_clamp (lo := 1) (hi := 500) (n := n) (by decide))
    exact ⟨capacity, division, motion, stable, window, minimum, freshness, errors⟩
  | motionBand => exact ⟨capacity, division, clamp_le (Nat.zero_le _), stable, window, minimum, freshness, errors⟩
  | stableCount => exact ⟨capacity, division, motion, bounds (by decide), window, minimum, freshness, errors⟩
  | captureWindow => exact ⟨capacity, division, motion, stable, bounds (by decide), minimum, freshness, errors⟩
  | minimum => exact ⟨capacity, division, motion, stable, window, clamp_le (Nat.zero_le _), freshness, errors⟩
  | freshness => exact ⟨capacity, division, motion, stable, window, minimum, bounds (by decide), errors⟩
  | errorThreshold => exact ⟨capacity, division, motion, stable, window, minimum, freshness, bounds (by decide)⟩

/-- A number fitted to its parameter keeps the settings in range. -/
theorem putNumericItem_lawful {st : Settings} (n : Nat) (item : NumericItem) (law : Settings.lawful st) :
    Settings.lawful (putNumericItem st (item.fit n) item) := by
  obtain ⟨channels, hold, step, limit, anon, copies, headers, footers, stall, inhibit, refusal, on, off, count, rest⟩ :=
    law
  have bounds : ∀ {lo hi : Nat}, lo ≤ hi → lo ≤ clamp lo hi n ∧ clamp lo hi n ≤ hi := fun h => ⟨le_clamp h, clamp_le h⟩
  cases item with
  | holdTime =>
    exact ⟨channels, bounds (by decide), step, limit, anon, copies, headers, footers, stall, inhibit, refusal, on, off,
      count, rest⟩
  | cashStep =>
    have step := lowerTo_mem (allowed := allowedSteps) (by decide) (le_clamp (lo := 1) (hi := 100) (n := n) (by decide))
    exact ⟨channels, hold, step, limit, anon, copies, headers, footers, stall,
      inhibit, refusal, on, off, count, rest⟩
  | cashLimit =>
    exact ⟨channels, hold, step, clamp_le (Nat.zero_le _), anon, copies, headers, footers, stall, inhibit, refusal, on,
      off, count, rest⟩
  | anonThreshold =>
    exact ⟨channels, hold, step, limit, clamp_le (Nat.zero_le _), copies, headers, footers, stall, inhibit, refusal, on,
      off, count, rest⟩
  | receiptCopies =>
    exact ⟨channels, hold, step, limit, anon, bounds (by decide), headers, footers, stall, inhibit, refusal, on, off,
      count, rest⟩
  | stallTime =>
    exact ⟨channels, hold, step, limit, anon, copies, headers, footers, bounds (by decide), inhibit, refusal, on, off,
      count, rest⟩
  | inhibitLimit =>
    exact ⟨channels, hold, step, limit, anon, copies, headers, footers, stall, bounds (by decide), refusal, on, off,
      count, rest⟩
  | refusalLimit =>
    exact ⟨channels, hold, step, limit, anon, copies, headers, footers, stall, inhibit, bounds (by decide), on, off,
      count, rest⟩
  | drawerOn =>
    exact ⟨channels, hold, step, limit, anon, copies, headers, footers, stall, inhibit, refusal, drawerTime_lawful n,
      off, count, rest⟩
  | drawerOff =>
    exact ⟨channels, hold, step, limit, anon, copies, headers, footers, stall, inhibit, refusal, on,
      drawerTime_lawful n, count, rest⟩
  | drawerCount =>
    exact ⟨channels, hold, step, limit, anon, copies, headers, footers, stall, inhibit, refusal, on, off,
      bounds (by decide), rest⟩

/-- The entries of a table in range, one of them replaced by another in range. -/
theorem forall_set {α : Type} {n : Nat} {p : α → Prop} {v : Vector α n} {i : Fin n} {x : α} (here : p x)
    (others : ∀ k : Fin n, p v[k]) (k : Fin n) : p (v.set i x)[k] := by
  rw [getElem_set_fin]
  split
  · exact here
  · exact others k

/-- A text that SET_PARAM's data gives is one the parameter takes. -/
theorem decode_textAllowed {d : List Byte} {v : ParamValue}
    (h : ((decodeOptText d).bind fun t => if textAllowed t then some (ParamValue.text t) else none) = some v) :
    ∃ t, v = .text t ∧ textAllowed t = true := by
  obtain ⟨t, -, h⟩ := Option.bind_eq_some_iff.mp h
  split at h
  · cases h
    exact ⟨t, rfl, ‹_›⟩
  · cases h

/-- The settings with a decoded value fitted and set stay in range, with some port OFFICE (R181). -/
theorem putSetting_lawful {st : Settings} {q : Param} {d : List Byte} {v : ParamValue} (decoded : q.decode d = some v)
    (office : hasOffice (putSetting st q (q.fit v)) = true) (law : Settings.lawful st) :
    Settings.lawful (putSetting st q (q.fit v)) := by
  have parts := law
  obtain ⟨channels, hold, step, limit, anon, copies, headers, footers, stall, inhibit, refusal, on, off, count,
    officeBefore, rest⟩ := parts
  cases q with
  | channel item c =>
    obtain ⟨n, -, rfl⟩ := Option.map_eq_some_iff.mp decoded
    exact ⟨forall_set (putChannelItem_lawful n item (channels c)) channels, hold, step, limit, anon, copies, headers,
      footers, stall, inhibit, refusal, on, off, count, officeBefore, rest⟩
  | numeric item =>
    obtain ⟨n, -, rfl⟩ := Option.map_eq_some_iff.mp decoded
    exact putNumericItem_lawful n item law
  | header i =>
    obtain ⟨t, rfl, allowed⟩ := decode_textAllowed decoded
    exact ⟨channels, hold, step, limit, anon, copies, forall_set (p := fun t => textAllowed t = true) allowed headers,
      footers, stall, inhibit, refusal, on, off, count, officeBefore, rest⟩
  | footer i =>
    obtain ⟨t, rfl, allowed⟩ := decode_textAllowed decoded
    exact ⟨channels, hold, step, limit, anon, copies, headers,
      forall_set (p := fun t => textAllowed t = true) allowed footers, stall, inhibit, refusal, on, off, count,
      officeBefore, rest⟩
  | enable p =>
    cases v <;>
      exact ⟨channels, hold, step, limit, anon, copies, headers, footers, stall, inhibit, refusal, on, off, count,
        office, rest⟩
  | role p =>
    cases v <;>
      exact ⟨channels, hold, step, limit, anon, copies, headers, footers, stall, inhibit, refusal, on, off, count,
        office, rest⟩

/-- The factory settings are in range (R180). -/
theorem factorySettings_lawful : Settings.lawful factorySettings := by
  have channels : ∀ c : Chan, ChannelSettings.lawful factorySettings.channels[c] := by
    unfold ChannelSettings.lawful
    decide
  have drawer : drawerTimeLawful 100 := by
    unfold drawerTimeLawful
    decide
  have grades : ∀ g : GradeIx, GradeEntry.lawful factorySettings.active[g] := fun g => by
    simp [factorySettings, GradeEntry.lawful, factoryGrade]
  refine ⟨channels, by decide, by decide, by decide, by decide, by decide, by decide, by decide, by decide, by decide,
    by decide, drawer, drawer, by decide, by decide, grades, by decide, by decide⟩

end Sys2Proof.Machine
end

section
/-! SUPPORT. Accepted requests by what they edit of the tickets, the books, the settings and the channels; what they do
beside that are changes of the spool and of ports and arbiter. -/

namespace Sys2Proof.Machine

/-- `t` is `s` but for the ports, the arbiter, and what the ports and the supply hold beside them. -/
def Outside (s t : State) : Prop :=
  t = { s with
    pending := t.pending, resetDriven := t.resetDriven, markerValid := t.markerValid, clock := t.clock
    pendingStart := t.pendingStart, ports := t.ports, requestEngine := t.requestEngine, pointer := t.pointer
    freeReads := t.freeReads }

theorem Outside.refl (s : State) : Outside s s := rfl

theorem Outside.trans {s t u : State} (first : Outside s t) (second : Outside t u) : Outside s u := by
  unfold Outside at *
  rw [first] at second
  exact second

/-- An edited ticket is the same ticket: its number, its kind, who opened it and when, its weighings and the number of
its lines stand as they were. -/
structure Ticket.Keeps (t t' : Ticket) : Prop where
  number : t'.number = t.number
  kind : t'.kind = t.kind
  openedBy : t'.openedBy = t.openedBy
  openedAt : t'.openedAt = t.openedAt
  weighings : t'.weighings = t.weighings
  lines : t'.lines.length = t.lines.length

/-- One edit of tickets, books, settings or channels by an accepted request, with what it keeps. -/
inductive Edit (row : Instr) (s : State) : State → Prop
  | unmoved : Edit row s s
  | ticket {i : Slot} {t : Ticket} (t' : Ticket) : s.slots[i] = some t → t.Keeps t' → Edit row s (s.setSlot i (some t'))
  | opened {n : Nat} {i : Slot} (t : Ticket) : row = .openWalkin → s.counter = .valid n → s.slots[i] = none → t.number = some n →
      Edit row s ((s.writeCounter (.after n)).setSlot i (some t))
  | captured (i : Slot) (t' : Ticket) (c : Chan) (x : Channel) :
      (s.slots[i] = none ∧ t'.number = none) ∨ (∃ t, s.slots[i] = some t ∧ t.Keeps t') →
      (∀ b, s.channels[c].lawful b → x.lawful b) → Edit row s ((s.setSlot i (some t')).setChannel c x)
  | closed {i : Slot} {t : Ticket} (r : CloseRecord) (u : State) :
      row = .void ∨ row = .pay → s.slots[i] = some t → t.number = some r.number → s.journalFull = false →
      u = { s with
        journal := s.journal ++ [.close r], totals := u.totals, tally := u.tally, channels := u.channels } →
      (s.totals.lawful → u.totals.lawful) → (TallyLaw s → TallyLaw u) → (ChannelLaw s → ChannelLaw u) →
      Edit row s (u.setSlot i none)
  | popped {head : Record} {rest : List Record} : row = .journalPop → s.journal = head :: rest → Edit row s { s with journal := rest }
  | dayClosed (p : Port) : row = .dayClose → s.journalFull = false → Edit row s (closeDay p s)
  | settings (st : Settings) : row ∈ [Instr.setParam, .switchPrices, .setContainer, .setAlias] → s.save = none → (SettingsLaw s → Settings.lawful st) → Edit row s { s with settings := st }
  | staged (g : GradeIx) {e : GradeEntry} : GradeEntry.lawful e → Edit row s (s.stage g e)
  | counter (c : Counter) : row ∈ [Instr.setNextNumber, .coldClear] → (NumberLaw s → c.inRange ∧ ∀ m ∈ s.heldNumbers, c.passed m) → Edit row s (s.writeCounter c)
  | channel (c : Chan) (x : Channel) : (∀ b, s.channels[c].lawful b → x.lawful b) → Edit row s (s.setChannel c x)
  | saving (p : Port) : s.save = none → Edit row s { s with save := some { content := s.settings, port := p } }

/-- The state is reached by one edit, then changes outside the edited parts, then changes of the spool. -/
def Edited (row : Instr) (s t : State) : Prop := ∃ u v, Edit row s u ∧ Outside u v ∧ SpoolMoves v t

section
variable {row : Instr} {s t u : State}

theorem Edited.of_edit (h : Edit row s t) : Edited row s t := ⟨t, t, h, rfl, .unmoved⟩

theorem Edited.of_outside (h : Edit row s u) (apart : Outside u t) : Edited row s t := ⟨u, t, h, apart, .unmoved⟩

theorem Edited.of_spool (h : SpoolMoves s t) : Edited row s t := ⟨s, s, .unmoved, rfl, h⟩

/-! ### What each edit keeps -/

theorem capture_lawful {x : Channel} {cap : Capture} {b : Bool} (notFault : x.state ≠ .fault)
    (signal : x.state ≠ .noSignal) (law : x.lawful b) : ({ x with capture := some cap } : Channel).lawful b := by
  obtain ⟨run, errors, beams, -, rest⟩ := law
  exact ⟨run, errors, beams, fun silent => absurd silent (not_or.mpr ⟨notFault, signal⟩), rest⟩

theorem clearFault_edited (s : State) (c : Chan) : Edited row s (clearFault c s) := by
  unfold clearFault
  dsimp only
  split
  · rename_i fault
    refine .of_outside (.channel c _ fun b law => ?_) (by rfl)
    obtain ⟨-, -, beams, silent, -⟩ := law
    obtain ⟨-, -, capture⟩ := silent (.inl fault)
    exact ⟨Nat.zero_le _, Nat.zero_le _, beams, fun _ => ⟨rfl, rfl, capture⟩, fun _ => rfl,
      fun h => absurd h (by simp)⟩
  · refine .of_edit (.channel c _ fun b law => ?_)
    obtain ⟨run, -, rest⟩ := law
    exact ⟨run, Nat.zero_le _, rest⟩

theorem le_foldl_max (l : List Nat) (a : Nat) : a ≤ l.foldl max a ∧ ∀ n ∈ l, n ≤ l.foldl max a := by
  induction l generalizing a with
  | nil => exact ⟨le_rfl, fun _ h => absurd h List.not_mem_nil⟩
  | cons x l ih =>
    obtain ⟨start, rest⟩ := ih (max a x)
    refine ⟨(le_max_left a x).trans start, fun n h => ?_⟩
    rcases List.mem_cons.mp h with rfl | member
    · exact (le_max_right a n).trans start
    · exact rest n member

/-- A number SET_NEXT_NUMBER allows has passed every number held (R184). -/
theorem nextNumberAllowed_passed {n : Nat} (h : nextNumberAllowed s n = true) (law : NumberLaw s) {m : Nat}
    (held : m ∈ s.heldNumbers) : m < n := by
  obtain ⟨-, -, -, passed, -⟩ := law
  have below := (passed m held).1
  unfold nextNumberAllowed at h
  split at h
  · rename_i next valid
    rw [valid] at below
    exact lt_trans below (of_decide_eq_true h)
  · cases h
  · exact lt_of_le_of_lt ((le_foldl_max _ 0).2 m held) (of_decide_eq_true h)

theorem abandonCapture_channels (c : Chan) (i : Slot) (s : State) :
    abandonCapture c i s = { s with channels := (abandonCapture c i s).channels } := by
  unfold abandonCapture
  split
  · split <;> rfl
  · rfl

theorem abandonCapture_lawful {c : Chan} {i : Slot} (law : ChannelLaw s) : ChannelLaw (abandonCapture c i s) := by
  unfold abandonCapture
  split
  · split
    · intro d
      rw [State.setChannel_get]
      split
      · rename_i here
        subst here
        exact Channel.uncaptured_lawful (law _)
      · exact law d
    · exact law
  · exact law

theorem abandonMarker_frame (i : Slot) (t : Ticket) (s : State) :
    ∃ u, u = { s with channels := u.channels } ∧ (ChannelLaw s → ChannelLaw u) ∧
      Outside u (abandonMarker i t s) := by
  unfold abandonMarker
  split
  · exact ⟨s, rfl, id, rfl⟩
  · exact ⟨_, abandonCapture_channels _ _ _, abandonCapture_lawful, rfl⟩

theorem closeRecordOf_number {s : State} {t : Ticket} {p : Port} {c : Closing} {n : Nat} (h : t.number = some n) :
    t.number = some (closeRecordOf s t p c).number := by
  rw [closeRecordOf, h]
  rfl

theorem setTotals_outside (s : State) (x : Totals) : Outside { s with totals := x } (s.setTotals x) := by
  obtain ⟨ports, books, -⟩ := setTotals_spec s x
  rw [books]
  rfl

theorem slipPlace_congr {p : Port} {record : CloseRecord} (settings : t.settings = s.settings)
    (pages : t.freePages = s.freePages) (jobs : t.jobs = s.jobs) : slipPlace t p record = slipPlace s p record := by
  unfold slipPlace State.printerOf State.roomFor State.canAllocate State.freeJob
  rw [settings, pages, jobs]

/-- A slip is handed over where there is a place for one. -/
theorem SpoolMoves.slip {record : CloseRecord} {p : Port} (h : SpoolMoves t u) :
    SpoolMoves t (slipSpool u record (slipPlace u p record)) := by
  rcases slipPlace_cases u p record with ⟨place, -⟩ | ⟨printer, j, place, -, pages, free, -⟩
  · rw [place]
    exact h
  · rw [place]
    exact h.handOver pages free

/-- What a VOID does outside the spool and its slot, but for the ports: close record, totals, capture abandoned. -/
theorem voidBooks_frame (i : Slot) (x : Ticket) (record : CloseRecord) (s : State) :
    ∃ books : State,
      books = { s with
        journal := s.journal ++ [.close record], totals := s.totals.addVoid, channels := books.channels } ∧
      (ChannelLaw s → ChannelLaw books) ∧ Outside books (voidBooks i x record s) := by
  obtain ⟨v, channels, law, outside⟩ := abandonMarker_frame i x s
  refine ⟨{ s with journal := s.journal ++ [.close record], totals := s.totals.addVoid, channels := v.channels }, rfl,
    fun lawful => ?_, ?_⟩
  · have same := law lawful
    rw [channels] at same
    exact same
  · refine Outside.trans ?_ (setTotals_outside _ _)
    rw [outside, channels]
    rfl

theorem voidBooks_slipPlace (i : Slot) (x : Ticket) (record record' : CloseRecord) (p : Port) (s : State) :
    slipPlace (voidBooks i x record s) p record' = slipPlace s p record' := by
  obtain ⟨books, itsBooks, -, outside⟩ := voidBooks_frame i x record s
  apply slipPlace_congr <;> rw [outside, itsBooks]

theorem voidEffects_edited {p : Port} {i : Slot} {x : Ticket} {n reason : Nat} (found : FoundAt s n i x)
    (room : s.journalFull = false) : Edited .void s (voidEffects p i x reason s) := by
  obtain ⟨record, itsRecord⟩ : ∃ record, closeRecordOf s x p (.voided reason) = record := ⟨_, rfl⟩
  obtain ⟨books, itsBooks, channels, outside⟩ := voidBooks_frame i x record s
  have reordered : voidEffects p i x reason s =
      slipSpool ((voidBooks i x record s).setSlot i none) record (slipPlace s p record) := by
    have spooled := slipSpool_actsOnSpool record (slipPlace s p record)
    rw [voidEffects_eq, itsRecord]
    refine Eq.trans ?_ (spooled ((voidBooks i x record s).setSlot i none) (voidBooks i x record s) rfl).symm
    exact congrArg (·.setSlot i none) (spooled.frame (voidBooks i x record s))
  have place : slipPlace ((voidBooks i x record s).setSlot i none) p record = slipPlace s p record :=
    (slipPlace_congr rfl rfl rfl).trans (voidBooks_slipPlace i x record record p s)
  rw [reordered, ← place]
  refine ⟨books.setSlot i none, (voidBooks i x record s).setSlot i none,
    .closed record books (.inl rfl) found.slot ?_ room (by rw [itsBooks]) ?_ ?_ channels, ?_,
    SpoolMoves.unmoved.slip⟩
  · rw [← itsRecord]
    exact closeRecordOf_number found.number
  · rw [itsBooks]
    exact Totals.addVoid_lawful
  · rw [itsBooks]
    exact id
  · rw [outside]
    rfl

/-! ### PAY (R94, R95) -/

/-- The seller's tally after a payment: CASH with a seller is added to it (R94). -/
def State.tallied (s : State) (t : Ticket) (m : Method) : State :=
  match m, t.seller with
  | .cash, some id => s.tallyPayment id (paidFigures m t.total s.settings.cashStep).1 (t.number.getD 0)
  | _, _ => s

/-- What an accepted PAY does outside the spool: tally, totals, close record, slot. -/
def payBooks (i : Slot) (t : Ticket) (m : Method) (record : CloseRecord) (s : State) : State :=
  let figures := paidFigures m t.total s.settings.cashStep
  let s := s.tallied t m
  let s := s.setTotals (s.totals.addPayment m figures.1 figures.2 t.lines)
  (s.append (.close record)).setSlot i none

/-- The record that an accepted PAY appends (R102). -/
def paidRecord (s : State) (t : Ticket) (p : Port) (m : Method) : CloseRecord :=
  closeRecordOf s t p (.paid m (paidFigures m t.total s.settings.cashStep).1
    (paidFigures m t.total s.settings.cashStep).2)

theorem payEffects_eq (p : Port) (i : Slot) (t : Ticket) (m : Method) (printer : Printer) (j : JobNo) (s : State) :
    payEffects p i t m printer j s =
      (let books := payBooks i t m (paidRecord s t p m) s
       let printed := books.handOver j printer books.settings.receiptCopies false (paidRecord s t p m)
       if m = .cash then printed.kickDrawer printer else printed) := by
  cases m <;> rfl

theorem State.tallied_eq (s : State) (t : Ticket) (m : Method) :
    s.tallied t m = { s with tally := (s.tallied t m).tally } := by
  unfold State.tallied
  split
  · exact tallyPayment_tally _ _ _ _
  · rfl

theorem State.tallied_keeps {t : Ticket} {m : Method} (law : TallyLaw s) : TallyLaw (s.tallied t m) := by
  unfold State.tallied
  split
  · exact tallyPayment_keeps _ _ _ law
  · exact law

/-- The books after a payment, but for the ports. -/
def paidBooks (s : State) (t : Ticket) (m : Method) (record : CloseRecord) : State :=
  { s with
    journal := s.journal ++ [.close record], tally := (s.tallied t m).tally
    totals := s.totals.addPayment m (paidFigures m t.total s.settings.cashStep).1
      (paidFigures m t.total s.settings.cashStep).2 t.lines }

theorem payBooks_outside (i : Slot) (t : Ticket) (m : Method) (record : CloseRecord) (s : State) :
    Outside ((paidBooks s t m record).setSlot i none) (payBooks i t m record s) := by
  unfold payBooks
  dsimp only
  rw [setTotals_outside, State.tallied_eq]
  rfl

theorem payEffects_edited {p : Port} {i : Slot} {x : Ticket} {n : Nat} {m : Method} {printer : Printer} {j : JobNo}
    (found : FoundAt s n i x) (room : s.journalFull = false)
    (place : s.roomFor false (paidRecord s x p m) = some j) : Edited .pay s (payEffects p i x m printer j s) := by
  have books := payBooks_outside i x m (paidRecord s x p m) s
  obtain ⟨pages, free, -⟩ := roomFor_some place
  have settled : SpoolMoves (payBooks i x m (paidRecord s x p m) s) (payEffects p i x m printer j s) := by
    rw [payEffects_eq]
    have printed := SpoolMoves.unmoved.handOver (s := payBooks i x m (paidRecord s x p m) s) (jn := j) (p := printer)
      (copies := (payBooks i x m (paidRecord s x p m) s).settings.receiptCopies) (duplicate := false)
      (r := paidRecord s x p m) (by rw [books]; exact pages) (by rw [books]; exact free)
    dsimp only
    split
    · exact printed.kickDrawer
    · exact printed
  exact ⟨_, _, .closed (paidRecord s x p m) (paidBooks s x m (paidRecord s x p m)) (.inr rfl) found.slot
    (closeRecordOf_number found.number) room rfl (Totals.addPayment_lawful _ _ _ _) State.tallied_keeps id, books, settled⟩

/-! ### Every accepted request -/

theorem Ticket.Keeps.refl (t : Ticket) : t.Keeps t := ⟨rfl, rfl, rfl, rfl, rfl, rfl⟩

theorem putTicket_edited {i : Slot} {x x' : Ticket} (ready : Bool) (slot : s.slots[i] = some x) (keeps : x.Keeps x') :
    Edited row s (s.putTicket i x' ready) := by
  refine .of_outside (.ticket x' slot keeps) ?_
  cases ready <;> rfl

theorem beginCapture_edited {r : Req} {i : Slot} {x : Ticket} {p : Purpose} {c : Chan}
    (before : (s.slots[i] = none ∧ x.number = none) ∨ s.slots[i] = some x) (notFault : s.channels[c].state ≠ .fault)
    (signal : s.channels[c].state ≠ .noSignal) : Edited row s (s.beginCapture r i x p c) := by
  refine .of_outside (.captured i { x with marker := some ⟨p, c, r.port, r.tag⟩ } c (capturing s p.kind i c) ?_
    fun _ => capture_lawful notFault signal) (by rfl)
  exact before.imp id fun slot => ⟨x, slot, rfl, rfl, rfl, rfl, rfl, rfl⟩

theorem countFreeRead_outside (s : State) (x : Ticket) (part : Nat) : Outside s (s.countFreeRead x part) := by
  unfold State.countFreeRead
  split <;> rfl

theorem setAliasEntry_lawful {q : Port} {entry : Fin 4} {k : Option Printer} (law : SettingsLaw s) :
    Settings.lawful (s.setAliasEntry q entry k).settings := law.1

theorem switchPrices_lawful (law : SettingsLaw s) : Settings.lawful s.switchPrices.settings := by
  obtain ⟨settings, -, staged, -⟩ := law
  obtain ⟨channels, hold, step, limit, anon, copies, headers, footers, stall, inhibit, refusal, on, off, count, office,
    active, epoch, tares⟩ := settings
  exact ⟨channels, hold, step, limit, anon, copies, headers, footers, stall, inhibit, refusal, on, off, count, office,
    staged, Nat.le_of_lt_succ (Nat.mod_lt _ (by decide)), tares⟩

theorem setTare_lawful {k : Container} {tare : Nat} (most : tare ≤ 100000) (law : SettingsLaw s) :
    Settings.lawful (s.setTare k tare).settings := by
  obtain ⟨settings, -⟩ := law
  obtain ⟨channels, hold, step, limit, anon, copies, headers, footers, stall, inhibit, refusal, on, off, count, office,
    active, epoch, tares⟩ := settings
  exact ⟨channels, hold, step, limit, anon, copies, headers, footers, stall, inhibit, refusal, on, off, count, office,
    active, epoch, forall_set (p := (· ≤ 100000)) most tares⟩

/-- Every accepted request makes one edit, and changes of ports, arbiter and spool besides. -/
theorem Accepts.edited {r : Req} (h : Accepts r s row t) : Edited row s t := by
  have none_moved := SpoolMoves.unmoved (s := s)
  cases h with
  | ackEvents | setMask | setClock | restart => exact .of_outside .unmoved (by rfl)
  | getTicket => exact .of_outside .unmoved (countFreeRead_outside _ _ _)
  | setAlias q entry k idle => exact .of_edit (.settings _ (by simp) idle setAliasEntry_lawful)
  | openWalkin valid free => exact .of_edit (.opened _ rfl valid (freeSlot_some free) rfl)
  | closeWeighing found => exact putTicket_edited true found.slot ⟨rfl, rfl, rfl, rfl, rfl, rfl⟩
  | deduct k dm found => exact .of_edit (.ticket _ found.slot ⟨rfl, rfl, rfl, rfl, rfl, List.length_modify _ _ _⟩)
  | setSeller id found => exact .of_edit (.ticket _ found.slot ⟨rfl, rfl, rfl, rfl, rfl, rfl⟩)
  | setPlate plate found => exact .of_edit (.ticket _ found.slot ⟨rfl, rfl, rfl, rfl, rfl, rfl⟩)
  | void reason found _ room => exact voidEffects_edited found room
  | clearScaleFault c => exact clearFault_edited s c
  | setGrade g _ lawful => exact .of_edit (.staged g lawful)
  | switchPrices idle => exact .of_outside (.settings _ (by simp) idle switchPrices_lawful) (by rfl)
  | setContainer k idle most => exact .of_edit (.settings _ (by simp) idle (setTare_lawful most))
  | reprice found => exact .of_edit (.ticket _ found.slot ⟨rfl, rfl, rfl, rfl, rfl, List.length_map _⟩)
  | review found => exact .of_edit (.ticket _ found.slot ⟨rfl, rfl, rfl, rfl, rfl, rfl⟩)
  | release found => exact putTicket_edited true found.slot ⟨rfl, rfl, rfl, rfl, rfl, rfl⟩
  | pay m found _ room place => exact payEffects_edited found room place
  | drawerKick p => exact .of_spool none_moved.kickDrawer
  | journalPop journal => exact .of_edit (.popped rfl journal)
  | dayClose room => exact .of_edit (.dayClosed _ rfl room)
  | reprint printer room =>
    obtain ⟨pages, free, -⟩ := roomFor_some room
    exact .of_spool (none_moved.handOver pages free)
  | jobOpen printer _ room =>
    obtain ⟨pages, free⟩ := canAllocate_some room
    exact .of_spool (none_moved.allocate _ pages free)
  | jobWrite ls job => exact .of_spool (none_moved.writeJob ls job)
  | jobSubmit job => exact .of_spool (none_moved.submitJob _ _ job)
  | jobClose job => exact .of_spool (none_moved.closeJob job)
  | jobCancel job => exact .of_spool (none_moved.cancelJob r job)
  | jobRelease => exact .of_spool (none_moved.release _)
  | printerResume => exact .of_spool none_moved.resumeEngine
  | printerFlush p => exact .of_spool none_moved.flushQueue
  | printerRedirect => exact .of_spool none_moved.redirectQueue
  | setParam decoded idle office =>
    exact ⟨_, _, .settings _ (by simp) idle fun law => putSetting_lawful decoded office law.1, .refl _,
      SpoolMoves.unmoved.reachEngine _⟩
  | setNextNumber least most allowed =>
    exact .of_edit (.counter _ (by simp) fun law => ⟨⟨least, most⟩, fun _ => nextNumberAllowed_passed allowed law⟩)
  | coldClear => exact .of_outside (.counter .invalid (by simp) fun _ => ⟨trivial, fun _ _ => trivial⟩) (by rfl)

/-- Every request left pending makes one edit, and its port's record changes besides. -/
theorem Defers.edited {r : Req} (h : Defers r s row t) : Edited row s t := by
  cases h with
  | openTruck plate c free _ notFault signal => exact beginCapture_edited (.inl ⟨free, rfl⟩) notFault signal
  | dump g final c found _ _ _ notFault signal => exact beginCapture_edited (.inr found.slot) notFault signal
  | addBin g k found _ _ _ notFault signal => exact beginCapture_edited (.inr found.slot) notFault signal
  | saveSettings idle => exact .of_outside (.saving _ idle) (by rfl)

end
end Sys2Proof.Machine
end

section
/-! SUPPORT. What one command can do to the state, said once for every row: a property that every kind of change keeps
is kept by a step. -/

namespace Sys2Proof.Machine

/-! ### Events at the ports (R167 to R172) -/

theorem outside_of_apart {s t : State} (h : Apart t s) : Outside s t := by
  obtain ⟨_, _, _, rfl⟩ := apart_iff.mp h
  rfl

theorem apart_arbitrate (s : State) : Apart s.arbitrate s := by
  rcases arbitrate_cases s with ⟨h, -⟩ | ⟨p, -, -, -, -, h⟩ <;> rw [h] <;> rfl

theorem portByte_outside (p : Port) (b : Byte) (s : State) : Outside s (portByte p b s) :=
  outside_of_apart ((apart_arbitrate _).trans (apart_iff.mpr ⟨_, _, _, rfl⟩))

theorem portGap_outside (p : Port) (s : State) : Outside s (portGap p s) := rfl

theorem responseSent_outside (p : Port) (s : State) : Outside s (responseSent p s) := by
  unfold responseSent
  split
  · rfl
  · dsimp only
    refine Outside.trans ?_ (outside_of_apart (apart_arbitrate _))
    split <;> rfl

/-- A warm start up to the queues' heads (R20, R43, R151). -/
def State.warmBase (s : State) : State :=
  State.stopStalls { s.commonStart .warm with slots := mapEntries (fun _ t => warmSlot t) s.slots }

/-- A cold start up to the offer of the queues, which are empty (R44, R70, R100, R115, R151, R185). -/
def State.coldBase (s : State) : State :=
  let s := s.commonStart .cold
  { s with
    markerValid := true, clock := none, slots := Vector.replicate 48 none, staged := s.settings.active
    tally := emptyTally, journal := [], totals := .zero, day := 1, freePages := List.finRange 96
    jobs := Vector.replicate 32 none, queues := Vector.replicate 3 [] }

theorem warmStart_eq (s : State) : s.warmStart = ((List.finRange 3).foldl State.warmHead s.warmBase).offerAll := rfl

theorem coldStart_eq (s : State) : s.coldStart = s.coldBase.offerAll := rfl

theorem warmStart_moves (s : State) : SpoolMoves s.warmBase s.warmStart := by
  rw [warmStart_eq]
  exact SpoolMoves.offerAll (SpoolMoves.foldl (fun _ _ moved => moved.warmHead) _ .unmoved)

theorem coldStart_moves (s : State) : SpoolMoves s.coldBase s.coldStart := by
  rw [coldStart_eq]
  exact SpoolMoves.unmoved.offerAll

/-! ### Every event that is no request -/

/-- What an event that is no request leaves: nothing moved, or the one effect of its kind. -/
inductive Occurs (s : State) : Instr → State → Prop
  | idle (i : Instr) : Occurs s i s
  | byte (p : Port) (b : Byte) : Occurs s (.portByteReceived p b) (portByte p b s)
  | gap (p : Port) : Occurs s (.portGapExpiry p) (portGap p s)
  | sent (p : Port) : Occurs s (.responseSent p) (responseSent p s)
  | scale {i : Instr} {weighs : Bool} {c : Chan} {t : State} :
      (weighs = true → ∃ b, i = .scaleByteReceived c b) → ScaleResult weighs c s t → Occurs s i t
  | expired {i : Slot} {t : Ticket} {w : Window} : s.slots[i] = some t → t.window = some w →
      Occurs s (.holdTimerExpiry i) ((s.putTicket i t.unhold true).latchAt .windowExpired w.holder)
  | printed (i : Instr) {t : State} : SpoolMoves s t → Occurs s i t
  | saved (x : Settings) {w : Save} (o : OutcomeCode) : s.save = some w →
      Occurs s (.saveCompletion x)
        (({ s with image := { content := x, checkGood := decide (x = w.content) }, save := none } :
          State).answerDeferred w.port o)
  | second : Occurs s .clockSecond { s with clock := s.clock.map ClockReading.tick }
  | powered (k : StartKind) : s.powered = false → Occurs s .powerOn (({ s with powered := true } : State).start k)
  | reset : s.powered = true → Occurs s .resetLine ({ s with resetDriven := true } : State).warmStart
  | resetDark : s.powered = false → Occurs s .resetLine { s with resetDriven := true }
  | warmCalled : s.taking = true → Occurs s .restartWarmStart (s.start .warm)
  | coldCalled : s.taking = true → Occurs s .coldClearColdStart (s.start .cold)
  | released : s.powered = true → Occurs s .resetLineRelease
      ((List.finRange 3).foldl takeClock
        { s with resetDriven := false, channels := mapEntries (fun _ c => c.takeBeams) s.channels })
  | releasedDark : s.powered = false → Occurs s .resetLineRelease { s with resetDriven := false }
  | lost (battery wordCut : Bool) : s.powered = true → Occurs s (.lossOfPower battery wordCut)
      { s with
        powered := false, image := s.imageAfterSave, save := none
        numberWord := if wordCut then .invalid else s.numberWord, markerValid := s.markerValid && battery }
  | lostDark (battery wordCut : Bool) : Occurs s (.lossOfPower battery wordCut)
      { s with markerValid := s.markerValid && battery }

section
variable {s : State} {i : Instr}

theorem Occurs.whileTaking {f : State → State} (goes : s.taking = true → Occurs s i (f s)) :
    Occurs s i (whileTaking f s) := by
  rcases whileTaking_cases f s with same | ⟨taking, acts⟩
  · rw [same]
    exact .idle i
  · rw [acts]
    exact goes taking

/-- A scale's event that takes no message gives no weight. -/
theorem Occurs.weightless {c : Chan} {t : State} (moved : ScaleResult false c s t) : Occurs s i t :=
  .scale (fun weighs => Bool.noConfusion weighs) moved

theorem holdEnd_occurs (k : Slot) (s : State) : Occurs s (.holdTimerExpiry k) (holdEnd k s) := by
  unfold holdEnd
  split
  · exact .idle _
  · split
    · exact .idle _
    · exact .expired ‹_› ‹_›

theorem completeSave_occurs (x : Settings) (s : State) : Occurs s (.saveCompletion x) (completeSave x s) := by
  unfold completeSave
  split
  · exact .idle _
  · exact .saved x _ ‹_›

theorem powerOn_occurs (s : State) : Occurs s .powerOn (powerOn s) := by
  unfold powerOn
  split
  · exact .idle _
  · exact .powered _ (Bool.eq_false_iff.mpr ‹_›)

theorem resetLine_occurs (s : State) : Occurs s .resetLine (resetLine s) := by
  unfold resetLine
  split_ifs with driven power
  · exact .idle _
  · exact .reset power
  · exact .resetDark (Bool.eq_false_iff.mpr power)

theorem warmCalled_occurs (taking : s.taking = true) : Occurs s .restartWarmStart (calledStart .warm s) := by
  unfold calledStart
  split
  · exact .warmCalled taking
  · exact .idle _

theorem coldCalled_occurs (taking : s.taking = true) : Occurs s .coldClearColdStart (calledStart .cold s) := by
  unfold calledStart
  split
  · exact .coldCalled taking
  · exact .idle _

theorem resetRelease_occurs (s : State) : Occurs s .resetLineRelease (resetRelease s) := by
  unfold resetRelease
  dsimp only
  split_ifs with driven power
  · exact .released power
  · exact .releasedDark (Bool.eq_false_iff.mpr power)
  · exact .idle _

theorem losePower_occurs (battery wordCut : Bool) (s : State) :
    Occurs s (.lossOfPower battery wordCut) (losePower battery wordCut s) := by
  unfold losePower
  split
  · exact .lost battery wordCut ‹_›
  · exact .lostDark battery wordCut

/-- What any command can do: what its row does of a granted request, or an event that is no request. -/
theorem exec_cases {t : State} (next : exec i s = .next t) :
    (∃ code r u, requestCode i = some code ∧ s.taking = true ∧ s.granted code = some r ∧ HandledTo i r s u ∧
      t = u.releaseEngine) ∨ Occurs s i t := by
  by_cases request : ∃ code, requestCode i = some code
  · obtain ⟨code, itsCode⟩ := request
    rcases request_cases itsCode next with rfl | ⟨r, u, taking, granted, handled, rfl⟩
    · exact .inr (.idle i)
    · exact .inl ⟨code, r, u, itsCode, taking, granted, handled, rfl⟩
  · refine .inr ?_
    have still := SpoolMoves.unmoved (s := s)
    cases i <;> first | exact absurd ⟨_, rfl⟩ request | obtain rfl := Host.Outcome.next.inj next
    case portByteReceived p b => exact .whileTaking fun _ => .byte p b
    case portGapExpiry p => exact .whileTaking fun _ => .gap p
    case responseSent p => exact .whileTaking fun _ => .sent p
    case scaleByteReceived c b => exact .whileTaking fun _ => .scale (fun _ => ⟨b, rfl⟩) (scaleByte_result c b s)
    case scaleGapExpiry c => exact .whileTaking fun _ => .weightless (scaleGap_result c s)
    case freshnessExpiry c => exact .whileTaking fun _ => .weightless (freshnessEnd_result c s)
    case beamLevelChange b e l => exact .weightless (updateBeam_result b e _ s)
    case debounceExpiry b e => exact .whileTaking fun _ => .weightless (updateBeam_result b e _ s)
    case captureWindowExpiry c => exact .whileTaking fun _ => .weightless (windowEnd_result c s)
    case holdTimerExpiry slot => exact .whileTaking fun _ => holdEnd_occurs slot s
    case stallTimerExpiry j => exact .printed _ (.whileTaking (·.stallEnd) still)
    case printerFrameEnd p a => exact .printed _ (.whileTaking (·.frameEnd a) still)
    case backoffExpiry p => exact .printed _ (.whileTaking (·.backoffEnd) still)
    case clockLineLow p k => exact .printed _ (still.clockLow k)
    case clockLineRelease p => exact .printed _ still.clockRelease
    case inhibitTimerExpiry p => exact .printed _ (.whileTaking (·.inhibitEnd) still)
    case drawerPhaseExpiry p => exact .printed _ (.whileTaking (·.drawerPhaseEnd) still)
    case saveCompletion x => exact .whileTaking fun _ => completeSave_occurs x s
    case clockSecond => exact .second
    case powerOn => exact powerOn_occurs s
    case resetLine => exact resetLine_occurs s
    case restartWarmStart => exact .whileTaking fun taking => warmCalled_occurs taking
    case coldClearColdStart => exact .whileTaking fun taking => coldCalled_occurs taking
    case resetLineRelease => exact resetRelease_occurs s
    case lossOfPower battery wordCut => exact losePower_occurs battery wordCut s

end

/-! ### Every command -/

/-- The changes of which every command is made keep `P`: those outside it, the edits, and the events. -/
structure KeptByAll (P : State → Prop) : Prop where
  outside {s t : State} : Outside s t → P s → P t
  edit {row : Instr} {s t : State} : Edit row s t → P s → P t
  spool {s t : State} : SpoolMoves s t → P s → P t
  scale {weighs : Bool} {c : Chan} {s t : State} : ScaleResult weighs c s t → P s → P t
  expired {s : State} {i : Slot} {t : Ticket} : s.slots[i] = some t → P s → P (s.setSlot i (some t.unhold))
  saved {s : State} {w : Save} (x : Settings) : s.save = some w → P s →
    P { s with image := { content := x, checkGood := decide (x = w.content) }, save := none }
  warm {s : State} (power : Bool) : P s → P ({ s with powered := power } : State).warmBase
  cold {s : State} (power : Bool) : P s → P ({ s with powered := power } : State).coldBase
  beams {s : State} : P s → P { s with channels := mapEntries (fun _ c => c.takeBeams) s.channels }
  darkens {s : State} (wordCut : Bool) : P s → P { s with
    powered := false, image := s.imageAfterSave, save := none
    numberWord := if wordCut then .invalid else s.numberWord }

section
variable {P : State → Prop} (kept : KeptByAll P)
include kept

theorem KeptByAll.apart {s t : State} (h : Apart t s) (law : P s) : P t := kept.outside (outside_of_apart h) law

theorem KeptByAll.edited {row : Instr} {s t : State} (h : Edited row s t) (law : P s) : P t := by
  obtain ⟨u, v, edit, outside, moves⟩ := h
  exact kept.spool moves (kept.outside outside (kept.edit edit law))

theorem KeptByAll.start {s : State} (power : Bool) (k : StartKind) (law : P s) :
    P (({ s with powered := power } : State).start k) := by
  cases k with
  | warm => exact kept.spool (warmStart_moves _) (kept.warm power law)
  | cold => exact kept.spool (coldStart_moves _) (kept.cold power law)

theorem KeptByAll.handled {row : Instr} {r : Req} {s u : State} (h : HandledTo row r s u) (law : P s) : P u := by
  rcases h with ⟨o, d, rfl⟩ | ⟨o, d, e, -, accepted, rfl⟩ | deferred
  · exact kept.apart (apart_answer _ _ _ _) law
  · exact kept.apart (apart_answer _ _ _ _) (kept.edited accepted.edited law)
  · exact kept.edited deferred.edited law

theorem KeptByAll.answerDeferred {p : Port} {o : OutcomeCode} {s : State} (law : P s) : P (s.answerDeferred p o) := by
  unfold State.answerDeferred
  split
  · exact kept.outside (by rfl) law
  · exact law

theorem KeptByAll.occurs {i : Instr} {s t : State} (h : Occurs s i t) (law : P s) : P t := by
  cases h with
  | idle => exact law
  | byte p b => exact kept.outside (portByte_outside p b s) law
  | gap p => exact kept.outside (portGap_outside p s) law
  | sent p => exact kept.outside (responseSent_outside p s) law
  | scale _ moved => exact kept.scale moved law
  | expired slot window => exact kept.outside (by rfl) (kept.expired slot law)
  | printed _ moves => exact kept.spool moves law
  | saved x o saving => exact kept.answerDeferred (kept.saved x saving law)
  | second => exact kept.outside (by rfl) law
  | powered k => exact kept.start true k law
  | reset =>
    have driven : P { s with resetDriven := true } := kept.outside (by rfl) law
    have warm := kept.start s.powered .warm driven
    exact warm
  | resetDark => exact kept.outside (by rfl) law
  | warmCalled =>
    have warm := kept.start s.powered .warm law
    exact warm
  | coldCalled =>
    have cold := kept.start s.powered .cold law
    exact cold
  | released =>
    have released : P { s with resetDriven := false } := kept.outside (by rfl) law
    exact kept.spool SpoolMoves.unmoved.takeClocks (kept.beams released)
  | releasedDark => exact kept.outside (by rfl) law
  | lost battery wordCut => exact kept.outside (by rfl) (kept.darkens wordCut law)
  | lostDark => exact kept.outside (by rfl) law

/-- Every command keeps what each of its changes keeps. -/
theorem KeptByAll.exec {i : Instr} {s t : State} (law : P s) (next : exec i s = .next t) : P t := by
  rcases exec_cases next with ⟨code, r, u, -, -, -, handled, rfl⟩ | occurs
  · exact kept.apart (apart_releaseEngine u) (kept.handled handled law)
  · exact kept.occurs occurs law

end

/-- What every command keeps, whatever queue waits, every step keeps. -/
theorem step_keeps {P : State → Prop} (queue : ∀ s l, P s → P { s with pending := l })
    (every : ∀ i s t, P s → Machine.exec i s = .next t → P t) {s t : State} (law : P s) (next : step s = .next t) :
    P t := by
  cases pending : s.pending with
  | nil =>
    have idle : Machine.step s = .next s := by unfold Machine.step; rw [pending]
    obtain rfl := Host.Outcome.next.inj (idle.symm.trans next)
    exact law
  | cons c rest =>
    rw [step_cons s c rest pending] at next
    exact every c _ t (queue s rest law) next

/-- Every step keeps what each change of every command keeps. -/
theorem KeptByAll.step {P : State → Prop} (kept : KeptByAll P) {s t : State} (law : P s) (next : step s = .next t) :
    P t :=
  step_keeps (fun _ _ law => kept.outside rfl law) (fun _ _ _ law next => kept.exec law next) law next

end Sys2Proof.Machine
end

section
/-! SUPPORT. The pages stay partitioned and the page memory canonical (R132, R133). -/

namespace Sys2Proof.Machine

/-! ### The partition of the pages, page by page -/

/-- The pages of the job with a number, none where the number is free. -/
def State.pagesOf (s : State) (jn : JobNo) : List Page := ((s.jobs[jn]).map Job.pages).getD []

theorem jobPages_eq (s : State) : s.jobPages = (List.finRange 32).flatMap s.pagesOf := by
  have entries : s.jobs.toList = (List.finRange 32).map fun jn => s.jobs[jn] := by
    apply List.ext_getElem <;> simp
  rw [State.jobPages, entries, List.flatMap_map]
  rfl

/-- How often a page stands in the lists of the jobs. -/
def State.jobCount (s : State) (p : Page) : Nat := ∑ jn : JobNo, (s.pagesOf jn).count p

theorem count_jobPages (s : State) (p : Page) : s.jobPages.count p = s.jobCount p := by
  rw [jobPages_eq, List.count_flatMap, State.jobCount, ← List.ofFn_eq_map (f := (List.count p ∘ s.pagesOf)),
    List.sum_ofFn]
  rfl

theorem pageLaw_iff (s : State) :
    PageLaw s ↔ s.freePages.Pairwise (· < ·) ∧ ∀ p : Page, s.freePages.count p + s.jobCount p = 1 := by
  simp only [PageLaw, List.count_append, count_jobPages]

/-- One job's list replaced by another changes the count by the difference. -/
theorem jobCount_of_replaced {s t : State} {jn : JobNo} (others : ∀ k, k ≠ jn → t.pagesOf k = s.pagesOf k) (p : Page) :
    t.jobCount p + (s.pagesOf jn).count p = s.jobCount p + (t.pagesOf jn).count p := by
  unfold State.jobCount
  rw [← Finset.add_sum_erase _ _ (Finset.mem_univ jn), ← Finset.add_sum_erase _ (fun k => (s.pagesOf k).count p)
    (Finset.mem_univ jn)]
  have same : ∀ k ∈ Finset.univ.erase jn, (t.pagesOf k).count p = (s.pagesOf k).count p := fun k member => by
    rw [others k (Finset.ne_of_mem_erase member)]
  rw [Finset.sum_congr rfl same]
  omega

theorem setJob_pagesOf_self (s : State) (jn : JobNo) (x : Option Job) :
    (s.setJob jn x).pagesOf jn = (x.map Job.pages).getD [] := by
  rw [State.pagesOf, State.setJob_get, if_pos rfl]

theorem setJob_pagesOf_other (s : State) {jn k : JobNo} (x : Option Job) (other : k ≠ jn) :
    (s.setJob jn x).pagesOf k = s.pagesOf k := by
  rw [State.pagesOf, State.setJob_get, if_neg other.symm, State.pagesOf]

/-- The law reads the free pool and the jobs' lists alone. -/
theorem pageLaw_congr {s t : State} (free : t.freePages = s.freePages) (pages : t.pagesOf = s.pagesOf)
    (law : PageLaw s) : PageLaw t := by
  rw [pageLaw_iff] at law ⊢
  unfold State.jobCount at *
  rwa [free, pages]

theorem releaseJob_pageLaw {s : State} (jn : JobNo) (law : PageLaw s) : PageLaw (s.releaseJob jn) := by
  cases job : s.jobs[jn] with
  | none =>
    rw [State.releaseJob, job]
    exact law
  | some j =>
    have pool := putBack_perm (law.job_nodup job)
    rw [releaseJob_of_job job]
    obtain ⟨sorted, once⟩ := (pageLaw_iff s).mp law
    refine (pageLaw_iff _).mpr ⟨putBack_sorted sorted, fun p => ?_⟩
    have moved := jobCount_of_replaced (s := s) (t := s.setJob jn none) (fun k => setJob_pagesOf_other s none) p
    have before : s.pagesOf jn = j.pages := by rw [State.pagesOf, job]; rfl
    rw [setJob_pagesOf_self, before] at moved
    have counted : (putBack j.pages s.freePages).count p = j.pages.count p + s.freePages.count p := by
      rw [pool.count_eq, List.count_append]
    have once := once p
    change (putBack j.pages s.freePages).count p + (s.setJob jn none).jobCount p = 1
    simp only [Option.map_none, Option.getD_none, List.count_nil] at moved
    omega

theorem allocate_pageLaw {s : State} {jn : JobNo} (n : Nat) (x : Job) (free : s.jobs[jn] = none) (law : PageLaw s) :
    PageLaw (s.allocate jn n x) := by
  obtain ⟨sorted, once⟩ := (pageLaw_iff s).mp law
  refine (pageLaw_iff _).mpr ⟨sorted.drop, fun p => ?_⟩
  have moved := jobCount_of_replaced (s := s) (t := s.setJob jn (some { x with pages := s.freePages.take n }))
    (fun k => setJob_pagesOf_other s _) p
  have before : s.pagesOf jn = [] := by rw [State.pagesOf, free]; rfl
  rw [setJob_pagesOf_self, before] at moved
  simp only [Option.map_some, Option.getD_some, List.count_nil] at moved
  have counted : (s.freePages.take n).count p + (s.freePages.drop n).count p = s.freePages.count p := by
    rw [← List.count_append, List.take_append_drop]
  have once := once p
  change (s.freePages.drop n).count p +
    (s.setJob jn (some { x with pages := s.freePages.take n })).jobCount p = 1
  omega

/-- The changes of the spool keep the pages partitioned. -/
theorem SpoolMoves.pageLaw {s t : State} (h : SpoolMoves s t) (law : PageLaw s) : PageLaw t := by
  induction h with
  | unmoved => exact law
  | @job t jn j x _ job pages ih =>
    refine pageLaw_congr (s := t) rfl (funext fun k => ?_) ih
    by_cases here : k = jn
    · subst here
      rw [setJob_pagesOf_self, State.pagesOf, job, Option.map_some, Option.map_some, pages]
    · exact setJob_pagesOf_other t _ here
  | engine | queue | latch => exact pageLaw_congr rfl rfl ‹_›
  | release jn _ ih => exact releaseJob_pageLaw jn ih
  | allocate x _ _ free ih => exact allocate_pageLaw _ x free ih
  | @write t j n ls _ ih =>
    obtain ⟨_, _, written⟩ := writeLines_frame t j n ls
    rw [written]
    exact ih

/-! ### The page memory -/

theorem writeLines_memoryLaw {s : State} (j : Job) (n : Nat) (ls : List (Text × Bool)) (law : MemoryLaw s) :
    MemoryLaw (s.writeLines j n ls) := by
  induction ls generalizing s n with
  | nil => exact law
  | cons l ls ih =>
    refine ih (n + 1) ?_
    unfold State.writeLine
    split
    · exact law
    · exact ⟨memWriteAll_wf _ _ law.1, memWrite_wf _ _ law.2⟩

theorem releaseJob_frame (s : State) (jn : JobNo) :
    s.releaseJob jn = { s with jobs := (s.releaseJob jn).jobs, freePages := (s.releaseJob jn).freePages } := by
  unfold State.releaseJob
  split <;> rfl

/-- The changes of the spool keep the page memory canonical. -/
theorem SpoolMoves.memoryLaw {s t : State} (h : SpoolMoves s t) (law : MemoryLaw s) : MemoryLaw t := by
  induction h with
  | unmoved => exact law
  | job | engine | queue | latch | allocate => assumption
  | @release t jn _ ih =>
    rw [releaseJob_frame]
    exact ih
  | write j n ls _ ih => exact writeLines_memoryLaw j n ls ih

/-! ### Every step -/

/-- No edit touches the spool. -/
theorem Edit.spool {row : Instr} {s t : State} (h : Edit row s t) : withSpool t s = t := by
  cases h with
  | closed r u _ _ _ _ books =>
    rw [books]
    rfl
  | _ => rfl

theorem warmBase_pagesOf (s : State) : s.warmBase.pagesOf = s.pagesOf := by
  funext jn
  have job : s.warmBase.jobs[jn] = s.jobs[jn].map fun j => { j with stall := none } := getElem_mapEntries _ _ _
  rw [State.pagesOf, job, Option.map_map]
  rfl

theorem coldBase_pageLaw (s : State) : PageLaw s.coldBase := by
  have none_used : ∀ jn, s.coldBase.pagesOf jn = [] := fun jn => by
    simp [State.pagesOf, State.coldBase]
  refine (pageLaw_iff _).mpr ⟨List.pairwise_lt_finRange 96, fun p => ?_⟩
  have counted : s.coldBase.jobCount p = 0 := by simp [State.jobCount, none_used]
  rw [counted]
  exact List.count_eq_one_of_mem (List.nodup_finRange 96) (List.mem_finRange p)

theorem pageLaw_kept : KeptByAll PageLaw where
  outside apart law := by rw [apart]; exact law
  edit edit law := by rw [← edit.spool]; exact law
  spool moves law := moves.pageLaw law
  scale moved law := by rw [moved.frame]; exact law
  expired _ law := law
  saved _ _ law := law
  warm {s} power law := pageLaw_congr (s := s) rfl (warmBase_pagesOf { s with powered := power }) law
  cold power _ := coldBase_pageLaw _
  beams law := law
  darkens _ law := law

theorem memoryLaw_kept : KeptByAll MemoryLaw where
  outside apart law := by rw [apart]; exact law
  edit edit law := by rw [← edit.spool]; exact law
  spool moves law := moves.memoryLaw law
  scale moved law := by rw [moved.frame]; exact law
  expired _ law := law
  saved _ _ law := law
  warm _ law := law
  cold _ law := law
  beams law := law
  darkens _ law := law

/-- Settles O3: allocation and release move pages between the pool and one job, and every write keeps the memory
canonical. -/
theorem spoolMemoryStaysLawful : Obligations.SpoolMemoryStaysLawful :=
  ⟨fun _ _ law next => pageLaw_kept.step law next, fun _ _ law next => memoryLaw_kept.step law next⟩

end Sys2Proof.Machine
end

section
/-! SUPPORT. The books, the settings, the ticket numbers and the channels stay lawful (5.3, 6.1, 6.4, 11.2, 11.3, 11.6,
chapter 1). -/

namespace Sys2Proof.Machine

/-! ### Journal, totals and tally -/

theorem closed_room {s : State} (room : s.journalFull = false) : s.journal.length + 1 ≤ Config.journalRoom := by
  have short := mt journalFull_iff.mpr (Bool.eq_false_iff.mp room)
  have limit : Config.journalRoom = 128 := rfl
  omega

theorem journalLaw_kept : KeptByAll JournalLaw where
  outside apart law := by rw [apart]; exact law
  edit {_ s t} edit law := by
    cases edit with
    | closed r u _ _ _ room books =>
      rw [JournalLaw, State.setSlot_journal, books, List.length_append]
      exact closed_room room
    | popped _ journal =>
      rw [JournalLaw, journal] at law
      exact Nat.le_of_succ_le law
    | dayClosed p _ room =>
      rw [JournalLaw, closeDay, List.length_append]
      exact closed_room room
    | _ => exact law
  spool moves law := by rw [moves.frame]; exact law
  scale moved law := by rw [moved.frame]; exact law
  expired _ law := law
  saved _ _ law := law
  warm _ law := law
  cold _ _ := Nat.zero_le _
  beams law := law
  darkens _ law := law

theorem totalsLaw_kept : KeptByAll TotalsLaw where
  outside apart law := by rw [apart]; exact law
  edit {_ s t} edit law := by
    cases edit with
    | closed r u _ _ _ _ books totals =>
      obtain ⟨lawful, day⟩ := (totalsLaw_iff s).mp law
      have itsDay : u.day = s.day := by rw [books]
      exact (totalsLaw_iff (u.setSlot _ none)).mpr ⟨totals lawful, by rwa [State.setSlot_day, itsDay]⟩
    | dayClosed p _ room =>
      obtain ⟨-, least, most⟩ := (totalsLaw_iff s).mp law
      exact (totalsLaw_iff _).mpr ⟨Totals.zero_lawful, nextDay_inRange least most⟩
    | _ => exact law
  spool moves law := by rw [moves.frame]; exact law
  scale moved law := by rw [moved.frame]; exact law
  expired _ law := law
  saved _ _ law := law
  warm _ law := law
  cold _ _ := (totalsLaw_iff _).mpr ⟨Totals.zero_lawful, Nat.le_refl 1, Nat.le_add_left 1 65534⟩
  beams law := law
  darkens _ law := law

theorem tallyLaw_kept : KeptByAll TallyLaw where
  outside apart law := by rw [apart]; exact law
  edit {_ s t} edit law := by
    cases edit with
    | closed r u _ _ _ _ _ _ tally => exact tally law
    | dayClosed p _ room => exact tallyLaw_empty rfl
    | _ => exact law
  spool moves law := by rw [moves.frame]; exact law
  scale moved law := by rw [moved.frame]; exact law
  expired _ law := law
  saved _ _ law := law
  warm _ law := law
  cold _ _ := tallyLaw_empty rfl
  beams law := law
  darkens _ law := law

/-- Settles O4: records are appended to a journal with room, totals saturate, and a payment's entry is the seller's. -/
theorem booksStayLawful : Obligations.BooksStayLawful :=
  ⟨fun _ _ law next => journalLaw_kept.step law next, fun _ _ law next => totalsLaw_kept.step law next,
    fun _ _ law next => tallyLaw_kept.step law next⟩

/-! ### Settings and saves -/

/-- The settings law and the save law together: a save completes with content that the settings law speaks of. -/
def StoreLaw (s : State) : Prop := SettingsLaw s ∧ SaveLaw s

/-- The refusal counts stay in range through the changes of the spool. -/
theorem SpoolMoves.refusals {s t : State} (h : SpoolMoves s t) (law : ∀ p : Printer, (s.printers[p]).refusals ≤ 15)
    (p : Printer) : (t.printers[p]).refusals ≤ 15 := by
  induction h with
  | unmoved => exact law p
  | @engine t q x _ count ih =>
    rw [State.setEngine_get]
    split
    · rename_i here
      subst here
      rcases count with small | same
      · exact small
      · rw [same]
        exact ih
    · exact ih
  | job | queue | latch | allocate => exact ‹_›
  | @release t jn _ ih =>
    rw [releaseJob_frame]
    exact ih
  | @write t j n ls _ ih =>
    obtain ⟨_, _, written⟩ := writeLines_frame t j n ls
    rw [written]
    exact ih

theorem load_lawful {s : State} (law : SettingsLaw s) : Settings.lawful s.imageAfterSave.load := by
  obtain ⟨-, image, -⟩ := law
  unfold SettingsImage.load
  split
  · rename_i good
    unfold State.imageAfterSave at good ⊢
    split_ifs at good ⊢
    exact image good
  · exact factorySettings_lawful

theorem imageAfterSave_lawful {s : State} (law : SettingsLaw s) (good : s.imageAfterSave.checkGood = true) :
    Settings.lawful s.imageAfterSave.content := by
  have loaded := load_lawful law
  rwa [SettingsImage.load, if_pos good] at loaded

/-- What a start loads is in range, and its engines have refused nothing. -/
theorem start_settingsLaw {s t : State} (law : SettingsLaw s) (image : t.image = s.imageAfterSave)
    (settings : t.settings = s.imageAfterSave.load)
    (staged : ∀ g : GradeIx, GradeEntry.lawful t.staged[g])
    (printers : t.printers = mapEntries (fun p e => Engine.start s.imageAfterSave.load.enables[p] e.clockLow)
      s.printers) : SettingsLaw t := by
  refine ⟨?_, ?_, staged, fun p => ?_⟩
  · rw [settings]
    exact load_lawful law
  · rw [image]
    exact imageAfterSave_lawful law
  · rw [printers, getElem_mapEntries]
    exact Nat.zero_le _

theorem Settings.lawful_active {st : Settings} (law : Settings.lawful st) (g : GradeIx) :
    GradeEntry.lawful st.active[g] := by
  obtain ⟨-, -, -, -, -, -, -, -, -, -, -, -, -, -, -, active, -⟩ := law
  exact active g

theorem saveLaw_of_idle {s : State} (idle : s.save = none) : SaveLaw s := fun w saving => by
  rw [idle] at saving
  cases saving

theorem storeLaw_kept : KeptByAll StoreLaw where
  outside apart law := by rw [apart]; exact law
  edit {_ s t} edit law := by
    have parts := law
    obtain ⟨⟨settings, image, staged, refusals⟩, saves⟩ := parts
    cases edit with
    | closed r u _ _ _ _ books =>
      rw [books]
      exact law
    | settings st _ idle lawful => exact ⟨⟨lawful law.1, image, staged, refusals⟩, saveLaw_of_idle idle⟩
    | staged g lawful => exact ⟨⟨settings, image, forall_set (p := GradeEntry.lawful) lawful staged, refusals⟩, saves⟩
    | saving p idle =>
      refine ⟨law.1, fun w saving => ?_⟩
      cases saving
      rfl
    | _ => exact law
  spool {s t} moves law := by
    obtain ⟨⟨settings, image, staged, refusals⟩, saves⟩ := law
    have counts := moves.refusals refusals
    rw [moves.frame]
    exact ⟨⟨settings, image, staged, counts⟩, saves⟩
  scale moved law := by rw [moved.frame]; exact law
  expired _ law := law
  saved {s w} x saving law := by
    obtain ⟨⟨settings, image, staged, refusals⟩, saves⟩ := law
    refine ⟨⟨settings, fun good => ?_, staged, refusals⟩, saveLaw_of_idle rfl⟩
    have same : x = w.content := of_decide_eq_true good
    dsimp only
    rw [same, saves w saving]
    exact settings
  warm power law := ⟨start_settingsLaw law.1 rfl rfl law.1.2.2.1 rfl, saveLaw_of_idle rfl⟩
  cold power law := ⟨start_settingsLaw law.1 rfl rfl (Settings.lawful_active (load_lawful law.1)) rfl,
    saveLaw_of_idle rfl⟩
  beams law := law
  darkens _ law := by
    have image := imageAfterSave_lawful law.1
    obtain ⟨⟨settings, -, staged, refusals⟩, -⟩ := law
    exact ⟨⟨settings, image, staged, refusals⟩, saveLaw_of_idle rfl⟩

/-- Settles O5: a setting is fitted to its range before it is set, and nothing is set while a save is in flight. -/
theorem settingsStayInRange : Obligations.SettingsStayInRange :=
  fun _ _ settings saves next => storeLaw_kept.step ⟨settings, saves⟩ next

/-! ### Scale channels -/

theorem setChannel_keeps {s t : State} {c : Chan} {x : Channel} (channels : t.channels = s.channels.set c x)
    (lawful : ∀ b, s.channels[c].lawful b → x.lawful b) (law : ChannelLaw s) : ChannelLaw t := fun d => by
  rw [channels, getElem_set_fin]
  split
  · rename_i here
    subst here
    exact lawful _ (law _)
  · exact law d

theorem ScaleResult.channelLaw {weighs : Bool} {c : Chan} {s t : State} (h : ScaleResult weighs c s t) (law : ChannelLaw s) :
    ChannelLaw t := by
  cases h with
  | quiet x lost _ lawful => exact setChannel_keeps State.moveChannel_channels lawful law
  | ended x lost res _ _ lawful =>
    exact setChannel_keeps ((captureOutcome_channels _ _ _ _ _).trans State.moveChannel_channels) lawful law

theorem Channel.start_lawful {b : Bool} {x : Channel} (beams : x.beams.isSome = b) : x.restart.lawful b :=
  ⟨Nat.zero_le _, Nat.zero_le _, by rw [← beams]; exact Option.isSome_map, fun _ => ⟨rfl, rfl, rfl⟩, fun _ => rfl,
    fun h => absurd h (by simp [Channel.restart, Channel.start])⟩

theorem restarted_channelLaw {s t : State} (channels : t.channels = mapEntries (fun _ c => c.restart) s.channels)
    (law : ChannelLaw s) : ChannelLaw t := fun c => by
  obtain ⟨-, -, beams, -⟩ := law c
  rw [channels, getElem_mapEntries]
  exact Channel.start_lawful beams

theorem channelLaw_kept : KeptByAll ChannelLaw where
  outside apart law := by rw [apart]; exact law
  edit {_ s t} edit law := by
    cases edit with
    | captured i t' c x _ lawful => exact setChannel_keeps (s := s) rfl lawful law
    | closed r u _ _ _ _ _ _ _ channels => exact channels law
    | channel c x lawful => exact setChannel_keeps (s := s) rfl lawful law
    | _ => exact law
  spool moves law := by rw [moves.frame]; exact law
  scale moved law := moved.channelLaw law
  expired _ law := law
  saved _ _ law := law
  warm {s} _ law := restarted_channelLaw (s := s) rfl law
  cold {s} _ law := restarted_channelLaw (s := s) rfl law
  beams {s} law c := by
    dsimp only
    rw [getElem_mapEntries]
    obtain ⟨run, errors, beams, rest⟩ := law c
    exact ⟨run, errors, by rw [← beams]; exact Option.isSome_map, rest⟩
  darkens _ law := law

/-- Settles O7: a channel that loses its signal gives up run, timer and capture, and a capture starts only with a
signal. -/
theorem channelsStayLawful : Obligations.ChannelsStayLawful := fun _ _ law next => channelLaw_kept.step law next

end Sys2Proof.Machine
end

section
/-! SUPPORT. Ticket numbers stay unique, and passed by counter and word (R21, R30, R104, R184). -/

namespace Sys2Proof.Machine

/-- The numbers of one slot: one or none. -/
def slotNumbers (x : Option Ticket) : List Nat := (x.bind fun t => t.number).toList

/-- The numbers held, those of one slot apart from all others. -/
theorem heldNumbers_split (s : State) (i : Slot) :
    ∃ rest, s.heldNumbers.Perm (slotNumbers s.slots[i] ++ rest) ∧
      ∀ x, (s.setSlot i x).heldNumbers.Perm (slotNumbers x ++ rest) := by
  let number : Option Ticket → Option Nat := fun x => x.bind fun t => t.number
  let before := (s.slots.toList.take i.val).filterMap number
  let after := (s.slots.toList.drop (i.val + 1)).filterMap number
  have long : i.val < s.slots.toList.length := by simp
  have one : ∀ x, [x].filterMap number = slotNumbers x := fun x => by
    cases x with
    | none => rfl
    | some t => cases h : t.number <;> simp [number, slotNumbers, h]
  have here : ∀ x, (s.setSlot i x).tableNumbers = before ++ (slotNumbers x ++ after) := fun x => by
    have entries : (s.setSlot i x).slots.toList =
        s.slots.toList.take i.val ++ ([x] ++ s.slots.toList.drop (i.val + 1)) := by
      rw [State.setSlot, Vector.toList_set, List.set_eq_take_append_cons_drop, if_pos long]
      rfl
    rw [State.tableNumbers, entries, List.filterMap_append, List.filterMap_append, one]
  have table : s.tableNumbers = before ++ (slotNumbers s.slots[i] ++ after) := by
    rw [← here, State.setSlot, set_self]
  refine ⟨before ++ after ++ s.journal.filterMap Record.closeNumber, ?_, fun x => ?_⟩
  · rw [State.heldNumbers, table]
    simpa only [List.append_assoc] using List.perm_append_comm_assoc before _ _
  · have journal : (s.setSlot i x).journal = s.journal := rfl
    rw [State.heldNumbers, here, journal]
    simpa only [List.append_assoc] using List.perm_append_comm_assoc before _ _

/-- Numbers held by `t` are some of those held by `s`, with counter, word and supply the same. -/
theorem numberLaw_of_subperm {s t : State} (counter : t.counter = s.counter) (word : t.numberWord = s.numberWord)
    (power : t.powered = s.powered) (held : t.heldNumbers.Subperm s.heldNumbers) (law : NumberLaw s) :
    NumberLaw t := by
  obtain ⟨inRange, wordInRange, agree, passed, unique⟩ := law
  refine ⟨by rwa [counter], by rwa [word], by rwa [counter, word, power], fun n member => ?_, ?_⟩
  · rw [counter, word]
    exact passed n (held.subset member)
  · obtain ⟨l, perm, part⟩ := held
    exact perm.nodup_iff.mp (unique.sublist part)

/-- The counter's next number issued, and given to a slot that held none before. -/
theorem numberLaw_of_issued {s t : State} {n : Nat} {rest : List Nat} (valid : s.counter = .valid n)
    (counter : t.counter = .after n) (word : t.numberWord = .after n) (others : rest.Subperm s.heldNumbers)
    (held : t.heldNumbers.Perm (n :: rest)) (law : NumberLaw s) : NumberLaw t := by
  obtain ⟨inRange, -, -, passed, unique⟩ := law
  rw [valid] at inRange
  have below : ∀ m ∈ rest, m < n := fun m member => by
    have itsPassed := (passed m (others.subset member)).1
    rwa [valid] at itsPassed
  have afterRange : (Counter.after n).inRange := by
    unfold Counter.after
    split
    · trivial
    · exact ⟨Nat.le_add_left 1 n, Nat.lt_of_le_of_ne inRange.2 ‹_›⟩
  have afterPassed : ∀ m, m ≤ n → (Counter.after n).passed m := fun m small => by
    unfold Counter.after
    split
    · trivial
    · exact Nat.lt_succ_of_le small
  refine ⟨by rwa [counter], by rwa [word], fun _ => by rw [counter, word], fun m member => ?_, ?_⟩
  · rw [counter, word]
    rcases List.mem_cons.mp (held.subset member) with rfl | member
    · exact ⟨afterPassed m le_rfl, afterPassed m le_rfl⟩
    · exact ⟨afterPassed m (below m member).le, afterPassed m (below m member).le⟩
  · refine held.nodup_iff.mpr (List.nodup_cons.mpr ⟨fun member => lt_irrefl n (below n member), ?_⟩)
    obtain ⟨l, perm, part⟩ := others
    exact perm.nodup_iff.mp (unique.sublist part)

section
variable {s : State} {i : Slot}

/-- A slot whose number stays, or goes, keeps the law. -/
theorem setSlot_numberLaw {x : Option Ticket}
    (fewer : (slotNumbers x).Sublist (slotNumbers s.slots[i])) (law : NumberLaw s) : NumberLaw (s.setSlot i x) := by
  obtain ⟨rest, before, after⟩ := heldNumbers_split s i
  refine numberLaw_of_subperm (s := s) rfl rfl rfl ?_ law
  exact (after x).subperm.trans ((fewer.append_right rest).subperm.trans before.symm.subperm)

theorem slotNumbers_keeps {t t' : Ticket} (slot : s.slots[i] = some t) (number : t'.number = t.number) :
    (slotNumbers (some t')).Sublist (slotNumbers s.slots[i]) := by
  rw [slot, slotNumbers, slotNumbers, Option.bind_some, Option.bind_some, number]

theorem putTicket_numberLaw {t t' : Ticket} {ready : Bool} (slot : s.slots[i] = some t) (number : t'.number = t.number)
    (law : NumberLaw s) : NumberLaw (s.putTicket i t' ready) := by
  have edited := setSlot_numberLaw (slotNumbers_keeps slot number) law
  cases ready <;> exact edited

/-- A number issued to a slot. -/
theorem issue_numberLaw {n : Nat} {t : Ticket} (valid : s.counter = .valid n) (number : t.number = some n)
    (law : NumberLaw s) : NumberLaw ((s.writeCounter (.after n)).setSlot i (some t)) := by
  obtain ⟨rest, before, after⟩ := heldNumbers_split s i
  refine numberLaw_of_issued (rest := rest) valid rfl rfl ?_ ?_ law
  · exact ((List.sublist_append_right _ rest).subperm).trans before.symm.subperm
  · have held := after (some t)
    rw [slotNumbers, Option.bind_some, number] at held
    exact held

/-- A ticket closed: its number goes from its slot to its CLOSE record. -/
theorem close_numberLaw {t : Ticket} {r : CloseRecord} {u : State} (slot : s.slots[i] = some t)
    (number : t.number = some r.number) (books : u = { s with
      journal := s.journal ++ [.close r], totals := u.totals, tally := u.tally, channels := u.channels })
    (law : NumberLaw s) : NumberLaw (u.setSlot i none) := by
  obtain ⟨rest, before, after⟩ := heldNumbers_split s i
  have appended : (u.setSlot i none).heldNumbers = (s.setSlot i none).heldNumbers ++ [r.number] := by
    rw [books]
    simp only [State.heldNumbers, State.tableNumbers, State.setSlot, List.filterMap_append, List.append_assoc]
    rfl
  refine numberLaw_of_subperm ?_ ?_ ?_ ?_ law
  · rw [books]; rfl
  · rw [books]; rfl
  · rw [books]; rfl
  · have freed := after none
    rw [slot, slotNumbers, Option.bind_some, number] at before
    rw [appended]
    exact ((freed.append_right [r.number]).trans (List.perm_append_singleton r.number rest)).subperm.trans
      before.symm.subperm

/-- A capture's outcome issues a number, frees a slot, or leaves the ticket's number as it is. -/
theorem Acted.numberLaw {res : CaptureResult} {t : Ticket} {m : Marker} {u : State} (h : Acted res i t m s u) (slot : s.slots[i] = some t)
    (law : NumberLaw s) : NumberLaw u := by
  cases h with
  | issued _ _ valid => exact issue_numberLaw valid rfl law
  | freed => exact setSlot_numberLaw (List.nil_sublist _) law
  | dumped ends => exact putTicket_numberLaw slot rfl law
  | binned ends => exact putTicket_numberLaw slot rfl law
  | failed => exact setSlot_numberLaw (slotNumbers_keeps slot rfl) law

end

theorem ScaleResult.numberLaw {weighs : Bool} {c : Chan} {s t : State} (h : ScaleResult weighs c s t) (law : NumberLaw s) : NumberLaw t := by
  have moved : ∀ x lost, NumberLaw (s.moveChannel c x lost) := fun x lost => by
    rw [State.moveChannel_eq]
    exact law
  cases h with
  | quiet x lost => exact moved x lost
  | @ended cap x lost res =>
    rcases captureOutcome_cases c cap.kind cap.slot res (s.moveChannel c x lost) with same | ⟨t, m, slot, -, -, -, acts⟩
    · rw [same]
      exact moved x lost
    · obtain ⟨u, o, d, acted, answered⟩ := actOnOutcome_acted cap.slot t m res (s.moveChannel c x lost)
      rw [acts, answered]
      exact acted.numberLaw slot (moved x lost)

/-! ### The starts -/

theorem warmSlot_numbers (x : Option Ticket) : (slotNumbers (warmSlot x)).Sublist (slotNumbers x) := by
  cases x with
  | none => exact .refl _
  | some t =>
    unfold warmSlot
    dsimp only
    split
    · exact List.nil_sublist _
    · exact .refl _
    · exact .refl _
    · exact .refl _
    · exact .refl _

theorem filterMap_map_sublist {α β : Type} {f g : α → Option β}
    (fewer : ∀ a, (f a).toList.Sublist (g a).toList) (l : List α) : (l.filterMap f).Sublist (l.filterMap g) := by
  induction l with
  | nil => exact .refl _
  | cons a l ih =>
    have parts : ∀ h : α → Option β, (a :: l).filterMap h = (h a).toList ++ l.filterMap h := fun h => by
      cases found : h a <;> simp [found]
    rw [parts f, parts g]
    exact (fewer a).append ih

/-- A start reads the counter from the word, and keeps some of the numbers held. -/
theorem start_numberLaw {s t : State} (counter : t.counter = s.numberWord) (word : t.numberWord = s.numberWord)
    (held : t.heldNumbers.Sublist s.heldNumbers) (law : NumberLaw s) : NumberLaw t := by
  obtain ⟨-, wordInRange, -, passed, unique⟩ := law
  refine ⟨by rwa [counter], by rwa [word], fun _ => by rw [counter, word], fun n member => ?_, unique.sublist held⟩
  rw [counter, word]
  exact ⟨(passed n (held.subset member)).2, (passed n (held.subset member)).2⟩

theorem heldNumbers_of_warm {s t : State} (slots : t.slots = mapEntries (fun _ x => warmSlot x) s.slots)
    (journal : t.journal = s.journal) : t.heldNumbers.Sublist s.heldNumbers := by
  have entries : t.slots.toList = s.slots.toList.map warmSlot := by
    rw [slots]
    apply List.ext_getElem <;> simp [mapEntries]
  unfold State.heldNumbers State.tableNumbers
  rw [entries, List.filterMap_map, journal]
  exact (filterMap_map_sublist (fun x => warmSlot_numbers x) _).append_right _

theorem cold_heldNumbers (s : State) : s.coldBase.heldNumbers = [] := by
  have empty : s.coldBase.slots.toList = List.replicate 48 none := Vector.toList_replicate
  have none_held : s.coldBase.tableNumbers = [] := by
    rw [State.tableNumbers, empty]
    simp
  rw [State.heldNumbers, none_held]
  rfl

/-! ### Every step -/

theorem writeCounter_numberLaw {s : State} {c : Counter} (inRange : c.inRange)
    (passed : ∀ m ∈ s.heldNumbers, c.passed m) (law : NumberLaw s) : NumberLaw (s.writeCounter c) :=
  ⟨inRange, inRange, fun _ => rfl, fun m held => ⟨passed m held, passed m held⟩, law.2.2.2.2⟩

theorem Edit.numberLaw {row : Instr} {s t : State} (edit : Edit row s t) (law : NumberLaw s) : NumberLaw t := by
  cases edit with
  | ticket t' slot keeps => exact setSlot_numberLaw (slotNumbers_keeps slot keeps.number) law
  | opened t _ valid _ number => exact issue_numberLaw valid number law
  | captured i t' c x before =>
    refine (setSlot_numberLaw ?_ law : NumberLaw (s.setSlot i (some t')))
    rcases before with ⟨-, unnumbered⟩ | ⟨t, slot, keeps⟩
    · rw [slotNumbers, Option.bind_some, unnumbered]
      exact List.nil_sublist _
    · exact slotNumbers_keeps slot keeps.number
  | closed r u _ slot number _ books => exact close_numberLaw slot number books law
  | popped _ journal =>
    refine numberLaw_of_subperm (s := s) rfl rfl rfl (List.Sublist.subperm ?_) law
    unfold State.heldNumbers
    rw [journal]
    exact (List.Sublist.refl _).append ((List.sublist_cons_self _ _).filterMap _)
  | dayClosed p =>
    refine numberLaw_of_subperm (s := s) rfl rfl rfl (List.Sublist.subperm ?_) law
    unfold State.heldNumbers closeDay
    rw [List.filterMap_append]
    simp [Record.closeNumber, State.tableNumbers]
  | counter c _ allowed => exact writeCounter_numberLaw (allowed law).1 (allowed law).2 law
  | _ => exact law

theorem numberLaw_kept : KeptByAll NumberLaw where
  outside apart law := by rw [apart]; exact law
  edit edit law := edit.numberLaw law
  spool moves law := by rw [moves.frame]; exact law
  scale moved law := moved.numberLaw law
  expired slot law := setSlot_numberLaw (slotNumbers_keeps slot rfl) law
  saved _ _ law := law
  warm {s} _ law := start_numberLaw (s := s) rfl rfl (heldNumbers_of_warm rfl rfl) law
  cold {s} power law := start_numberLaw (s := s) rfl rfl (by rw [cold_heldNumbers]; exact List.nil_sublist _) law
  beams law := law
  darkens wordCut law := by
    obtain ⟨inRange, wordInRange, -, passed, unique⟩ := law
    cases wordCut
    · exact ⟨inRange, wordInRange, fun lit => Bool.noConfusion lit, passed, unique⟩
    · exact ⟨inRange, trivial, fun lit => Bool.noConfusion lit, fun n held => ⟨(passed n held).1, trivial⟩, unique⟩

/-- Settles O6: a number is issued once, goes from the slot to the CLOSE record, and the word keeps what the counter has
passed. -/
theorem ticketNumbersStayUnique : Obligations.TicketNumbersStayUnique := fun _ _ law next => numberLaw_kept.step law next

end Sys2Proof.Machine
end

section
/-! SUPPORT. Commands in general: the front of the queue, commands that cannot occur, and what every command leaves of
the stores, the journal and the open tickets (0.5.4, 2.2, 3.2, 6.1, chapter 11). -/

namespace Sys2Proof.Machine

/-! ### The queue and the commands that cannot occur -/

/-- Settles O1: the two cases of the step function. -/
theorem stepRunsFrontCommand : Obligations.StepRunsFrontCommand :=
  ⟨step_cons, fun s idle => by rw [step, idle]⟩

theorem grantedTo_of_granted {s : State} {code : Byte} {r : Req} (taking : s.taking = true)
    (granted : s.granted code = some r) : GrantedTo s r.port r.tag code r.data := by
  obtain ⟨engine, -, request⟩ := granted_some granted
  exact ⟨taking, engine, request⟩

theorem whileTaking_of_dark {f : State → State} {s : State} (dark : s.taking = false) : whileTaking f s = s :=
  if_neg (by rw [dark]; exact Bool.false_ne_true)

/-- A request row without its grant changes nothing. -/
theorem exec_of_notGranted {i : Instr} {code : Byte} {s : State} (itsCode : requestCode i = some code)
    (unasked : ∀ p tag data, ¬ GrantedTo s p tag code data) : exec i s = .next s := by
  obtain ⟨rule, served, -⟩ := request_served itsCode
  rw [served]
  rcases serve_cases code rule s with same | ⟨r, taking, granted, -⟩
  · rw [same]
  · exact absurd (grantedTo_of_granted taking granted) (unasked _ _ _)

/-- Settles O11: a request row acts on its grant alone, and a part that takes nothing on its pins and supply alone. -/
theorem commandsThatCannotOccurChangeNothing : Obligations.CommandsThatCannotOccurChangeNothing := by
  refine ⟨fun i code s itsCode unasked => exec_of_notGranted itsCode unasked, fun i s dark inner => ?_⟩
  by_cases request : ∃ code, requestCode i = some code
  · obtain ⟨code, itsCode⟩ := request
    refine exec_of_notGranted itsCode fun p tag data granted => ?_
    rw [granted.1] at dark
    cases dark
  · cases i <;> first
      | exact absurd ⟨_, rfl⟩ request
      | exact inner.elim
      | exact congrArg _ (whileTaking_of_dark dark)

/-! ### What refused requests leave -/

/-- A request left pending has answered nothing. -/
theorem Defers.output {r : Req} {row : Instr} {s u : State} (h : Defers r s row u) (q : Port) :
    u.ports[q].output = s.ports[q].output := by
  have deferred : ∀ v : State, (v.deferRequest r.port).ports[q].output = v.ports[q].output := fun v => by
    rw [State.deferRequest_get]
    split
    · rename_i here
      rw [← here]
    · rfl
  cases h with
  | openTruck | dump | addBin | saveSettings => exact deferred _

theorem last_eq_of_append {α : Type} {a b : List α} {x y : α} (h : a ++ [x] = b ++ [y]) : x = y :=
  (List.append_inj' h rfl).2 |> List.singleton_inj.mp

/-- Settles O12: an answer other than OK and CLAMPED is that of a row that changes nothing else. -/
theorem refusedRequestsChangeNothing : Obligations.RefusedRequestsChangeNothing := by
  intro i code tag data s t p r itsCode granted next output notOk notClamped
  obtain ⟨rule, served, handles⟩ := request_served itsCode
  obtain rfl := Host.Outcome.next.inj ((exec_granted served granted).symm.trans next)
  rcases handles ⟨p, tag, code, data⟩ s rfl with ⟨o, d, answered⟩ | ⟨o, d, e, fine, accepted, answered⟩ | deferred
  · rw [answered, State.releaseEngine_ports, answer_port] at output
    obtain rfl := List.singleton_inj.mp (List.append_cancel_left output)
    obtain ⟨u, executed, apart, port⟩ := answers served granted answered rfl rfl
    obtain rfl := Host.Outcome.next.inj (executed.symm.trans next)
    exact ⟨apart, port⟩
  · rw [answered, State.releaseEngine_ports, answer_port] at output
    obtain rfl := last_eq_of_append output
    rcases fine with ok | clamped
    · exact absurd ok notOk
    · exact absurd clamped notClamped
  · rw [State.releaseEngine_ports, deferred.output] at output
    exact absurd (congrArg List.length output) (by simp)

/-! ### Stores and journal (6.1, 11.1 to 11.3) -/

/-- What row `i` may change of the stores and the journal. -/
structure StoreChange (i : Instr) (s t : State) : Prop where
  settings : i ∉ [Instr.setParam, .switchPrices, .setContainer, .setAlias, .powerOn, .resetLine, .restartWarmStart,
    .coldClearColdStart] → t.settings = s.settings
  image : i ∉ [Instr.powerOn, .resetLine, .restartWarmStart, .coldClearColdStart] →
    (∀ x, i ≠ .saveCompletion x) → (∀ a b, i ≠ .lossOfPower a b) → t.image = s.image
  numberWord : i ∉ [Instr.openWalkin, .setNextNumber, .coldClear] → (∀ c b, i ≠ .scaleByteReceived c b) →
    (∀ a, i ≠ .lossOfPower a true) → t.numberWord = s.numberWord
  journal : t.journal = s.journal ∨
    (i ∈ [Instr.pay, .void, .dayClose] ∧ ∃ r, t.journal = s.journal ++ [r]) ∨
    (i = .journalPop ∧ ∃ r, s.journal = r :: t.journal) ∨
    (i ∈ [Instr.powerOn, .coldClearColdStart] ∧ t.journal = [])

section
variable {i : Instr} {s t u : State}

/-- Nothing of the stores and the journal changed. -/
theorem StoreChange.none (settings : t.settings = s.settings) (image : t.image = s.image)
    (word : t.numberWord = s.numberWord) (journal : t.journal = s.journal) : StoreChange i s t :=
  ⟨fun _ => settings, fun _ _ _ => image, fun _ _ _ => word, .inl journal⟩

theorem StoreChange.congr (h : StoreChange i s t) (settings : u.settings = t.settings) (image : u.image = t.image)
    (word : u.numberWord = t.numberWord) (journal : u.journal = t.journal) : StoreChange i s u := by
  refine ⟨fun other => settings.trans (h.settings other), fun a b c => image.trans (h.image a b c),
    fun a b c => word.trans (h.numberWord a b c), ?_⟩
  rw [journal]
  exact h.journal

theorem StoreChange.outside (h : StoreChange i s t) (apart : Outside t u) : StoreChange i s u := by
  refine h.congr ?_ ?_ ?_ ?_ <;> rw [apart]

theorem StoreChange.spool (h : StoreChange i s t) (moves : SpoolMoves t u) : StoreChange i s u := by
  refine h.congr ?_ ?_ ?_ ?_ <;> rw [moves.frame] <;> rfl

theorem Edit.storeChange (h : Edit i s t) : StoreChange i s t := by
  cases h with
  | opened t row => exact ⟨fun _ => rfl, fun _ _ _ => rfl, fun other => absurd (by simp [row]) other, .inl rfl⟩
  | counter c row =>
    refine ⟨fun _ => rfl, fun _ _ _ => rfl, fun other => absurd ?_ other, .inl rfl⟩
    exact List.mem_cons_of_mem _ row
  | closed r u row _ _ _ books =>
    refine ⟨fun _ => ?_, fun _ _ _ => ?_, fun _ _ _ => ?_, .inr (.inl ⟨?_, .close r, ?_⟩)⟩
    · rw [State.setSlot_settings, books]
    · rw [State.setSlot_image, books]
    · rw [State.setSlot_numberWord, books]
    · rcases row with rfl | rfl <;> simp
    · rw [State.setSlot_journal, books]
  | popped row journal =>
    exact ⟨fun _ => rfl, fun _ _ _ => rfl, fun _ _ _ => rfl, .inr (.inr (.inl ⟨row, _, journal⟩))⟩
  | dayClosed p row =>
    exact ⟨fun _ => rfl, fun _ _ _ => rfl, fun _ _ _ => rfl, .inr (.inl ⟨by simp [row], _, rfl⟩)⟩
  | settings st row =>
    refine ⟨fun other => absurd ?_ other, fun _ _ _ => rfl, fun _ _ _ => rfl, .inl rfl⟩
    exact List.mem_append_left [Instr.powerOn, .resetLine, .restartWarmStart, .coldClearColdStart] row
  | _ => exact .none rfl rfl rfl rfl

theorem Edited.storeChange (h : Edited i s t) : StoreChange i s t := by
  obtain ⟨u, v, edit, outside, moves⟩ := h
  exact (edit.storeChange.outside outside).spool moves

theorem HandledTo.storeChange {r : Req} (h : HandledTo i r s t) : StoreChange i s t := by
  rcases h with ⟨o, d, rfl⟩ | ⟨o, d, e, -, accepted, rfl⟩ | deferred
  · exact .none rfl rfl rfl rfl
  · exact accepted.edited.storeChange.congr rfl rfl rfl rfl
  · exact deferred.edited.storeChange

theorem captureOutcome_numberWord {c : Chan} {kind : CaptureKind} {k : Slot} {res : CaptureResult}
    (weightless : ∀ w, res ≠ .ok w) : (captureOutcome c kind k res s).numberWord = s.numberWord := by
  rcases captureOutcome_cases c kind k res s with same | ⟨t, m, -, -, -, -, acts⟩
  · rw [same]
  · obtain ⟨u, o, d, acted, answered⟩ := actOnOutcome_acted k t m res s
    rw [acts, answered]
    change u.numberWord = s.numberWord
    cases acted with
    | issued weighed => exact absurd weighed (weightless _)
    | dumped ends weighed => exact absurd weighed (weightless _)
    | binned ends weighed => exact absurd weighed (weightless _)
    | freed | failed => rfl

theorem ScaleResult.storeChange {weighs : Bool} {c : Chan} (taken : weighs = true → ∃ b, i = .scaleByteReceived c b)
    (h : ScaleResult weighs c s t) : StoreChange i s t := by
  have frame := h.frame
  refine ⟨fun _ => by rw [frame], fun _ _ _ => by rw [frame], fun _ noByte _ => ?_, .inl (by rw [frame])⟩
  cases h with
  | quiet x lost => rw [State.moveChannel_eq]
  | ended x lost res _ _ _ weighed =>
    rw [captureOutcome_numberWord, State.moveChannel_eq]
    intro w weight
    obtain ⟨b, byte⟩ := taken (weighed w weight)
    exact noByte c b byte

theorem answerDeferred_outside (s : State) (p : Port) (o : OutcomeCode) : Outside s (s.answerDeferred p o) := by
  unfold State.answerDeferred
  split <;> rfl

theorem warmStart_storeChange (row : i ∈ [Instr.powerOn, .resetLine, .restartWarmStart, .coldClearColdStart])
    (word : u.numberWord = s.numberWord) (journal : u.journal = s.journal) : StoreChange i s u.warmStart := by
  refine StoreChange.spool (t := u.warmBase) ⟨fun other => absurd ?_ other, fun other => absurd row other,
    fun _ _ _ => word, .inl journal⟩ (warmStart_moves u)
  exact List.mem_append_right [Instr.setParam, .switchPrices, .setContainer, .setAlias] row

theorem coldStart_storeChange (row : i ∈ [Instr.powerOn, .coldClearColdStart]) (word : u.numberWord = s.numberWord) :
    StoreChange i s u.coldStart := by
  refine StoreChange.spool (t := u.coldBase) ⟨fun other => absurd ?_ other, fun other => absurd ?_ other,
    fun _ _ _ => word, .inr (.inr (.inr ⟨row, rfl⟩))⟩ (coldStart_moves u)
  all_goals
    simp only [List.mem_cons, List.not_mem_nil, or_false] at row ⊢
    tauto

theorem Occurs.storeChange (h : Occurs s i t) : StoreChange i s t := by
  have same : StoreChange i s s := .none rfl rfl rfl rfl
  cases h with
  | idle => exact same
  | byte p b => exact same.outside (portByte_outside p b s)
  | gap p => exact same.outside (portGap_outside p s)
  | sent p => exact same.outside (responseSent_outside p s)
  | scale taken moved => exact moved.storeChange taken
  | expired | second | resetDark | releasedDark | lostDark => exact .none rfl rfl rfl rfl
  | printed _ moves => exact same.spool moves
  | saved x o =>
    refine StoreChange.outside ?_ (answerDeferred_outside _ _ o)
    exact ⟨fun _ => rfl, fun _ other => absurd rfl (other x), fun _ _ _ => rfl, .inl rfl⟩
  | powered k =>
    cases k with
    | warm => exact warmStart_storeChange (by simp) rfl rfl
    | cold => exact coldStart_storeChange (by simp) rfl
  | reset => exact warmStart_storeChange (by simp) rfl rfl
  | warmCalled => exact warmStart_storeChange (by simp) rfl rfl
  | coldCalled => exact coldStart_storeChange (by simp) rfl
  | released =>
    refine StoreChange.spool ?_ SpoolMoves.unmoved.takeClocks
    exact .none rfl rfl rfl rfl
  | lost battery wordCut =>
    refine ⟨fun _ => rfl, fun _ _ other => absurd rfl (other battery wordCut), fun _ _ whole => ?_, .inl rfl⟩
    cases wordCut
    · rfl
    · exact absurd rfl (whole battery)

end

/-- Settles O15: each row's edit says what it changes of the stores and the journal. -/
theorem storesAndJournalChangeOnlyByTheirCommands : Obligations.StoresAndJournalChangeOnlyByTheirCommands := by
  have every : ∀ (i : Instr) (s t : State), exec i s = .next t → StoreChange i s t := fun i s t next => by
    rcases exec_cases next with ⟨code, r, u, -, -, -, handled, rfl⟩ | occurs
    · exact handled.storeChange.outside (outside_of_apart (apart_releaseEngine u))
    · exact occurs.storeChange
  exact ⟨fun i s t next => ⟨(every i s t next).settings, (every i s t next).image, (every i s t next).numberWord⟩,
    fun i s t next => (every i s t next).journal⟩

end Sys2Proof.Machine
end

section
/-! SUPPORT. Open tickets only grow (R21, R24, R45): a command records one weighing with its line at most, and leaves kind
and opening as they are. -/

namespace Sys2Proof.Machine

/-- `b` is ticket `a` after one command: one weighing more at the most, with its line. -/
def Ticket.GrowsTo (a b : Ticket) : Prop :=
  (∃ ws, b.weighings = a.weighings ++ ws ∧ ws.length ≤ 1 ∧ b.lines.length = a.lines.length + ws.length) ∧
    b.kind = a.kind ∧ b.openedBy = a.openedBy ∧ b.openedAt = a.openedAt

theorem Ticket.Keeps.growsTo {a b : Ticket} (h : a.Keeps b) : a.GrowsTo b :=
  ⟨⟨[], by rw [h.weighings, List.append_nil], Nat.zero_le 1, h.lines⟩, h.kind, h.openedBy, h.openedAt⟩

/-- Every numbered ticket that `s` and `t` hold in one slot has grown by one command at the most. -/
def TicketsGrow (s t : State) : Prop :=
  ∀ (k : Slot) (a b : Ticket), s.slots[k] = some a → t.slots[k] = some b → a.number ≠ none → a.GrowsTo b

section
variable {s t u : State}

theorem TicketsGrow.same (slots : t.slots = s.slots) : TicketsGrow s t := fun k a b before after _ => by
  rw [slots] at after
  obtain rfl := Option.some.inj (before.symm.trans after)
  exact (Ticket.Keeps.refl a).growsTo

theorem TicketsGrow.congr (h : TicketsGrow s t) (slots : u.slots = t.slots) : TicketsGrow s u :=
  fun k a b before after numbered => h k a b before (by rwa [← slots]) numbered

/-- One slot set anew, to a ticket that has grown or to none. -/
theorem TicketsGrow.setSlot {i : Slot} {x : Option Ticket} (slots : t.slots = s.slots.set i x)
    (grows : ∀ a b, s.slots[i] = some a → x = some b → a.number ≠ none → a.GrowsTo b) : TicketsGrow s t := by
  intro k a b before after numbered
  rw [slots, getElem_set_fin] at after
  split at after
  · rename_i here
    subst here
    exact grows a b before after numbered
  · obtain rfl := Option.some.inj (before.symm.trans after)
    exact (Ticket.Keeps.refl a).growsTo

/-- One slot's ticket edited. -/
theorem TicketsGrow.edit {i : Slot} {a b : Ticket} (before : s.slots[i] = some a) (grown : a.GrowsTo b)
    (slots : t.slots = s.slots.set i (some b)) : TicketsGrow s t :=
  .setSlot slots fun a' b' held set _ => by
    obtain rfl := Option.some.inj (before.symm.trans held)
    obtain rfl := Option.some.inj set
    exact grown

theorem TicketsGrow.freed {i : Slot} (slots : t.slots = s.slots.set i none) : TicketsGrow s t :=
  .setSlot slots fun _ _ _ none _ => by cases none

theorem Edit.ticketsGrow {row : Instr} (h : Edit row s t) : TicketsGrow s t := by
  cases h with
  | ticket t' slot keeps => exact .edit slot keeps.growsTo rfl
  | @opened n i x _ _ free =>
    refine .setSlot (i := i) (x := some x) rfl fun a b before => ?_
    rw [free] at before
    cases before
  | captured i t' c x before =>
    rcases before with ⟨free, -⟩ | ⟨a, slot, keeps⟩
    · refine .setSlot (i := i) (x := some t') rfl fun a b before => ?_
      rw [free] at before
      cases before
    · exact .edit slot keeps.growsTo rfl
  | @closed i _ r u _ _ _ _ books =>
    refine .freed (i := i) ?_
    rw [State.setSlot, books]
  | _ => exact .same rfl

theorem Edited.ticketsGrow {row : Instr} (h : Edited row s t) : TicketsGrow s t := by
  obtain ⟨u, v, edit, outside, moves⟩ := h
  exact edit.ticketsGrow.congr (by rw [moves.frame, outside]; rfl)

theorem HandledTo.ticketsGrow {row : Instr} {r : Req} (h : HandledTo row r s t) : TicketsGrow s t := by
  rcases h with ⟨o, d, rfl⟩ | ⟨o, d, e, -, accepted, rfl⟩ | deferred
  · exact .same rfl
  · exact accepted.edited.ticketsGrow
  · exact deferred.edited.ticketsGrow

/-! ### Captures -/

/-- A lawful ticket with the marker of a gross capture holds no number yet (R26, R32). -/
theorem Ticket.unnumbered_of_gross {x : Ticket} {m : Marker} (law : x.lawful) (marker : x.marker = some m)
    (gross : m.purpose = .gross) : x.number = none := by
  obtain ⟨state, -⟩ := law
  unfold Ticket.stateLaw at state
  split at state
  · exact state.2.1
  · have dump := state.2.2.1 m marker
    rw [gross] at dump
    cases dump
  · have bin := state.2.2.1 m marker
    rw [gross] at bin
    cases bin
  · exact absurd (marker.symm.trans state.2.1) (Option.some_ne_none m)
  · exact absurd (marker.symm.trans state.2.1) (Option.some_ne_none m)

theorem Ticket.dumped_growsTo (x : Ticket) (st : Settings) (g : GradeIx) (final : Bool) (c : Chan) (w : Nat)
    (time : Option Nat) : x.GrowsTo (x.dumped st g final c w time) :=
  ⟨⟨_, rfl, le_rfl, List.length_append⟩, rfl, rfl, rfl⟩

theorem Ticket.binned_growsTo (x : Ticket) (st : Settings) (g : GradeIx) (k : Container) (c : Chan) (w : Nat)
    (time : Option Nat) : x.GrowsTo (x.binned st g k c w time) :=
  ⟨⟨_, rfl, le_rfl, List.length_append⟩, rfl, rfl, rfl⟩

theorem putTicket_slots (s : State) (i : Slot) (x : Ticket) (ready : Bool) :
    (s.putTicket i x ready).slots = s.slots.set i (some x) := by
  cases ready <;> rfl

theorem Acted.ticketsGrow {res : CaptureResult} {i : Slot} {x : Ticket} {m : Marker} (h : Acted res i x m s u)
    (slot : s.slots[i] = some x) (marker : x.marker = some m) (law : x.lawful) : TicketsGrow s u := by
  cases h with
  | issued _ gross =>
    refine .setSlot rfl fun a b before _ numbered => absurd ?_ numbered
    obtain rfl := Option.some.inj (slot.symm.trans before)
    exact Ticket.unnumbered_of_gross law marker gross
  | freed => exact .freed rfl
  | dumped ends => exact .edit slot (Ticket.dumped_growsTo _ _ _ _ _ _ _) (putTicket_slots _ _ _ _)
  | binned ends => exact .edit slot (Ticket.binned_growsTo _ _ _ _ _ _ _) (putTicket_slots _ _ _ _)
  | failed => exact .edit slot (Ticket.Keeps.growsTo (by exact ⟨rfl, rfl, rfl, rfl, rfl, rfl⟩)) rfl

theorem State.moveChannel_slots (s : State) (c : Chan) (x : Channel) (lost : Bool) :
    (s.moveChannel c x lost).slots = s.slots := by
  cases lost <;> rfl

theorem ScaleResult.ticketsGrow {weighs : Bool} {c : Chan} (h : ScaleResult weighs c s t) (law : TicketLaw s) :
    TicketsGrow s t := by
  cases h with
  | quiet x lost => exact .same (s.moveChannel_slots c x lost)
  | @ended cap x lost res =>
    have slots := s.moveChannel_slots c x lost
    rcases captureOutcome_cases c cap.kind cap.slot res (s.moveChannel c x lost) with same | ⟨a, m, slot, marker, -, -, acts⟩
    · rw [same]
      exact .same slots
    · obtain ⟨u, o, d, acted, answered⟩ := actOnOutcome_acted cap.slot a m res (s.moveChannel c x lost)
      rw [acts, answered]
      have held : s.slots[cap.slot] = some a := by rw [← slots]; exact slot
      intro k before after was is
      exact acted.ticketsGrow slot marker (law _ _ held) k before after (by rwa [slots]) is

/-! ### Every event -/

theorem warmSlot_keeps {a b : Ticket} (h : warmSlot (some a) = some b) : a.Keeps b := by
  unfold warmSlot at h
  dsimp only at h
  split at h <;> cases h <;> exact ⟨rfl, rfl, rfl, rfl, rfl, rfl⟩

theorem warmStart_ticketsGrow (slots : u.slots = s.slots) : TicketsGrow s u.warmStart := fun k a b before after _ => by
  have warmed : u.warmStart.slots = mapEntries (fun _ x => warmSlot x) s.slots := by
    rw [(warmStart_moves u).frame, ← slots]
    rfl
  rw [warmed, getElem_mapEntries, before] at after
  exact (warmSlot_keeps after).growsTo

theorem coldStart_ticketsGrow : TicketsGrow s u.coldStart := fun k a b _ after _ => by
  have emptied : u.coldStart.slots = Vector.replicate 48 none := by
    rw [(coldStart_moves u).frame]
    rfl
  rw [emptied] at after
  simp at after

theorem Occurs.ticketsGrow {i : Instr} (h : Occurs s i t) (law : TicketLaw s) : TicketsGrow s t := by
  cases h with
  | byte p b => exact .same (by rw [portByte_outside p b s])
  | gap p => exact .same rfl
  | sent p => exact .same (by rw [responseSent_outside p s])
  | scale _ moved => exact moved.ticketsGrow law
  | expired slot => exact .edit slot (Ticket.Keeps.growsTo (by exact ⟨rfl, rfl, rfl, rfl, rfl, rfl⟩)) rfl
  | printed _ moves => exact .same (by rw [moves.frame]; rfl)
  | saved x o => exact .same (by rw [answerDeferred_outside _ _ o])
  | powered k =>
    cases k with
    | warm => exact warmStart_ticketsGrow rfl
    | cold => exact coldStart_ticketsGrow
  | reset => exact warmStart_ticketsGrow rfl
  | warmCalled => exact warmStart_ticketsGrow rfl
  | coldCalled => exact coldStart_ticketsGrow
  | released => exact .same (by rw [SpoolMoves.unmoved.takeClocks.frame]; rfl)
  | idle | second | resetDark | releasedDark | lost | lostDark => exact .same rfl

end

/-- Settles O16: an edit keeps the ticket, and a capture's outcome adds one weighing with its line. -/
theorem openTicketsOnlyGrow : Obligations.OpenTicketsOnlyGrow := by
  intro i s t k a b law next before after numbered _
  refine (?_ : TicketsGrow s t) k a b before after numbered
  rcases exec_cases next with ⟨code, r, u, -, -, -, handled, rfl⟩ | occurs
  · exact handled.ticketsGrow.congr (by rw [outside_of_apart (apart_releaseEngine u)])
  · exact occurs.ticketsGrow law

end Sys2Proof.Machine
end

section
/-! SUPPORT. Requests whose data has one length (10.9.1): every decoder of such a form refuses any other length, and the
row's rule answers BAD_PARAM. -/

namespace Sys2Proof.Machine

/-! ### The decoders of one length -/

section
variable {d : List Byte}

theorem decodeNothing_of_length (h : d.length ≠ 0) : decodeNothing d = none := by
  unfold decodeNothing
  split
  · exact absurd rfl h
  · rfl

theorem decodeOne_of_length (h : d.length ≠ 1) : decodeOne d = none := by
  unfold decodeOne
  split
  · exact absurd rfl h
  · rfl

theorem decodeTwo_of_length (h : d.length ≠ 2) : decodeTwo d = none := by
  unfold decodeTwo
  split
  · exact absurd rfl h
  · rfl

theorem decodeThree_of_length (h : d.length ≠ 3) : decodeThree d = none := by
  unfold decodeThree
  split
  · exact absurd rfl h
  · rfl

theorem decodeNumber_of_length (h : d.length ≠ 4) : decodeNumber d = none := by
  unfold decodeNumber
  split
  · exact absurd rfl h
  · rfl

theorem decodeEvents_of_length (h : d.length ≠ 2) : decodeEvents d = none := by
  unfold decodeEvents
  split
  · exact absurd rfl h
  · rfl

theorem decodeDump_of_length (h : d.length ≠ 7) : decodeDump d = none := by
  unfold decodeDump
  split
  · exact absurd rfl h
  · rfl

theorem decodeAddBin_of_length (h : d.length ≠ 6) : decodeAddBin d = none := by
  unfold decodeAddBin
  split
  · exact absurd rfl h
  · rfl

theorem decodeDeduct_of_length (h : d.length ≠ 9) : decodeDeduct d = none := by
  unfold decodeDeduct
  split
  · exact absurd rfl h
  · rfl

theorem decodeNumberOne_of_length (h : d.length ≠ 5) : decodeNumberOne d = none := by
  unfold decodeNumberOne
  split
  · exact absurd rfl h
  · rfl

theorem decodeGetGrade_of_length (h : d.length ≠ 2) : decodeGetGrade d = none := by
  unfold decodeGetGrade
  split
  · exact absurd rfl h
  · rfl

theorem decodeSetContainer_of_length (h : d.length ≠ 5) : decodeSetContainer d = none := by
  unfold decodeSetContainer
  split
  · exact absurd rfl h
  · rfl

theorem decodePay_of_length (h : d.length ≠ 5) : decodePay d = none := by
  unfold decodePay
  split
  · exact absurd rfl h
  · rfl

theorem decodePop_of_length (h : d.length ≠ 5) : decodePop d = none := by
  unfold decodePop
  split
  · exact absurd rfl h
  · rfl

end

/-! ### The rows of one length -/

/-- Row `i` takes data of `n` bytes alone: given any other length, its rule answers BAD_PARAM and changes nothing. -/
def TakesLength (i : Instr) (code : Byte) (n : Nat) : Prop :=
  ∃ rule, ServedBy i code rule ∧ ∀ r s, r.data.length ≠ n → rule r s = answer r .badParam [] s

theorem getEvents_takesLength : TakesLength .getEvents 0x01 0 :=
  ⟨getEvents, fun _ => rfl, fun r s h => by rw [getEvents, decodeNothing_of_length h]⟩

theorem ackEvents_takesLength : TakesLength .ackEvents 0x02 2 :=
  ⟨ackEvents, fun _ => rfl, fun r s h => by rw [ackEvents, decodeEvents_of_length h]⟩

theorem setMask_takesLength : TakesLength .setMask 0x03 2 :=
  ⟨setMask, fun _ => rfl, fun r s h => by rw [setMask, decodeEvents_of_length h]⟩

theorem dump_takesLength : TakesLength .dump 0x11 7 :=
  ⟨dump, fun _ => rfl, fun r s h => by rw [dump, decodeDump_of_length h]⟩

theorem openWalkin_takesLength : TakesLength .openWalkin 0x12 0 :=
  ⟨openWalkin, fun _ => rfl, fun r s h => by rw [openWalkin, decodeNothing_of_length h]⟩

theorem addBin_takesLength : TakesLength .addBin 0x13 6 :=
  ⟨addBin, fun _ => rfl, fun r s h => by rw [addBin, decodeAddBin_of_length h]⟩

theorem closeWeighing_takesLength : TakesLength .closeWeighing 0x14 4 :=
  ⟨closeWeighing, fun _ => rfl, fun r s h => by rw [closeWeighing, decodeNumber_of_length h]⟩

theorem deduct_takesLength : TakesLength .deduct 0x15 9 :=
  ⟨deduct, fun _ => rfl, fun r s h => by rw [deduct, decodeDeduct_of_length h]⟩

theorem void_takesLength : TakesLength .void 0x18 5 :=
  ⟨void, fun _ => rfl, fun r s h => by rw [void, decodeNumberOne_of_length h]⟩

theorem getTicket_takesLength : TakesLength .getTicket 0x19 5 :=
  ⟨getTicket, fun _ => rfl, fun r s h => by rw [getTicket, decodeNumberOne_of_length h]⟩

theorem listTickets_takesLength : TakesLength .listTickets 0x1A 1 :=
  ⟨listTickets, fun _ => rfl, fun r s h => by rw [listTickets, decodeOne_of_length h]⟩

theorem readScale_takesLength : TakesLength .readScale 0x20 1 :=
  ⟨readScale, fun _ => rfl, fun r s h => by rw [readScale, decodeOne_of_length h]⟩

theorem clearScaleFault_takesLength : TakesLength .clearScaleFault 0x21 1 :=
  ⟨clearScaleFault, fun _ => rfl, fun r s h => by rw [clearScaleFault, decodeOne_of_length h]⟩

theorem switchPrices_takesLength : TakesLength .switchPrices 0x29 0 :=
  ⟨switchPrices, fun _ => rfl, fun r s h => by rw [switchPrices, decodeNothing_of_length h]⟩

theorem getGrade_takesLength : TakesLength .getGrade 0x2A 2 :=
  ⟨getGrade, fun _ => rfl, fun r s h => by rw [getGrade, decodeGetGrade_of_length h]⟩

theorem setContainer_takesLength : TakesLength .setContainer 0x2B 5 :=
  ⟨setContainer, fun _ => rfl, fun r s h => by rw [setContainer, decodeSetContainer_of_length h]⟩

theorem reprice_takesLength : TakesLength .reprice 0x2C 4 :=
  ⟨reprice, fun _ => rfl, fun r s h => by rw [reprice, decodeNumber_of_length h]⟩

theorem review_takesLength : TakesLength .review 0x30 4 :=
  ⟨review, fun _ => rfl, fun r s h => by rw [review, decodeNumber_of_length h]⟩

theorem release_takesLength : TakesLength .release 0x31 4 :=
  ⟨release, fun _ => rfl, fun r s h => by rw [release, decodeNumber_of_length h]⟩

theorem pay_takesLength : TakesLength .pay 0x32 5 :=
  ⟨pay, fun _ => rfl, fun r s h => by rw [pay, decodePay_of_length h]⟩

theorem drawerKick_takesLength : TakesLength .drawerKick 0x33 0 :=
  ⟨drawerKick, fun _ => rfl, fun r s h => by rw [drawerKick, decodeNothing_of_length h]⟩

theorem journalPeek_takesLength : TakesLength .journalPeek 0x38 1 :=
  ⟨journalPeek, fun _ => rfl, fun r s h => by rw [journalPeek, decodeOne_of_length h]⟩

theorem journalPop_takesLength : TakesLength .journalPop 0x39 5 :=
  ⟨journalPop, fun _ => rfl, fun r s h => by rw [journalPop, decodePop_of_length h]⟩

theorem getTotals_takesLength : TakesLength .getTotals 0x3A 1 :=
  ⟨getTotals, fun _ => rfl, fun r s h => by rw [getTotals, decodeOne_of_length h]⟩

theorem dayClose_takesLength : TakesLength .dayClose 0x3B 0 :=
  ⟨dayClose, fun _ => rfl, fun r s h => by rw [dayClose, decodeNothing_of_length h]⟩

theorem reprint_takesLength : TakesLength .reprint 0x3C 4 :=
  ⟨reprint, fun _ => rfl, fun r s h => by rw [reprint, decodeNumber_of_length h]⟩

theorem jobOpen_takesLength : TakesLength .jobOpen 0x40 2 :=
  ⟨jobOpen, fun _ => rfl, fun r s h => by rw [jobOpen, decodeTwo_of_length h]⟩

theorem jobSubmit_takesLength : TakesLength .jobSubmit 0x42 3 :=
  ⟨jobSubmit, fun _ => rfl, fun r s h => by rw [jobSubmit, decodeThree_of_length h]⟩

theorem jobClose_takesLength : TakesLength .jobClose 0x43 1 :=
  ⟨jobClose, fun _ => rfl, fun r s h => by rw [jobClose, decodeOne_of_length h]⟩

theorem jobCancel_takesLength : TakesLength .jobCancel 0x44 1 :=
  ⟨jobCancel, fun _ => rfl, fun r s h => by rw [jobCancel, decodeOne_of_length h]⟩

theorem jobStatus_takesLength : TakesLength .jobStatus 0x45 1 :=
  ⟨jobStatus, fun _ => rfl, fun r s h => by rw [jobStatus, decodeOne_of_length h]⟩

theorem jobRelease_takesLength : TakesLength .jobRelease 0x46 1 :=
  ⟨jobRelease, fun _ => rfl, fun r s h => by rw [jobRelease, decodeOne_of_length h]⟩

theorem printerResume_takesLength : TakesLength .printerResume 0x48 1 :=
  ⟨printerResume, fun _ => rfl, fun r s h => by rw [printerResume, onPrinter, decodeOne_of_length h]⟩

theorem printerFlush_takesLength : TakesLength .printerFlush 0x49 1 :=
  ⟨printerFlush, fun _ => rfl, fun r s h => by rw [printerFlush, onPrinter, decodeOne_of_length h]⟩

theorem printerRedirect_takesLength : TakesLength .printerRedirect 0x4A 2 :=
  ⟨printerRedirect, fun _ => rfl, fun r s h => by rw [printerRedirect, decodeTwo_of_length h]⟩

theorem printerStatus_takesLength : TakesLength .printerStatus 0x4B 1 :=
  ⟨printerStatus, fun _ => rfl, fun r s h => by rw [printerStatus, onPrinter, decodeOne_of_length h]⟩

theorem getParam_takesLength : TakesLength .getParam 0x51 2 :=
  ⟨getParam, fun _ => rfl, fun r s h => by rw [getParam, decodeTwo_of_length h]⟩

theorem saveSettings_takesLength : TakesLength .saveSettings 0x52 0 :=
  ⟨saveSettings, fun _ => rfl, fun r s h => by rw [saveSettings, decodeNothing_of_length h]⟩

theorem setNextNumber_takesLength : TakesLength .setNextNumber 0x53 4 :=
  ⟨setNextNumber, fun _ => rfl, fun r s h => by rw [setNextNumber, decodeNumber_of_length h]⟩

theorem restart_takesLength : TakesLength .restart 0x55 0 :=
  ⟨restart, fun _ => rfl, fun r s h => by rw [restart, decodeNothing_of_length h]⟩

theorem coldClear_takesLength : TakesLength .coldClear 0x56 0 :=
  ⟨coldClear, fun _ => rfl, fun r s h => by rw [coldClear, decodeNothing_of_length h]⟩

theorem TakesLength.refuses {i : Instr} {code : Byte} {n : Nat} (row : TakesLength i code n) (s : State) (p : Port)
    (tag : Byte) (data : List Byte) (granted : GrantedTo s p tag code data) (other : data.length ≠ n) :
    Refuses i s p ⟨tag, code, .badParam, []⟩ := by
  obtain ⟨rule, served, refusing⟩ := row
  exact Machine.refuses served granted (refusing ⟨p, tag, code, data⟩ s other)

theorem refuses_of_rows {rows : List (Instr × Byte × Nat)} (all : ∀ x ∈ rows, TakesLength x.1 x.2.1 x.2.2)
    (i : Instr) (code : Byte) (n : Nat) (row : (i, code, n) ∈ rows) (s : State) (p : Port) (tag : Byte)
    (data : List Byte) (granted : GrantedTo s p tag code data) (other : data.length ≠ n) :
    Refuses i s p ⟨tag, code, .badParam, []⟩ :=
  (all (i, code, n) row).refuses s p tag data granted other

/-- Settles O14: every row of the list takes data of its length alone. -/
theorem requestsOfFixedLengthRefuseOtherData : Obligations.RequestsOfFixedLengthRefuseOtherData := by
  refine refuses_of_rows ?_
  simp only [List.forall_mem_cons]
  exact ⟨getEvents_takesLength, ackEvents_takesLength, setMask_takesLength, dump_takesLength,
    openWalkin_takesLength, addBin_takesLength, closeWeighing_takesLength, deduct_takesLength,
    void_takesLength, getTicket_takesLength, listTickets_takesLength, readScale_takesLength,
    clearScaleFault_takesLength, switchPrices_takesLength, getGrade_takesLength, setContainer_takesLength,
    reprice_takesLength, review_takesLength, release_takesLength, pay_takesLength, drawerKick_takesLength,
    journalPeek_takesLength, journalPop_takesLength, getTotals_takesLength, dayClose_takesLength,
    reprint_takesLength, jobOpen_takesLength, jobSubmit_takesLength, jobClose_takesLength,
    jobCancel_takesLength, jobStatus_takesLength, jobRelease_takesLength, printerResume_takesLength,
    printerFlush_takesLength, printerRedirect_takesLength, printerStatus_takesLength, getParam_takesLength,
    saveSettings_takesLength, setNextNumber_takesLength, restart_takesLength, coldClear_takesLength,
    fun _ none => absurd none List.not_mem_nil⟩

end Sys2Proof.Machine
end

section
/-! SUPPORT. What accepted requests and the spool leave of the port records: requests, roles, receivers and output queues
stand as they were, and the sets stay in their ranges (R166 to R176). -/

namespace Sys2Proof.Machine

/-- `y` is port record `x` with its sets, its mask or its START data changed, and still in its ranges. -/
structure StationPort.Stands (x y : StationPort) : Prop where
  role : y.role = x.role
  receiver : y.receiver = x.receiver
  request : y.request = x.request
  output : y.output = x.output
  lawful : x.lawful → y.lawful

namespace StationPort.Stands

variable {x y z : StationPort}

theorem refl (x : StationPort) : x.Stands x := ⟨rfl, rfl, rfl, rfl, id⟩

theorem trans (first : x.Stands y) (second : y.Stands z) : x.Stands z :=
  ⟨second.role.trans first.role, second.receiver.trans first.receiver, second.request.trans first.request,
    second.output.trans first.output, fun law => second.lawful (first.lawful law)⟩

theorem grantable (h : x.Stands y) : y.grantable = x.grantable := by
  unfold StationPort.grantable
  rw [h.request, h.output]

end StationPort.Stands

/-- An event other than START that a port may hold latched. -/
def Event.latches (e : Event) : Prop := e ≠ .start ∧ e.set &&& ~~~latchedEvents = 0

theorem or_and_eq_zero {a b m : EventSet} (left : a &&& m = 0) (right : b &&& m = 0) : (a ||| b) &&& m = 0 := by
  rw [BitVec.and_comm, BitVec.and_or_distrib_left, BitVec.and_comm m a, BitVec.and_comm m b, left, right]
  rfl

theorem Event.set_and_start {e : Event} (other : e ≠ .start) : e.set &&& Event.start.set = 0 := by
  cases e <;> first | exact absurd rfl other | decide

theorem StationPort.latch_stands {e : Event} (latches : e.latches) (x : StationPort) : x.Stands (x.latch e) := by
  refine ⟨rfl, rfl, rfl, rfl, fun law => ?_⟩
  obtain ⟨room, held, sets, mask, start, bad, off, permitted⟩ := law
  obtain ⟨other, inRange⟩ := latches
  refine ⟨room, held, or_and_eq_zero sets inRange, mask, ?_, bad, off, permitted⟩
  have same : (x.latched ||| e.set) &&& Event.start.set = x.latched &&& Event.start.set := by
    rw [BitVec.and_comm, BitVec.and_or_distrib_left, BitVec.and_comm _ e.set, Event.set_and_start other,
      BitVec.and_comm]
    exact BitVec.or_zero
  exact start.trans (by rw [← same]; rfl)

theorem latchWhere_stands {e : Event} (latches : e.latches) (s : State) (f : Port → StationPort → Bool) (q : Port) :
    (s.ports[q]).Stands (s.latchWhere e f).ports[q] := by
  rw [State.latchWhere_get]
  split
  · exact StationPort.latch_stands latches _
  · exact .refl _

theorem jobDone_latches : Event.jobDone.latches := ⟨by decide, by decide⟩

theorem printerHalted_latches : Event.printerHalted.latches := ⟨by decide, by decide⟩

theorem ticketReady_latches : Event.ticketReady.latches := ⟨by decide, by decide⟩

theorem scaleFault_latches : Event.scaleFault.latches := ⟨by decide, by decide⟩

theorem windowExpired_latches : Event.windowExpired.latches := ⟨by decide, by decide⟩

theorem pricesSwitched_latches : Event.pricesSwitched.latches := ⟨by decide, by decide⟩

theorem totalSaturated_latches : Event.totalSaturated.latches := ⟨by decide, by decide⟩

/-- The changes of the spool leave requests, roles and output queues. -/
theorem SpoolMoves.ports {s t : State} (h : SpoolMoves s t) (q : Port) : (s.ports[q]).Stands t.ports[q] := by
  induction h with
  | unmoved => exact .refl _
  | job | engine | queue | allocate => assumption
  | latch f _ event ih =>
    refine ih.trans (latchWhere_stands ?_ _ _ q)
    rcases event with rfl | rfl
    · exact jobDone_latches
    · exact printerHalted_latches
  | release jn _ ih =>
    rw [releaseJob_frame]
    exact ih
  | @write t j n ls _ ih =>
    obtain ⟨_, _, written⟩ := writeLines_frame t j n ls
    rw [written]
    exact ih

/-! ### The port's own sets (R175, R176) -/

theorem and_start_iff (x : EventSet) : x &&& Event.start.set = 0 ↔ x.getLsbD 0 = false := by
  have bit : Event.start.set = BitVec.twoPow 16 0 := rfl
  rw [bit, BitVec.and_twoPow]
  cases x.getLsbD 0 <;> decide

theorem acknowledge_stands {e : EventSet} (x : StationPort) : x.Stands (x.acknowledge e) := by
  refine ⟨rfl, rfl, rfl, rfl, fun law => ?_⟩
  obtain ⟨room, held, sets, mask, start, bad, off, permitted⟩ := law
  refine ⟨room, held, ?_, mask, ?_, bad, off, permitted⟩
  · change (x.latched &&& ~~~e) &&& ~~~latchedEvents = 0
    rw [BitVec.and_assoc, BitVec.and_comm (~~~e), ← BitVec.and_assoc, sets]
    exact BitVec.zero_and
  · change (if e &&& Event.start.set = 0 then x.startData else none).isSome = true ↔
      (x.latched &&& ~~~e) &&& Event.start.set ≠ 0
    rw [ne_eq, and_start_iff] at start
    rw [ne_eq, and_start_iff (x.latched &&& ~~~e), BitVec.getLsbD_and, BitVec.getLsbD_not]
    by_cases named : e &&& Event.start.set = 0
    · rw [if_pos named, start, (and_start_iff e).mp named]
      simp
    · rw [if_neg named, Bool.eq_true_of_not_eq_false (mt (and_start_iff e).mpr named)]
      simp

theorem setMask_stands {e : EventSet} (inRange : namesEventsOnly e = true) (x : StationPort) :
    x.Stands { x with mask := e } := by
  refine ⟨rfl, rfl, rfl, rfl, fun law => ?_⟩
  obtain ⟨room, held, sets, -, start, bad, off, permitted⟩ := law
  exact ⟨room, held, sets, beq_iff_eq.mp inRange, start, bad, off, permitted⟩

theorem setPort_stands {s : State} {p : Port} {x : StationPort} (stands : (s.ports[p]).Stands x) (q : Port) :
    (s.ports[q]).Stands (s.setPort p x).ports[q] := by
  rw [State.setPort_get]
  split
  · rename_i here
    subst here
    exact stands
  · exact .refl _

/-! ### Accepted requests -/

section
variable {s : State}

theorem setTotals_stands (x : Totals) (q : Port) : (s.ports[q]).Stands (s.setTotals x).ports[q] := by
  unfold State.setTotals
  dsimp only
  split
  · exact latchWhere_stands totalSaturated_latches { s with totals := x } _ q
  · exact .refl _

theorem putTicket_stands (i : Slot) (t : Ticket) (ready : Bool) (q : Port) :
    (s.ports[q]).Stands (s.putTicket i t ready).ports[q] := by
  cases ready with
  | false => exact .refl _
  | true => exact latchWhere_stands ticketReady_latches (s.setSlot i (some t)) _ q

theorem clearFault_stands (c : Chan) (q : Port) : (s.ports[q]).Stands (clearFault c s).ports[q] := by
  unfold clearFault
  dsimp only
  split
  · exact latchWhere_stands scaleFault_latches (s.setChannel c _) _ q
  · exact .refl _

theorem payBooks_stands (i : Slot) (t : Ticket) (m : Method) (record : CloseRecord) (q : Port) :
    (s.ports[q]).Stands (payBooks i t m record s).ports[q] := by
  have counted := setTotals_stands (s := s.tallied t m) ((s.tallied t m).totals.addPayment m
    (paidFigures m t.total s.settings.cashStep).1 (paidFigures m t.total s.settings.cashStep).2 t.lines) q
  have tallied : (s.tallied t m).ports = s.ports := by rw [State.tallied_eq]
  rw [tallied] at counted
  exact counted

theorem payEffects_stands {p : Port} {i : Slot} {t : Ticket} {m : Method} {printer : Printer} {j : JobNo}
    (place : s.roomFor false (paidRecord s t p m) = some j) (q : Port) :
    (s.ports[q]).Stands (payEffects p i t m printer j s).ports[q] := by
  obtain ⟨pages, free, -⟩ := roomFor_some place
  have books := payBooks_outside i t m (paidRecord s t p m) s
  have printed := SpoolMoves.unmoved.handOver (s := payBooks i t m (paidRecord s t p m) s) (jn := j) (p := printer)
    (copies := (payBooks i t m (paidRecord s t p m) s).settings.receiptCopies) (duplicate := false)
    (r := paidRecord s t p m) (by rw [books]; exact pages) (by rw [books]; exact free)
  rw [payEffects_eq]
  refine (payBooks_stands i t m (paidRecord s t p m) q).trans ?_
  dsimp only
  split
  · exact printed.kickDrawer.ports q
  · exact printed.ports q

/-- The port of a capture's marker is answered when a VOID abandons it; every other port record stands (R37). -/
theorem voidEffects_stands {p : Port} {i : Slot} {t : Ticket} {reason : Nat} (q : Port)
    (spared : ∀ m, t.marker = some m → m.port ≠ q) : (s.ports[q]).Stands (voidEffects p i t reason s).ports[q] := by
  obtain ⟨record, itsRecord⟩ : ∃ record, closeRecordOf s t p (.voided reason) = record := ⟨_, rfl⟩
  have abandoned : (abandonMarker i t s).ports[q] = s.ports[q] := by
    unfold abandonMarker
    split
    · rfl
    · rename_i m marker
      rw [State.answerMarker, State.respond_get, if_neg (spared m marker), abandonCapture_channels]
  have counted : (s.ports[q]).Stands (voidBooks i t record s).ports[q] := by
    rw [← abandoned]
    exact setTotals_stands (s := (abandonMarker i t s).append (.close record)) _ q
  have printed : ((voidBooks i t record s).ports[q]).Stands
      (slipSpool (voidBooks i t record s) record (slipPlace (voidBooks i t record s) p record)).ports[q] :=
    SpoolMoves.unmoved.slip.ports q
  rw [voidBooks_slipPlace] at printed
  rw [voidEffects_eq, itsRecord]
  exact counted.trans printed

/-- An accepted request leaves every port record but for its sets, except that a VOID answers the port of the capture it
abandons. -/
theorem Accepts.ports {r : Req} {row : Instr} {t : State} (h : Accepts r s row t) (q : Port)
    (spared : ∀ (i : Slot) (m : Marker), s.marks i m → m.port ≠ q) : (s.ports[q]).Stands t.ports[q] := by
  have still := SpoolMoves.unmoved (s := s)
  cases h with
  | ackEvents e => exact setPort_stands (acknowledge_stands _) q
  | setMask e inRange => exact setPort_stands (setMask_stands inRange _) q
  | closeWeighing | release => exact putTicket_stands _ _ _ q
  | void reason found =>
    exact voidEffects_stands q fun m marker => spared _ m (by rw [State.marks, found.slot]; exact marker)
  | getTicket t part =>
    unfold State.countFreeRead
    split <;> exact .refl _
  | clearScaleFault c => exact clearFault_stands c q
  | switchPrices => exact latchWhere_stands pricesSwitched_latches _ _ q
  | pay m _ _ _ place => exact payEffects_stands place q
  | drawerKick p => exact still.kickDrawer.ports q
  | reprint printer room =>
    obtain ⟨pages, free, -⟩ := roomFor_some room
    exact (still.handOver pages free).ports q
  | jobOpen printer _ room =>
    obtain ⟨pages, free⟩ := canAllocate_some room
    exact (still.allocate _ pages free).ports q
  | jobWrite ls job => exact (still.writeJob ls job).ports q
  | jobSubmit job => exact (still.submitJob _ _ job).ports q
  | jobClose job => exact (still.closeJob job).ports q
  | jobCancel job => exact (still.cancelJob r job).ports q
  | jobRelease => exact (still.release _).ports q
  | printerResume => exact still.resumeEngine.ports q
  | printerFlush p => exact still.flushQueue.ports q
  | printerRedirect => exact still.redirectQueue.ports q
  | @setParam param _ v =>
    have reached := SpoolMoves.unmoved.reachEngine (s := { s with settings := putSetting s.settings param (param.fit v) })
      param
    exact reached.ports q
  | _ => exact .refl _

end

/-! ### The answer of a granted request -/

/-- A marker's port holds a deferred request, so it is not the port of a WAITING one (R26, R32). -/
theorem MarkerLaw.spares {s : State} {p : Port} {tag code : Byte} {data : List Byte} (law : MarkerLaw s)
    (granted : GrantedTo s p tag code data) (i : Slot) (m : Marker) (marked : s.marks i m) : m.port ≠ p := by
  rintro rfl
  obtain ⟨-, deferred⟩ := law.1 i m marked
  obtain ⟨-, -, waiting⟩ := granted
  rw [waiting] at deferred
  cases deferred

/-- The four requests that may be left pending, and what is left of the port. -/
theorem Defers.pending {r : Req} {row : Instr} {s u : State} {q : Request} (h : Defers r s row u)
    (request : s.ports[r.port].request = some q) :
    row ∈ [Instr.openTruck, .dump, .addBin, .saveSettings] ∧
      u.ports[r.port].request = some { q with phase := .deferred } := by
  have deferred : ∀ v : State, v.ports = s.ports →
      (v.deferRequest r.port).ports[r.port].request = some { q with phase := .deferred } := fun v ports => by
    rw [State.deferRequest_get, if_pos rfl, ports, request]
    rfl
  cases h with
  | openTruck => exact ⟨by simp, deferred _ rfl⟩
  | dump => exact ⟨by simp, deferred _ rfl⟩
  | addBin => exact ⟨by simp, deferred _ rfl⟩
  | saveSettings => exact ⟨by simp, deferred _ rfl⟩

theorem deferring_code {row : Instr} {code : Byte} (member : row ∈ [Instr.openTruck, .dump, .addBin, .saveSettings])
    (itsCode : requestCode row = some code) : code ∈ [(0x10 : Byte), 0x11, 0x13, 0x52] := by
  simp only [List.mem_cons, List.not_mem_nil, or_false] at member
  rcases member with rfl | rfl | rfl | rfl <;> cases itsCode <;> decide

/-- Settles O13: a row answers its port once, whatever it does besides, or leaves the request of its port DEFERRED. -/
theorem grantedRequestsAreAnsweredOnce : Obligations.GrantedRequestsAreAnsweredOnce := by
  intro i code tag data s p law itsCode granted
  obtain ⟨rule, served, handles⟩ := request_served itsCode
  obtain ⟨-, markers, -⟩ := law
  refine ⟨_, exec_granted served granted, ?_⟩
  rw [State.releaseEngine_ports]
  rcases handles ⟨p, tag, code, data⟩ s rfl with ⟨o, d, answered⟩ | ⟨o, d, e, -, accepted, answered⟩ | deferred
  · rw [answered, answer_port]
    exact .inl ⟨o, d, rfl, rfl⟩
  · have stands := accepted.ports p fun k m => markers.spares granted k m
    rw [answered, answer_port]
    refine .inl ⟨o, d, rfl, ?_⟩
    dsimp only
    rw [stands.output]
  · obtain ⟨member, request⟩ := deferred.pending granted.2.2
    exact .inr ⟨deferring_code member itsCode, request, deferred.output p⟩

end Sys2Proof.Machine
end

section
/-! SUPPORT. The arbiter never idles on work, and the ports' own events: bytes, gaps and sent responses (10.2 to 10.5). -/

namespace Sys2Proof.Machine

/-! ### The arbiter's law (R172) -/

/-- Nothing may be granted in `t` that might not be granted in `s`. -/
structure GrantsLess (s t : State) : Prop where
  engine : t.requestEngine = s.requestEngine
  called : t.pendingStart = s.pendingStart
  ports (q : Port) : (t.ports[q]).grantable = true → (s.ports[q]).grantable = true

section
variable {s t u : State}

theorem GrantsLess.arbiterLaw (h : GrantsLess s t) (law : ArbiterLaw s) : ArbiterLaw t := by
  intro free uncalled q
  rw [h.engine] at free
  rw [h.called] at uncalled
  exact Bool.eq_false_iff.mpr fun may => Bool.eq_false_iff.mp (law free uncalled q) (h.ports q may)

theorem GrantsLess.stands (engine : t.requestEngine = s.requestEngine) (called : t.pendingStart = s.pendingStart)
    (ports : ∀ q : Port, (s.ports[q]).Stands t.ports[q]) : GrantsLess s t :=
  ⟨engine, called, fun q may => by rwa [(ports q).grantable] at may⟩

theorem GrantsLess.same (engine : t.requestEngine = s.requestEngine) (called : t.pendingStart = s.pendingStart)
    (ports : t.ports = s.ports) : GrantsLess s t := ⟨engine, called, fun q may => by rwa [ports] at may⟩

theorem GrantsLess.trans (first : GrantsLess s t) (second : GrantsLess t u) : GrantsLess s u :=
  ⟨second.engine.trans first.engine, second.called.trans first.called,
    fun q may => first.ports q (second.ports q may)⟩

theorem respond_grantsLess (s : State) (p : Port) (r : Response) : GrantsLess s (s.respond p r) := by
  refine ⟨rfl, rfl, fun q may => ?_⟩
  rw [State.respond_get] at may
  split at may
  · cases may
  · exact may

theorem SpoolMoves.grantsLess (h : SpoolMoves s t) : GrantsLess s t :=
  .stands (by rw [h.frame]; rfl) (by rw [h.frame]; rfl) h.ports

theorem State.moveChannel_stands (s : State) (c : Chan) (x : Channel) (lost : Bool) (q : Port) :
    (s.ports[q]).Stands (s.moveChannel c x lost).ports[q] := by
  cases lost with
  | false => exact .refl _
  | true => exact latchWhere_stands scaleFault_latches (s.setChannel c x) _ q

theorem State.moveChannel_grantsLess (s : State) (c : Chan) (x : Channel) (lost : Bool) :
    GrantsLess s (s.moveChannel c x lost) :=
  .stands (by rw [State.moveChannel_eq]) (by rw [State.moveChannel_eq]) (s.moveChannel_stands c x lost)

theorem Acted.stands {res : CaptureResult} {i : Slot} {x : Ticket} {m : Marker} (h : Acted res i x m s u) (q : Port) :
    (s.ports[q]).Stands u.ports[q] := by
  cases h with
  | issued | freed | failed => exact .refl _
  | dumped ends | binned ends => exact putTicket_stands _ _ ends q

theorem ScaleResult.grantsLess {weighs : Bool} {c : Chan} (h : ScaleResult weighs c s t) : GrantsLess s t := by
  cases h with
  | quiet x lost => exact s.moveChannel_grantsLess c x lost
  | @ended cap x lost res =>
    refine (s.moveChannel_grantsLess c x lost).trans ?_
    rcases captureOutcome_cases c cap.kind cap.slot res (s.moveChannel c x lost) with same | ⟨a, m, -, -, -, -, acts⟩
    · rw [same]
      exact .same rfl rfl rfl
    · obtain ⟨u, o, d, acted, answered⟩ := actOnOutcome_acted cap.slot a m res (s.moveChannel c x lost)
      rw [acts, answered]
      refine GrantsLess.trans ?_ (respond_grantsLess u m.port _)
      exact .stands (by rw [acted.frame]) (by rw [acted.frame]) acted.stands

theorem arbitrate_arbiterLaw (s : State) : ArbiterLaw s.arbitrate := by
  intro free uncalled
  rcases arbitrate_cases s with ⟨same, idle⟩ | ⟨p, -, -, -, -, granted⟩
  · rw [same] at free uncalled ⊢
    exact idle free uncalled
  · rw [granted] at free
    cases free

/-- After a start no port holds a request. -/
theorem start_arbiterLaw (k : StartKind) (moves : SpoolMoves t u) (ports : t.ports = (s.commonStart k).ports) :
    ArbiterLaw u := by
  intro _ _ q
  rw [(moves.ports q).grantable, ports]
  simp [State.commonStart, StationPort.start, StationPort.grantable]

theorem answerDeferred_grantsLess (s : State) (p : Port) (o : OutcomeCode) : GrantsLess s (s.answerDeferred p o) := by
  unfold State.answerDeferred
  split
  · exact respond_grantsLess s p _
  · exact .same rfl rfl rfl

theorem gapEnd_grantable (x : StationPort) : x.gapEnd.grantable = x.grantable := by
  unfold StationPort.gapEnd
  split <;> rfl

theorem responseSent_arbiterLaw (p : Port) (law : ArbiterLaw s) : ArbiterLaw (responseSent p s) := by
  unfold responseSent
  split
  · exact law
  · exact arbitrate_arbiterLaw _

theorem Occurs.arbiterLaw {i : Instr} (h : Occurs s i t) (law : ArbiterLaw s) : ArbiterLaw t := by
  cases h with
  | idle => exact law
  | byte p b => exact arbitrate_arbiterLaw _
  | gap p =>
    refine GrantsLess.arbiterLaw (s := s) ⟨rfl, rfl, fun q may => ?_⟩ law
    rw [portGap, State.setPort_get] at may
    split at may
    · rename_i here
      subst here
      rwa [gapEnd_grantable] at may
    · exact may
  | sent p => exact responseSent_arbiterLaw p law
  | scale _ moved => exact moved.grantsLess.arbiterLaw law
  | @expired i x w slot window =>
    have stands := fun q => (putTicket_stands (s := s) i x.unhold true q).trans
      (latchWhere_stands windowExpired_latches (s.putTicket i x.unhold true) (fun k _ => k == w.holder) q)
    have less : GrantsLess s ((s.putTicket i x.unhold true).latchAt .windowExpired w.holder) := .stands rfl rfl stands
    exact less.arbiterLaw law
  | printed _ moves => exact moves.grantsLess.arbiterLaw law
  | saved x o =>
    refine GrantsLess.arbiterLaw (GrantsLess.trans ?_ (answerDeferred_grantsLess _ _ o)) law
    exact .same rfl rfl rfl
  | second | resetDark | releasedDark | lost | lostDark => exact law
  | powered k =>
    cases k with
    | warm => exact start_arbiterLaw .warm (warmStart_moves _) rfl
    | cold => exact start_arbiterLaw .cold (coldStart_moves _) rfl
  | reset => exact start_arbiterLaw .warm (warmStart_moves _) rfl
  | warmCalled => exact start_arbiterLaw .warm (warmStart_moves s) rfl
  | coldCalled => exact start_arbiterLaw .cold (coldStart_moves s) rfl
  | released =>
    refine SpoolMoves.unmoved.takeClocks.grantsLess.arbiterLaw ?_
    exact law

end

/-- Settles O9: every request frees the engine for the next grant, and no event but those that arbitrate makes a port
grantable. -/
theorem arbiterNeverIdlesOnWork : Obligations.ArbiterNeverIdlesOnWork := fun s t law next => by
  refine step_keeps (P := ArbiterLaw) (fun _ _ law => law) (fun i s t law next => ?_) law next
  rcases exec_cases next with ⟨code, r, u, -, -, -, -, rfl⟩ | occurs
  · exact arbitrate_arbiterLaw _
  · exact occurs.arbiterLaw law

/-! ### Bytes, gaps and sent responses (R167 to R172) -/

section
variable {s : State} {p : Port}

/-- A grant to a free engine, as the statements say it; a busy engine stays with its port. -/
theorem arbitrate_grants (s t : State) (engine : t.requestEngine = s.requestEngine) (pointer : t.pointer = s.pointer) :
    if s.requestEngine ≠ none then t.arbitrate.requestEngine = s.requestEngine ∧ t.arbitrate.pointer = s.pointer
    else NextGrant s t.arbitrate := by
  split
  · rename_i busy
    have same : t.arbitrate = t := by
      unfold State.arbitrate
      rw [if_pos]
      rw [engine, Option.isSome_iff_ne_none.mpr busy, Bool.true_or]
    rw [same]
    exact ⟨engine, pointer⟩
  · rename_i free
    rw [not_not] at free
    have released : t.releaseEngine = t.arbitrate := by
      rw [State.releaseEngine]
      congr 1
      rw [← free, ← engine]
    rw [← released]
    exact nextGrant_releaseEngine pointer

theorem arbitrate_ports (s : State) : s.arbitrate.ports = s.ports := by
  rcases arbitrate_cases s with ⟨h, -⟩ | ⟨p, -, -, -, -, h⟩ <;> rw [h]

/-- A byte leaves the port with the record that the byte makes of it, and lets the port be granted. -/
theorem portByteReceived_becomes (taking : s.taking = true) {b : Byte} {y : StationPort}
    (taken : s.ports[p].takeByte b = y) :
    ∃ t, exec (.portByteReceived p b) s = .next t ∧ Apart t s ∧ t.ports = s.ports.set p y ∧
      (if s.requestEngine ≠ none then t.requestEngine = s.requestEngine ∧ t.pointer = s.pointer
        else NextGrant s t) := by
  refine ⟨portByte p b s, congrArg _ (if_pos taking), ?_, ?_, arbitrate_grants s _ rfl rfl⟩
  · exact (apart_arbitrate _).trans (apart_iff.mpr ⟨_, _, _, rfl⟩)
  · rw [portByte, arbitrate_ports, ← taken]
    rfl

theorem takeByte_of_off {x : StationPort} (off : x.role = .off) (b : Byte) : x.takeByte b = x := if_pos off

theorem judgeFrame_of_bad {x : StationPort} {len : Byte} {rest : List Byte}
    (bad : len.toNat < 2 ∨ 240 < len.toNat ∨ byteSum (len :: rest) ≠ 0) :
    ({ x with receiver := .hunt } : StationPort).judgeFrame len rest = badFramed x := by
  refine if_neg fun good => ?_
  simp only [frameGood, Bool.and_eq_true, decide_eq_true_eq, beq_iff_eq] at good
  obtain ⟨⟨least, most⟩, sum⟩ := good
  rcases bad with short | long | check
  · omega
  · omega
  · exact check sum

theorem judgeFrame_of_goodSum {x : StationPort} {len tag code b : Byte} {data : List Byte} (least : 2 ≤ len.toNat)
    (most : len.toNat ≤ 240) (sum : byteSum (len :: (tag :: code :: data ++ [b])) = 0) :
    x.judgeFrame len (tag :: code :: data ++ [b]) = x.goodFrame tag code data :=
  judgeFrame_of_good (by simp only [frameGood, least, most, sum]; rfl)

theorem gapEnd_of_hunt {x : StationPort} (hunts : x.receiver = .hunt) : x.gapEnd = x := by
  rw [StationPort.gapEnd, hunts]

theorem gapEnd_of_partial {x : StationPort} (reads : x.receiver ≠ .hunt) : x.gapEnd = badFramed x := by
  unfold StationPort.gapEnd
  split
  · exact absurd ‹_› reads
  · rfl
  · rfl

theorem portGapExpiry_exec (taking : s.taking = true) :
    exec (.portGapExpiry p) s = .next
      (if s.ports[p].receiver = .hunt then s else { s with ports := s.ports.set p (badFramed s.ports[p]) }) := by
  refine congrArg _ ((if_pos taking).trans ?_)
  unfold portGap
  split
  · rw [gapEnd_of_hunt ‹_›, State.setPort, set_self]
  · rw [gapEnd_of_partial ‹_›]
    rfl

theorem Response.callsStart_iff (r : Response) :
    r.callsStart = true ↔ r.outcome = .ok ∧ (r.code = 0x55 ∨ r.code = 0x56) := by
  simp [Response.callsStart]

theorem responseSent_exec (taking : s.taking = true) {r : Response} {rest : List Response}
    (output : s.ports[p].output = r :: rest) :
    ∃ t, exec (.responseSent p) s = .next t ∧
      Apart t { s with
        pendingStart :=
          if r.outcome = .ok ∧ (r.code = 0x55 ∨ r.code = 0x56) then
            s.pendingStart.map fun x => { x with sent := true }
          else s.pendingStart } ∧
      t.ports = s.ports.set p { s.ports[p] with output := rest } ∧
      (if s.requestEngine ≠ none then t.requestEngine = s.requestEngine ∧ t.pointer = s.pointer
        else NextGrant s t) := by
  have sent : ∃ u : State, responseSent p s = u.arbitrate ∧ u = { s with
      ports := s.ports.set p { s.ports[p] with output := rest }
      pendingStart :=
        if r.outcome = .ok ∧ (r.code = 0x55 ∨ r.code = 0x56) then
          s.pendingStart.map fun x => { x with sent := true }
        else s.pendingStart } := by
    unfold responseSent
    rw [output]
    refine ⟨_, rfl, ?_⟩
    by_cases calls : r.callsStart = true
    · rw [if_pos calls, if_pos (r.callsStart_iff.mp calls)]
      rfl
    · rw [if_neg calls, if_neg (mt r.callsStart_iff.mpr calls)]
      rfl
  obtain ⟨u, arbitrated, itsState⟩ := sent
  refine ⟨responseSent p s, congrArg _ (if_pos taking), ?_, ?_, ?_⟩
  · rw [arbitrated]
    exact (apart_arbitrate u).trans (apart_iff.mpr ⟨_, _, _, itsState⟩)
  · rw [arbitrated, arbitrate_ports, itsState]
  · rw [arbitrated]
    exact arbitrate_grants s u (by rw [itsState]) (by rw [itsState])

end

/-- Settles O58: the receiver by its states, the gap timer, and the head of the output queue. -/
theorem portBytesMoveTheReceiver : Obligations.PortBytesMoveTheReceiver := by
  refine ⟨fun s p b taking => ?_, fun s p taking => ⟨portGapExpiry_exec taking, fun empty => ?_, fun r rest output =>
    responseSent_exec taking output⟩⟩
  · have becomes := fun {y} (taken : s.ports[p].takeByte b = y) => portByteReceived_becomes taking taken
    refine ⟨fun off => becomes (takeByte_of_off off b), fun on => ⟨fun hunts => becomes (takeByte_of_hunt on hunts b),
      fun counts => becomes (takeByte_of_length on counts b), fun len held expected holds => ⟨fun more =>
        becomes (takeByte_of_body on holds more b), fun last bad => ?_, ?_⟩⟩⟩
    · exact becomes ((takeByte_of_last on holds last b).trans (judgeFrame_of_bad bad))
    · rintro last least most sum tag code data rfl
      exact becomes ((takeByte_of_last on holds last b).trans (judgeFrame_of_goodSum least most sum))
  · refine congrArg _ ((if_pos taking).trans ?_)
    rw [responseSent, empty]

end Sys2Proof.Machine
end

section
/-! SUPPORT. The tickets' own law: each edit and each weighing leaves a lawful record (2.3, R24, R73 to R77). -/

namespace Sys2Proof.Machine

/-! ### Lines (R73 to R78) -/

theorem Line.reform_lawful {l : Line} (negative : l.negative = decide (l.net ≤ 0))
    (undeducted : l.net ≤ 0 → l.autoDed = 0) (unpriced : l.unpriced = l.price.isNone) : l.reform.lawful :=
  ⟨negative, undeducted, rfl, rfl, rfl, unpriced⟩

theorem Line.priceAnew_lawful {l : Line} (st : Settings) (negative : l.negative = decide (l.net ≤ 0)) :
    (l.priceAnew st).lawful :=
  Line.reform_lawful negative (fun below => if_neg (not_lt.mpr below)) rfl

theorem newLine_lawful (st : Settings) (g : GradeIx) (net : Int) : (newLine st g net).lawful :=
  Line.priceAnew_lawful st rfl

theorem Line.deduct_lawful {l : Line} (dm : Nat) (law : l.lawful) : (l.deduct dm).lawful := by
  obtain ⟨negative, undeducted, -, -, -, unpriced⟩ := law
  exact Line.reform_lawful negative undeducted unpriced

/-! ### Tickets whose state stands -/

/-- What the state law of a ticket reads. -/
structure Ticket.SameStanding (t t' : Ticket) : Prop where
  number : t'.number = t.number
  kind : t'.kind = t.kind
  state : t'.state = t.state
  marker : t'.marker = t.marker
  window : t'.window = t.window
  weighings : t'.weighings = t.weighings
  lines : t'.lines.length = t.lines.length

theorem Ticket.stateLaw_congr {t t' : Ticket} (same : t.SameStanding t') (law : t.stateLaw) : t'.stateLaw := by
  obtain ⟨number, kind, state, marker, window, weighings, lines⟩ := same
  have none_left : t.lines = [] → t'.lines = [] := fun h => List.eq_nil_of_length_eq_zero (by rw [lines, h]; rfl)
  unfold Ticket.stateLaw at law ⊢
  rw [number, kind, state, marker, window, weighings, lines]
  revert law
  split
  · rintro ⟨h1, h2, h3, h4, h5, h6⟩
    exact ⟨h1, h2, h3, h4, h5, none_left h6⟩
  all_goals exact id

theorem Ticket.weighingCount_congr {t t' : Ticket} (same : t.SameStanding t') : t'.weighingCount = t.weighingCount := by
  unfold Ticket.weighingCount
  rw [same.kind, same.state, same.lines]

/-- A ticket whose standing is kept and whose lines and total are lawful. -/
theorem Ticket.lawful_of_sameStanding {t t' : Ticket} (same : t.SameStanding t') (lines : ∀ l ∈ t'.lines, l.lawful)
    (total : t'.total = min (amountSum t'.lines) Config.maxAmount)
    (clamped : t'.totalClamped = decide (Config.maxAmount < amountSum t'.lines)) (law : t.lawful) : t'.lawful := by
  obtain ⟨state, weighings, -⟩ := law
  refine ⟨stateLaw_congr same state, ?_, lines, total, clamped⟩
  rw [same.weighings, weighingCount_congr same]
  exact weighings

theorem Ticket.deduct_lawful {t : Ticket} (k dm : Nat) (law : t.lawful) : (t.deduct k dm).lawful := by
  refine lawful_of_sameStanding (t := t) ⟨rfl, rfl, rfl, rfl, rfl, rfl, List.length_modify _ _ _⟩ (fun l member => ?_) rfl rfl law
  obtain ⟨-, -, lines, -⟩ := law
  obtain ⟨n, below, rfl⟩ := List.mem_iff_getElem.mp member
  have old : n < t.lines.length := by rw [← List.length_modify]; exact below
  have entry : (t.deduct k dm).lines[n] = if k = n then (t.lines[n]'old).deduct dm else t.lines[n]'old :=
    List.getElem_modify _ _ _ _ _
  rw [entry]
  split
  · exact Line.deduct_lawful dm (lines _ (List.getElem_mem old))
  · exact lines _ (List.getElem_mem old)

theorem Ticket.reprice_lawful {t : Ticket} (st : Settings) (law : t.lawful) : (t.reprice st).lawful := by
  refine lawful_of_sameStanding (t := t) ⟨rfl, rfl, rfl, rfl, rfl, rfl, List.length_map _⟩ (fun l member => ?_) rfl rfl law
  obtain ⟨-, -, lines, -⟩ := law
  obtain ⟨l, old, rfl⟩ := List.mem_map.mp member
  exact Line.priceAnew_lawful st (lines l old).1

/-- The lines and the total are kept by an edit of anything else. -/
theorem Ticket.lawful_of_sameLines {t t' : Ticket} (state : t'.stateLaw) (weighings : t'.weighings.length = t'.weighingCount)
    (lines : t'.lines = t.lines) (total : t'.total = t.total) (clamped : t'.totalClamped = t.totalClamped)
    (law : t.lawful) : t'.lawful := by
  obtain ⟨-, -, lawful, itsTotal, itsClamp⟩ := law
  refine ⟨state, weighings, ?_, ?_, ?_⟩
  · rw [lines]; exact lawful
  · rw [lines, total]; exact itsTotal
  · rw [lines, clamped]; exact itsClamp

/-! ### Tickets that change their state -/

section
variable {t : Ticket}

theorem Ticket.state_of_atWindow (law : t.lawful) (state : t.state = .atWindow) :
    t.number.isSome = true ∧ t.marker = none ∧ t.window.isSome = true ∧ 1 ≤ t.lines.length ∧ t.lines.length ≤ 8 := by
  obtain ⟨itsLaw, -⟩ := law
  unfold Ticket.stateLaw at itsLaw
  rwa [state] at itsLaw

theorem Ticket.state_of_weighed (law : t.lawful) (state : t.state = .weighed) :
    t.number.isSome = true ∧ t.marker = none ∧ t.window = none ∧ 1 ≤ t.lines.length ∧ t.lines.length ≤ 8 := by
  obtain ⟨itsLaw, -⟩ := law
  unfold Ticket.stateLaw at itsLaw
  rwa [state] at itsLaw

theorem Ticket.state_of_counter (law : t.lawful) (state : t.state = .counter) :
    t.kind = .walkin ∧ t.number.isSome = true ∧ (∀ m, t.marker = some m → m.purpose.kind = .bin) ∧ t.window = none ∧
      t.lines.length ≤ 7 := by
  obtain ⟨itsLaw, -⟩ := law
  unfold Ticket.stateLaw at itsLaw
  rwa [state] at itsLaw

theorem Ticket.state_of_weighing (law : t.lawful) (state : t.state = .weighing) :
    t.kind = .truck ∧ t.number.isSome = true ∧ (∀ m, t.marker = some m → m.purpose.kind = .dump) ∧ t.window = none ∧
      t.lines.length ≤ 7 := by
  obtain ⟨itsLaw, -⟩ := law
  unfold Ticket.stateLaw at itsLaw
  rwa [state] at itsLaw

theorem Ticket.state_of_opening (law : t.lawful) (state : t.state = .opening) :
    t.kind = .truck ∧ t.number = none ∧ (t.marker.map fun m => m.purpose.kind) = some .gross ∧ t.window = none ∧
      t.weighings = [] ∧ t.lines = [] := by
  obtain ⟨itsLaw, -⟩ := law
  unfold Ticket.stateLaw at itsLaw
  rwa [state] at itsLaw

/-- The count of weighings is the same in every state but OPENING (R24). -/
theorem Ticket.weighingCount_of_opened (opened : t.state ≠ .opening) :
    t.weighingCount = t.lines.length + (if t.kind = .truck then 1 else 0) := by
  unfold Ticket.weighingCount
  split
  · exact absurd ‹_› opened
  · rename_i truck _
    rw [if_pos truck]
  · rename_i walkin
    rw [walkin]
    rfl

theorem Ticket.window_of_other (law : t.lawful) (other : t.state ≠ .atWindow) : t.window = none := by
  cases state : t.state with
  | opening => exact (t.state_of_opening law state).2.2.2.1
  | weighing => exact (t.state_of_weighing law state).2.2.2.1
  | counter => exact (t.state_of_counter law state).2.2.2.1
  | weighed => exact (t.state_of_weighed law state).2.2.1
  | atWindow => exact absurd state other

/-- The state that a marker's purpose belongs to (R26). -/
theorem Ticket.state_of_marker {m : Marker} (law : t.lawful) (marker : t.marker = some m) :
    (m.purpose.kind = .gross → t.state = .opening) ∧ (m.purpose.kind = .dump → t.state = .weighing) ∧
      (m.purpose.kind = .bin → t.state = .counter) := by
  cases state : t.state with
  | opening =>
    obtain ⟨-, -, gross, -⟩ := t.state_of_opening law state
    rw [marker, Option.map_some, Option.some.injEq] at gross
    rw [gross]
    exact ⟨fun _ => rfl, nofun, nofun⟩
  | weighing =>
    rw [(t.state_of_weighing law state).2.2.1 m marker]
    exact ⟨nofun, fun _ => rfl, nofun⟩
  | counter =>
    rw [(t.state_of_counter law state).2.2.1 m marker]
    exact ⟨nofun, nofun, fun _ => rfl⟩
  | weighed => exact absurd (marker.symm.trans (t.state_of_weighed law state).2.1) (Option.some_ne_none m)
  | atWindow => exact absurd (marker.symm.trans (t.state_of_atWindow law state).2.1) (Option.some_ne_none m)

theorem Ticket.weighings_of_opened (law : t.lawful) (opened : t.state ≠ .opening) :
    t.weighings.length = t.lines.length + (if t.kind = .truck then 1 else 0) := by
  rw [law.2.1, weighingCount_of_opened opened]

theorem Ticket.closed_lawful (law : t.lawful) (state : t.state = .counter) (marker : t.marker = none)
    (lines : t.lines ≠ []) : ({ t with state := .weighed } : Ticket).lawful := by
  obtain ⟨-, number, -, window, most⟩ := t.state_of_counter law state
  refine lawful_of_sameLines (t := t) ⟨number, marker, window, List.length_pos_iff.mpr lines, Nat.le_succ_of_le most⟩ ?_ rfl rfl rfl
    law
  rw [weighingCount_of_opened (t := { t with state := .weighed }) nofun]
  exact t.weighings_of_opened law (by rw [state]; nofun)

theorem Ticket.hold_lawful (p : Port) (time : Nat) (law : t.lawful) (state : t.state = .weighed ∨ t.state = .atWindow) :
    (t.hold p time).lawful := by
  have standing : t.number.isSome = true ∧ t.marker = none ∧ 1 ≤ t.lines.length ∧ t.lines.length ≤ 8 := by
    rcases state with weighed | atWindow
    · obtain ⟨number, marker, -, least, most⟩ := t.state_of_weighed law weighed
      exact ⟨number, marker, least, most⟩
    · obtain ⟨number, marker, -, least, most⟩ := t.state_of_atWindow law atWindow
      exact ⟨number, marker, least, most⟩
  obtain ⟨number, marker, least, most⟩ := standing
  refine lawful_of_sameLines (t := t) ⟨number, marker, rfl, least, most⟩ ?_ rfl rfl rfl law
  rw [weighingCount_of_opened (t := t.hold p time) nofun]
  exact t.weighings_of_opened law (by rcases state with h | h <;> rw [h] <;> nofun)

theorem Ticket.unhold_lawful (law : t.lawful) (state : t.state = .atWindow) : t.unhold.lawful := by
  obtain ⟨number, marker, -, least, most⟩ := t.state_of_atWindow law state
  refine lawful_of_sameLines (t := t) ⟨number, marker, rfl, least, most⟩ ?_ rfl rfl rfl law
  rw [weighingCount_of_opened (t := t.unhold) nofun]
  exact t.weighings_of_opened law (by rw [state]; nofun)

/-- A marker set or removed in a ticket that is being weighed keeps its record lawful. -/
theorem Ticket.remarked_lawful (x : Option Marker) (law : t.lawful)
    (fits : (t.state = .weighing ∧ ∀ m, x = some m → m.purpose.kind = .dump) ∨
      (t.state = .counter ∧ ∀ m, x = some m → m.purpose.kind = .bin)) : ({ t with marker := x } : Ticket).lawful := by
  refine lawful_of_sameLines (t := t) ?_ law.2.1 rfl rfl rfl law
  unfold Ticket.stateLaw
  rcases fits with ⟨state, kind⟩ | ⟨state, kind⟩
  · obtain ⟨truck, number, -, window, most⟩ := t.state_of_weighing law state
    rw [state]
    exact ⟨truck, number, kind, window, most⟩
  · obtain ⟨walkin, number, -, window, most⟩ := t.state_of_counter law state
    rw [state]
    exact ⟨walkin, number, kind, window, most⟩

theorem unmarked_kind (k : CaptureKind) : ∀ m, (none : Option Marker) = some m → m.purpose.kind = k := nofun

/-- The record of a truck at the window's yard gate, before its gross capture ends (R49). -/
theorem newTruck_lawful (p : Port) (plate : Option Text) {m : Marker} (gross : m.purpose.kind = .gross) :
    ({ newTicket .truck .opening p plate with marker := some m } : Ticket).lawful :=
  ⟨⟨rfl, rfl, congrArg some gross, rfl, rfl, rfl⟩, rfl, fun _ member => absurd member List.not_mem_nil, rfl, rfl⟩

theorem openedWalkin_lawful (s : State) (p : Port) (n : Nat) : (openedWalkin s p n).lawful :=
  ⟨⟨rfl, rfl, unmarked_kind _, rfl, Nat.zero_le 7⟩, rfl,
    fun _ member => absurd member List.not_mem_nil, rfl, rfl⟩

/-! ### Weighings (R45 to R57) -/

theorem Ticket.grossed_lawful (n : Nat) (c : Chan) (w : Nat) (time : Option Nat) (law : t.lawful)
    (state : t.state = .opening) : (t.grossed n c w time).lawful := by
  obtain ⟨truck, -, -, window, weighings, lines⟩ := t.state_of_opening law state
  refine lawful_of_sameLines (t := t) ⟨truck, rfl, unmarked_kind _, window, ?_⟩ ?_ rfl rfl rfl law
  · change t.lines.length ≤ 7
    rw [lines]
    exact Nat.zero_le 7
  · rw [weighingCount_of_opened (t := t.grossed n c w time) nofun]
    change (t.weighings ++ [_]).length = t.lines.length + if t.kind = .truck then 1 else 0
    rw [weighings, lines, truck]
    rfl

theorem addedLines_lawful {l : Line} (law : t.lawful) (lawful : l.lawful) : ∀ x ∈ t.lines ++ [l], x.lawful := by
  intro x member
  rcases List.mem_append.mp member with old | new
  · exact law.2.2.1 x old
  · rw [List.mem_singleton.mp new]
    exact lawful

/-- The count of lines after one more, by whether weighing ends with it (R53). -/
theorem lines_after {n : Nat} {final : Bool} (most : n ≤ 7) :
    (final || n + 1 == Config.maxLines) = false → n + 1 ≤ 7 := by
  intro goesOn
  have limit : Config.maxLines = 8 := rfl
  simp only [Bool.or_eq_false_iff, beq_eq_false_iff_ne, limit] at goesOn
  omega

theorem Ticket.dumped_lawful (st : Settings) (g : GradeIx) (final : Bool) (c : Chan) (w : Nat) (time : Option Nat)
    (law : t.lawful) (state : t.state = .weighing) : (t.dumped st g final c w time).lawful := by
  obtain ⟨truck, number, -, window, most⟩ := t.state_of_weighing law state
  have count := t.weighings_of_opened law (by rw [state]; nofun)
  have lines : (t.dumped st g final c w time).lines.length = t.lines.length + 1 := List.length_append
  have itsState : (t.dumped st g final c w time).state =
      if final || t.lines.length + 1 == Config.maxLines then .weighed else t.state := rfl
  refine ⟨?_, ?_, addedLines_lawful (t := t) law (newLine_lawful st g _), rfl, rfl⟩
  · unfold Ticket.stateLaw
    rw [itsState, lines]
    cases ends : final || t.lines.length + 1 == Config.maxLines with
    | true => exact ⟨number, rfl, window, Nat.le_add_left 1 _, Nat.succ_le_succ most⟩
    | false =>
      rw [if_neg Bool.false_ne_true, state]
      exact ⟨truck, number, unmarked_kind _, window, lines_after most ends⟩
  · rw [weighingCount_of_opened, lines]
    · change (t.weighings ++ [_]).length = t.lines.length + 1 + if t.kind = .truck then 1 else 0
      rw [List.length_append, count]
      exact Nat.add_right_comm _ _ _
    · rw [itsState, state]
      split <;> nofun

theorem Ticket.binned_lawful (st : Settings) (g : GradeIx) (k : Container) (c : Chan) (w : Nat) (time : Option Nat)
    (law : t.lawful) (state : t.state = .counter) : (t.binned st g k c w time).lawful := by
  obtain ⟨walkin, number, -, window, most⟩ := t.state_of_counter law state
  have count := t.weighings_of_opened law (by rw [state]; nofun)
  have lines : (t.binned st g k c w time).lines.length = t.lines.length + 1 := List.length_append
  have itsState : (t.binned st g k c w time).state =
      if t.lines.length + 1 == Config.maxLines then .weighed else t.state := rfl
  refine ⟨?_, ?_, addedLines_lawful (t := t) law (newLine_lawful st g _), rfl, rfl⟩
  · unfold Ticket.stateLaw
    rw [itsState, lines]
    cases ends : t.lines.length + 1 == Config.maxLines with
    | true => exact ⟨number, rfl, window, Nat.le_add_left 1 _, Nat.succ_le_succ most⟩
    | false =>
      rw [if_neg Bool.false_ne_true, state]
      exact ⟨walkin, number, unmarked_kind _, window, lines_after (final := false) most ends⟩
  · rw [weighingCount_of_opened, lines]
    · change (t.weighings ++ [_]).length = t.lines.length + 1 + if t.kind = .truck then 1 else 0
      rw [List.length_append, count]
      exact Nat.add_right_comm _ _ _
    · rw [itsState, state]
      split <;> nofun

/-- The ticket of a warm start (R43). -/
theorem warmSlot_lawful {a b : Ticket} (law : a.lawful) (warmed : warmSlot (some a) = some b) :
    b.lawful ∧ b.marker = none ∧ b.window = none := by
  unfold warmSlot at warmed
  dsimp only at warmed
  split at warmed <;> rename_i state
  · cases warmed
  · obtain rfl := Option.some.inj warmed
    obtain ⟨number, marker, -, least, most⟩ := a.state_of_atWindow law state
    have unheld := a.unhold_lawful law state
    refine ⟨?_, rfl, rfl⟩
    have same : a.unhold = { a with marker := none, state := .weighed, window := none } := by
      rw [Ticket.unhold, ← marker]
    rwa [same] at unheld
  · obtain rfl := Option.some.inj warmed
    exact ⟨a.remarked_lawful none law (.inl ⟨state, nofun⟩), rfl, a.window_of_other law (by rw [state]; nofun)⟩
  · obtain rfl := Option.some.inj warmed
    exact ⟨a.remarked_lawful none law (.inr ⟨state, nofun⟩), rfl, a.window_of_other law (by rw [state]; nofun)⟩
  · obtain rfl := Option.some.inj warmed
    obtain ⟨-, marker, window, -⟩ := a.state_of_weighed law state
    have same : ({ a with marker := none } : Ticket) = a := by rw [← marker]
    rw [same]
    exact ⟨law, marker, window⟩

end

end Sys2Proof.Machine
end

section
/-! SUPPORT. Markers, captures, saves and deferred requests stay matched (R26, R32, R33, R62, R173): what begins a
match, what ends one, and that every other change keeps them all. -/

namespace Sys2Proof.Machine

/-! ### Port records by their deferred request -/

/-- TAG and CODE of the request that a port holds in phase DEFERRED. -/
def StationPort.deferred (x : StationPort) : Option (Byte × Byte) :=
  x.request.bind fun q => if q.phase = .deferred then some (q.tag, q.code) else none

/-- `y` is port record `x` later, its deferred request as it was, and still in its ranges. -/
structure StationPort.KeepsDeferred (x y : StationPort) : Prop where
  role : y.role = x.role
  deferred : y.deferred = x.deferred
  lawful : x.lawful → y.lawful

namespace StationPort

variable {x y z : StationPort}

theorem KeepsDeferred.refl (x : StationPort) : x.KeepsDeferred x := ⟨rfl, rfl, id⟩

theorem KeepsDeferred.trans (first : x.KeepsDeferred y) (second : y.KeepsDeferred z) : x.KeepsDeferred z :=
  ⟨second.role.trans first.role, second.deferred.trans first.deferred, fun law => second.lawful (first.lawful law)⟩

theorem Stands.keepsDeferred (h : x.Stands y) : x.KeepsDeferred y :=
  ⟨h.role, by rw [deferred, h.request]; rfl, h.lawful⟩

theorem deferred_eq_some {tag code : Byte} :
    x.deferred = some (tag, code) ↔
      (x.request.map fun q => (q.tag, q.code, q.phase)) = some (tag, code, Phase.deferred) := by
  unfold deferred
  cases x.request with
  | none => simp
  | some q => by_cases h : q.phase = .deferred <;> simp [h]

theorem deferred_code {code : Byte} :
    (x.request.map fun q => (q.code, q.phase)) = some (code, Phase.deferred) ↔ ∃ tag, x.deferred = some (tag, code) := by
  unfold deferred
  cases x.request with
  | none => simp
  | some q => by_cases h : q.phase = .deferred <;> simp [h]

theorem deferred_ne_none : x.deferred ≠ none ↔ ∃ q, x.request = some q ∧ q.phase = .deferred := by
  unfold deferred
  cases x.request with
  | none => simp
  | some q => by_cases h : q.phase = .deferred <;> simp [h]

theorem deferred_of_waiting {q : Request} (request : x.request = some q) (waiting : q.phase = .waiting) :
    x.deferred = none := by
  rw [deferred, request, Option.bind_some, if_neg]
  rw [waiting]
  nofun

theorem grantable_iff :
    x.grantable = true ↔ ∃ q, x.request = some q ∧ q.phase = .waiting ∧ x.output.length < 4 := by
  unfold grantable
  cases x.request with
  | none => simp
  | some q => simp

theorem respond_deferred (r : Response) : (x.respond r).deferred = none := rfl

/-- A request that ends gives its place in the queue to its answer (R171). -/
theorem respond_lawful (r : Response) (room : x.output.length ≤ 3) (law : x.lawful) : (x.respond r).lawful := by
  obtain ⟨-, -, latched, mask, start, bad, off, -⟩ := law
  refine ⟨?_, nofun, latched, mask, start, bad, fun isOff => ⟨(off isOff).1, rfl⟩, nofun⟩
  change (x.output ++ [r]).length ≤ 4
  rw [List.length_append]
  exact Nat.succ_le_succ room

/-- The answer of a WAITING request leaves no deferred one behind. -/
theorem answered_keepsDeferred {q : Request} (r : Response) (request : x.request = some q) (waiting : q.phase = .waiting)
    (room : x.output.length ≤ 3) : x.KeepsDeferred (x.respond r) :=
  ⟨rfl, by rw [deferred_of_waiting request waiting]; rfl, respond_lawful r room⟩

theorem answerAtPort_keepsDeferred (r : Response) : x.KeepsDeferred (x.answerAtPort r) := by
  unfold answerAtPort
  split
  · exact .refl x
  · rename_i room
    have more : (x.output ++ [r]).length ≤ 3 := by
      rw [List.length_append]
      exact Nat.lt_of_not_le room
    exact ⟨rfl, rfl, fun ⟨_, _, rest⟩ => ⟨Nat.le_succ_of_le more, fun _ _ _ => more, rest⟩⟩

theorem answerAtPort_grantable (r : Response) (may : x.grantable = true) : (x.answerAtPort r).grantable = true := by
  unfold answerAtPort
  split
  · exact may
  · rename_i room
    obtain ⟨q, request, waiting, -⟩ := grantable_iff.mp may
    refine grantable_iff.mpr ⟨q, request, waiting, ?_⟩
    rw [List.length_append]
    exact Nat.succ_lt_succ (Nat.lt_of_not_le room)

theorem linkError_latches : Event.linkError.latches := ⟨by decide, by decide⟩

theorem badFrame_keepsDeferred : x.KeepsDeferred x.badFrame := by
  have counted : x.KeepsDeferred { x with badFrames := min 255 (x.badFrames + 1) } :=
    ⟨rfl, rfl, fun ⟨room, held, latched, mask, start, _, rest⟩ =>
      ⟨room, held, latched, mask, start, min_le_left _ _, rest⟩⟩
  exact counted.trans (latch_stands linkError_latches _).keepsDeferred

/-- A port that takes bytes is not OFF, so any receiver suits it. -/
theorem receiver_keepsDeferred (r : PortReceiver) (on : x.role ≠ .off) : x.KeepsDeferred { x with receiver := r } :=
  ⟨rfl, rfl, fun ⟨room, held, latched, mask, start, bad, _, permitted⟩ =>
    ⟨room, held, latched, mask, start, bad, fun isOff => absurd isOff on, permitted⟩⟩

theorem goodFrame_keepsDeferred (tag code : Byte) (data : List Byte) (on : x.role ≠ .off) :
    x.KeepsDeferred (x.goodFrame tag code data) := by
  unfold goodFrame
  split
  · exact answerAtPort_keepsDeferred _
  · have free := isSome_eq_false ‹_›
    split
    · exact answerAtPort_keepsDeferred _
    · rename_i roles listed
      split
      · rename_i permits
        have none_before : x.deferred = none := by rw [deferred, free]; rfl
        refine ⟨rfl, none_before.symm ▸ rfl, fun ⟨room, _, latched, mask, start, bad, _, _⟩ =>
          ⟨room, fun q request phase => ?_, latched, mask, start, bad, fun isOff => absurd isOff on, fun q request => ?_⟩⟩
        · obtain rfl := Option.some.inj request
          cases phase
        · obtain rfl := Option.some.inj request
          rw [listed]
          exact permits
      · exact answerAtPort_keepsDeferred _

theorem goodFrame_grantable (tag code : Byte) (data : List Byte) (may : x.grantable = true) :
    (x.goodFrame tag code data).grantable = true := by
  obtain ⟨q, request, -⟩ := grantable_iff.mp may
  unfold goodFrame
  rw [if_pos (by rw [request]; rfl)]
  exact answerAtPort_grantable _ may

theorem judgeFrame_keepsDeferred (len : Byte) (rest : List Byte) (on : x.role ≠ .off) :
    x.KeepsDeferred (x.judgeFrame len rest) := by
  unfold judgeFrame
  split
  · split
    · exact goodFrame_keepsDeferred _ _ _ on
    · exact .refl x
  · exact badFrame_keepsDeferred

theorem judgeFrame_grantable (len : Byte) (rest : List Byte) (may : x.grantable = true) :
    (x.judgeFrame len rest).grantable = true := by
  unfold judgeFrame
  split
  · split
    · exact goodFrame_grantable _ _ _ may
    · exact may
  · exact may

theorem takeByte_keepsDeferred (b : Byte) : x.KeepsDeferred (x.takeByte b) := by
  unfold takeByte
  split
  · exact .refl x
  · rename_i on
    split
    · split
      · exact receiver_keepsDeferred _ on
      · exact .refl x
    · exact receiver_keepsDeferred _ on
    · split
      · exact (receiver_keepsDeferred .hunt on).trans (judgeFrame_keepsDeferred _ _ on)
      · exact receiver_keepsDeferred _ on

theorem takeByte_grantable (b : Byte) (may : x.grantable = true) : (x.takeByte b).grantable = true := by
  unfold takeByte
  split
  · exact may
  · split
    · split <;> exact may
    · exact may
    · split
      · exact judgeFrame_grantable _ _ may
      · exact may

theorem gapEnd_keepsDeferred : x.KeepsDeferred x.gapEnd := by
  unfold gapEnd
  split
  · exact .refl x
  all_goals
    rename_i reads
    refine KeepsDeferred.trans (y := { x with receiver := .hunt }) ⟨rfl, rfl, ?_⟩ badFrame_keepsDeferred
    rintro ⟨room, held, latched, mask, start, bad, off, permitted⟩
    exact ⟨room, held, latched, mask, start, bad, fun isOff => ⟨rfl, (off isOff).2⟩, permitted⟩

/-- A frame that has been sent leaves the queue. -/
theorem sent_keepsDeferred {r : Response} {rest : List Response} (output : x.output = r :: rest) :
    x.KeepsDeferred { x with output := rest } := by
  refine ⟨rfl, rfl, fun ⟨room, held, others⟩ => ?_⟩
  rw [output, List.length_cons] at room held
  exact ⟨Nat.le_of_succ_le room, fun q request phase => Nat.le_of_succ_le (held q request phase), others⟩

theorem sent_grantable {r : Response} {rest : List Response} (output : x.output = r :: rest) (may : x.grantable = true) :
    ({ x with output := rest } : StationPort).grantable = true := by
  obtain ⟨q, request, waiting, room⟩ := grantable_iff.mp may
  rw [output, List.length_cons] at room
  exact grantable_iff.mpr ⟨q, request, waiting, Nat.lt_of_succ_lt room⟩

theorem start_latched : (0x0001 : EventSet) &&& ~~~latchedEvents = 0 := by decide

theorem start_masked : (0x07FF : EventSet) &&& ~~~allEvents = 0 := by decide

theorem start_named : (0x0001 : EventSet) &&& Event.start.set ≠ 0 := by decide

/-- The port record after a start is in its ranges, and holds nothing. -/
theorem start_lawful (r : Role) (d : StartData) : (start r d).lawful :=
  ⟨Nat.zero_le 4, nofun, start_latched, start_masked, ⟨fun _ => start_named, fun _ => rfl⟩, Nat.zero_le 255, fun _ => ⟨rfl, rfl⟩, nofun⟩

end StationPort

/-! ### The law of matched requests, apart from the grant -/

/-- The law of requests, captures and tickets but for the arbiter (R26, R32, R87, R166 to R173). -/
structure MatchLaw (s : State) : Prop where
  ports (p : Port) : (s.ports[p]).lawful
  markers : MarkerLaw s
  captures : CaptureLaw s
  deferred : DeferredLaw s
  tickets : TicketLaw s
  holders : HolderLaw s

/-- The engine's port may be granted, and the pointer stands at it (R172). -/
def GrantLaw (s : State) : Prop :=
  ∀ p : Port, s.requestEngine = some p → (s.ports[p]).grantable = true ∧ s.pointer = p

theorem requestLaw_iff {s : State} : RequestLaw s ↔ MatchLaw s ∧ GrantLaw s :=
  ⟨fun ⟨⟨ports, grant⟩, markers, captures, deferred, tickets, holders⟩ =>
    ⟨⟨ports, markers, captures, deferred, tickets, holders⟩, grant⟩,
    fun ⟨law, grant⟩ => ⟨⟨law.ports, grant⟩, law.markers, law.captures, law.deferred, law.tickets, law.holders⟩⟩

section
variable {s t u : State}

/-- What the law says of a marker, in the terms of the port's deferred request. -/
theorem MatchLaw.marker (law : MatchLaw s) {i : Slot} {m : Marker} (marked : s.marks i m) :
    ((s.channels[m.channel]).capture.map fun x => (x.kind, x.slot)) = some (m.purpose.kind, i) ∧
      (s.ports[m.port]).deferred = some (m.tag, m.purpose.code) := by
  obtain ⟨capture, request⟩ := law.markers.1 i m marked
  exact ⟨capture, StationPort.deferred_eq_some.mpr request⟩

/-- No two markers name one channel. -/
theorem MatchLaw.channel_alone (law : MatchLaw s) {i k : Slot} {m n : Marker} (first : s.marks i m) (second : s.marks k n)
    (same : m.channel = n.channel) : i = k := by
  have one := (law.marker first).1
  have two := (law.marker second).1
  simp only [same] at one
  rw [two] at one
  exact (congrArg Prod.snd (Option.some.inj one)).symm

theorem Purpose.code_ne_save (p : Purpose) : p.code ≠ 0x52 := by
  cases p <;> rw [Purpose.code] <;> decide

/-- A save's port is no marker's. -/
theorem MatchLaw.save_port (law : MatchLaw s) {w : Save} {i : Slot} {m : Marker} (saving : s.save = some w)
    (marked : s.marks i m) : w.port ≠ m.port := by
  intro same
  obtain ⟨tag, deferred⟩ := StationPort.deferred_code.mp (law.deferred.1 w saving)
  simp only [same] at deferred
  rw [(law.marker marked).2] at deferred
  exact m.purpose.code_ne_save (congrArg Prod.snd (Option.some.inj deferred))

/-- Markers, captures, save and supply stand in `t` as they were in `s`. -/
structure SameMarks (s t : State) : Prop where
  markers (i : Slot) : (t.slots[i].bind fun x => x.marker) = s.slots[i].bind fun x => x.marker
  captures (c : Chan) : (t.channels[c]).capture = (s.channels[c]).capture
  save : t.save = s.save
  power : t.powered = s.powered

theorem SameMarks.marks (same : SameMarks s t) {i : Slot} {m : Marker} : t.marks i m ↔ s.marks i m := by
  unfold State.marks
  rw [same.markers i]

theorem SameMarks.marked (same : SameMarks s t) (i : Slot) (c : Chan) (k : CaptureKind) :
    ((t.slots[i].bind fun x => x.marker.map fun m => (m.channel, m.purpose.kind)) = some (c, k)) ↔
      (s.slots[i].bind fun x => x.marker.map fun m => (m.channel, m.purpose.kind)) = some (c, k) := by
  have through : ∀ x : Option Ticket, (x.bind fun x => x.marker.map fun m => (m.channel, m.purpose.kind)) =
      (x.bind fun x => x.marker).map fun m => (m.channel, m.purpose.kind) := fun x => by cases x <;> rfl
  rw [through, through, same.markers i]

/-- Where markers, captures, save and deferred requests stand, the match is kept. -/
theorem MatchLaw.of_sameMarks (law : MatchLaw s) (same : SameMarks s t)
    (ports : ∀ q : Port, (s.ports[q]).KeepsDeferred t.ports[q]) (tickets : TicketLaw t) (holders : HolderLaw t) :
    MatchLaw t where
  ports q := (ports q).lawful (law.ports q)
  markers := by
    refine ⟨fun i m marked => ?_, fun i k m n first second => law.markers.2 i k m n (same.marks.mp first) (same.marks.mp second)⟩
    obtain ⟨capture, deferred⟩ := law.marker (same.marks.mp marked)
    rw [← StationPort.deferred_eq_some, same.captures, (ports m.port).deferred]
    exact ⟨capture, deferred⟩
  captures := fun c x running => by
    rw [same.captures] at running
    exact (same.marked x.slot c x.kind).mpr (law.captures c x running)
  deferred := by
    refine ⟨fun w saving => ?_, fun p q power request phase => ?_⟩
    · rw [same.save] at saving
      rw [StationPort.deferred_code, (ports w.port).deferred, ← StationPort.deferred_code]
      exact law.deferred.1 w saving
    · have waits : (t.ports[p]).deferred ≠ none := StationPort.deferred_ne_none.mpr ⟨q, request, phase⟩
      rw [(ports p).deferred] at waits
      obtain ⟨q', request', phase'⟩ := StationPort.deferred_ne_none.mp waits
      rw [same.power] at power
      rw [same.save]
      exact (law.deferred.2 p q' power request' phase').imp
        (fun ⟨i, m, marked, port⟩ => ⟨i, m, same.marks.mpr marked, port⟩) id
  tickets := tickets
  holders := holders

theorem HolderLaw.of_ports (law : HolderLaw s) (slots : t.slots = s.slots)
    (roles : ∀ q : Port, (t.ports[q]).role = (s.ports[q]).role) : HolderLaw t := fun i w window => by
  rw [slots] at window
  rw [roles]
  exact law i w window

/-- What leaves the slots leaves the match. -/
theorem MatchLaw.of_sameSlots (law : MatchLaw s) (slots : t.slots = s.slots)
    (captures : ∀ c : Chan, (t.channels[c]).capture = (s.channels[c]).capture) (save : t.save = s.save)
    (power : t.powered = s.powered) (ports : ∀ q : Port, (s.ports[q]).KeepsDeferred t.ports[q]) : MatchLaw t :=
  law.of_sameMarks ⟨fun i => by rw [slots], captures, save, power⟩ ports (fun i x => by rw [slots]; exact law.tickets i x)
    (law.holders.of_ports slots fun q => (ports q).role)

/-! ### One slot -/

section
variable {i : Slot} {x : Option Ticket}

theorem slot_set (slots : t.slots = s.slots.set i x) (k : Slot) : t.slots[k] = if i = k then x else s.slots[k] := by
  rw [slots, getElem_set_fin]

theorem TicketLaw.of_set (law : TicketLaw s) (slots : t.slots = s.slots.set i x) (lawful : ∀ y, x = some y → y.lawful) :
    TicketLaw t := fun k y slot => by
  rw [slot_set slots] at slot
  split at slot
  · exact lawful y slot
  · exact law k y slot

theorem HolderLaw.of_set (law : HolderLaw s) (slots : t.slots = s.slots.set i x)
    (roles : ∀ q : Port, (t.ports[q]).role = (s.ports[q]).role)
    (holder : ∀ y w, x = some y → y.window = some w → (s.ports[w.holder]).role = .payout) : HolderLaw t := fun k w window => by
  rw [roles]
  rw [slot_set slots] at window
  split at window
  · obtain ⟨y, here, itsWindow⟩ := Option.bind_eq_some_iff.mp window
    exact holder y w here itsWindow
  · exact law k w window

/-- An edit of one ticket that leaves its marker leaves the match. -/
theorem MatchLaw.of_ticket (law : MatchLaw s) (slots : t.slots = s.slots.set i x)
    (marker : (x.bind fun y => y.marker) = s.slots[i].bind fun y => y.marker) (lawful : ∀ y, x = some y → y.lawful)
    (holder : ∀ y w, x = some y → y.window = some w → (s.ports[w.holder]).role = .payout)
    (captures : ∀ c : Chan, (t.channels[c]).capture = (s.channels[c]).capture) (save : t.save = s.save)
    (power : t.powered = s.powered) (ports : ∀ q : Port, (s.ports[q]).KeepsDeferred t.ports[q]) : MatchLaw t := by
  refine law.of_sameMarks ⟨fun k => ?_, captures, save, power⟩ ports (law.tickets.of_set slots lawful)
    (law.holders.of_set slots (fun q => (ports q).role) holder)
  rw [slot_set slots]
  split
  · rename_i here
    subst here
    exact marker
  · rfl

/-- A slot whose ticket has no marker may be emptied. -/
theorem MatchLaw.of_freed (law : MatchLaw s) (slots : t.slots = s.slots.set i none)
    (marker : (s.slots[i].bind fun y => y.marker) = none)
    (captures : ∀ c : Chan, (t.channels[c]).capture = (s.channels[c]).capture) (save : t.save = s.save)
    (power : t.powered = s.powered) (ports : ∀ q : Port, (s.ports[q]).KeepsDeferred t.ports[q]) : MatchLaw t :=
  law.of_ticket (x := none) slots marker.symm (fun _ same => nomatch same) (fun _ _ same => nomatch same) captures save
    power ports

/-- The marker of a slot ends with its capture and its deferred request (R33, R37). -/
theorem MatchLaw.of_ended {m : Marker} (law : MatchLaw s) (marked : s.marks i m) (slots : t.slots = s.slots.set i x)
    (left : ∀ y, x = some y → y.marker = none ∧ y.window = none ∧ y.lawful)
    (free : (t.channels[m.channel]).capture = none)
    (captures : ∀ c : Chan, c ≠ m.channel → (t.channels[c]).capture = (s.channels[c]).capture)
    (save : t.save = s.save) (power : t.powered = s.powered)
    (answered : (t.ports[m.port]).role = (s.ports[m.port]).role ∧ (t.ports[m.port]).deferred = none ∧
      (t.ports[m.port]).lawful)
    (ports : ∀ q : Port, q ≠ m.port → (s.ports[q]).KeepsDeferred t.ports[q]) : MatchLaw t := by
  obtain ⟨role, ended, itsLaw⟩ := answered
  have unmarked : (x.bind fun y => y.marker) = none := by
    cases x with
    | none => rfl
    | some y => exact (left y rfl).1
  have marks : ∀ {k n}, t.marks k n ↔ k ≠ i ∧ s.marks k n := fun {k n} => by
    unfold State.marks
    rw [slot_set slots]
    split
    · rename_i here
      subst here
      simp [unmarked]
    · rename_i other
      simp [Ne.symm other]
  have port_ne : ∀ {k n}, t.marks k n → n.port ≠ m.port := fun h same =>
    (marks.mp h).1 (law.markers.2 _ _ _ _ (marks.mp h).2 marked same)
  have channel_ne : ∀ {k n}, t.marks k n → n.channel ≠ m.channel := fun h same =>
    (marks.mp h).1 (law.channel_alone (marks.mp h).2 marked same)
  have roles : ∀ q : Port, (t.ports[q]).role = (s.ports[q]).role := fun q => by
    by_cases h : q = m.port
    · rw [h, role]
    · exact (ports q h).role
  refine ⟨fun q => ?_, ⟨fun k n h => ?_, fun k k' n n' h h' => ?_⟩, fun c cap running => ?_,
    ⟨fun w saving => ?_, fun p q powered request phase => ?_⟩, law.tickets.of_set slots fun y same => (left y same).2.2,
    law.holders.of_set slots roles fun y w same window => ?_⟩
  · by_cases h : q = m.port
    · rw [h]
      exact itsLaw
    · exact (ports q h).lawful (law.ports q)
  · obtain ⟨capture, deferred⟩ := law.marker (marks.mp h).2
    rw [captures _ (channel_ne h), ← StationPort.deferred_eq_some, (ports _ (port_ne h)).deferred]
    exact ⟨capture, deferred⟩
  · exact law.markers.2 k k' n n' (marks.mp h).2 (marks.mp h').2
  · have other : c ≠ m.channel := by
      rintro rfl
      rw [free] at running
      cases running
    rw [captures c other] at running
    have held := law.captures c cap running
    have elsewhere : i ≠ cap.slot := by
      rintro rfl
      obtain ⟨y, here, itsMarker⟩ := Option.bind_eq_some_iff.mp marked
      rw [here, Option.bind_some, itsMarker] at held
      exact other (congrArg Prod.fst (Option.some.inj held)).symm
    rw [slot_set slots, if_neg elsewhere]
    exact held
  · rw [save] at saving
    rw [StationPort.deferred_code, (ports _ (law.save_port saving marked)).deferred, ← StationPort.deferred_code]
    exact law.deferred.1 w saving
  · have waits : (t.ports[p]).deferred ≠ none := StationPort.deferred_ne_none.mpr ⟨q, request, phase⟩
    have other : p ≠ m.port := by
      rintro rfl
      exact waits ended
    rw [(ports p other).deferred] at waits
    obtain ⟨q', request', phase'⟩ := StationPort.deferred_ne_none.mp waits
    rw [power] at powered
    rw [save]
    refine (law.deferred.2 p q' powered request' phase').imp (fun ⟨k, n, h, port⟩ => ⟨k, n, marks.mpr ⟨?_, h⟩, port⟩) id
    rintro rfl
    exact other (port.symm.trans (congrArg Marker.port (Option.some.inj (h.symm.trans marked))))
  · rw [(left y same).2.1] at window
    cases window

/-- A capture begins with its marker and its deferred request (R32). -/
theorem MatchLaw.of_begun {m : Marker} {y : Ticket} (law : MatchLaw s)
    (unmarked : (s.slots[i].bind fun y => y.marker) = none) (slots : t.slots = s.slots.set i (some y))
    (marker : y.marker = some m) (lawful : y.lawful) (window : y.window = none)
    (free : (s.channels[m.channel]).capture = none)
    (begun : ((t.channels[m.channel]).capture.map fun x => (x.kind, x.slot)) = some (m.purpose.kind, i))
    (captures : ∀ c : Chan, c ≠ m.channel → (t.channels[c]).capture = (s.channels[c]).capture)
    (save : t.save = s.save) (power : t.powered = s.powered) (before : (s.ports[m.port]).deferred = none)
    (pending : (t.ports[m.port]).role = (s.ports[m.port]).role ∧ (t.ports[m.port]).deferred = some (m.tag, m.purpose.code) ∧
      (t.ports[m.port]).lawful)
    (ports : ∀ q : Port, q ≠ m.port → (s.ports[q]).KeepsDeferred t.ports[q]) : MatchLaw t := by
  obtain ⟨role, deferred, itsLaw⟩ := pending
  have here : t.marks i m := by
    rw [State.marks, slot_set slots, if_pos rfl]
    exact marker
  have not_here : ∀ {n}, ¬ s.marks i n := fun {n} h => by
    rw [State.marks, unmarked] at h
    cases h
  have other_of : ∀ {k n}, s.marks k n → k ≠ i := by
    rintro k n h rfl
    exact not_here h
  have marks : ∀ {k n}, t.marks k n → (k = i ∧ n = m) ∨ s.marks k n := fun {k n} h => by
    by_cases same : i = k
    · subst same
      exact .inl ⟨rfl, Option.some.inj (h.symm.trans here)⟩
    · rw [State.marks, slot_set slots, if_neg same] at h
      exact .inr h
  have kept : ∀ {k n}, s.marks k n → t.marks k n := fun {k n} h => by
    rw [State.marks, slot_set slots, if_neg (other_of h).symm]
    exact h
  have port_ne : ∀ {k n}, s.marks k n → n.port ≠ m.port := fun h same => by
    have held := (law.marker h).2
    simp only [same, before] at held
    cases held
  have channel_ne : ∀ {k n}, s.marks k n → n.channel ≠ m.channel := fun h same => by
    have held := (law.marker h).1
    simp only [same, free] at held
    cases held
  have roles : ∀ q : Port, (t.ports[q]).role = (s.ports[q]).role := fun q => by
    by_cases h : q = m.port
    · rw [h, role]
    · exact (ports q h).role
  refine ⟨fun q => ?_, ⟨fun k n h => ?_, fun k k' n n' h h' same => ?_⟩, fun c cap running => ?_,
    ⟨fun w saving => ?_, fun p q powered request phase => ?_⟩, law.tickets.of_set slots ?_,
    law.holders.of_set slots roles ?_⟩
  · by_cases h : q = m.port
    · rw [h]
      exact itsLaw
    · exact (ports q h).lawful (law.ports q)
  · rcases marks h with ⟨rfl, rfl⟩ | before
    · exact ⟨begun, StationPort.deferred_eq_some.mp deferred⟩
    · obtain ⟨capture, waits⟩ := law.marker before
      rw [captures _ (channel_ne before), ← StationPort.deferred_eq_some, (ports _ (port_ne before)).deferred]
      exact ⟨capture, waits⟩
  · rcases marks h with ⟨rfl, rfl⟩ | h <;> rcases marks h' with ⟨rfl, rfl⟩ | h'
    · rfl
    · exact absurd same.symm (port_ne h')
    · exact absurd same (port_ne h)
    · exact law.markers.2 k k' n n' h h' same
  · by_cases at_ : c = m.channel
    · subst at_
      rw [running, Option.map_some, Option.some.injEq, Prod.mk.injEq] at begun
      obtain ⟨kind, slot⟩ := begun
      rw [slot_set slots, slot, if_pos rfl, Option.bind_some, marker, kind]
      rfl
    · rw [captures c at_] at running
      have held := law.captures c cap running
      have elsewhere : i ≠ cap.slot := by
        rintro rfl
        obtain ⟨y, slot, itsMarker⟩ := Option.bind_eq_some_iff.mp held
        rw [slot, Option.bind_some] at unmarked
        rw [unmarked] at itsMarker
        cases itsMarker
      rw [slot_set slots, if_neg elsewhere]
      exact held
  · rw [save] at saving
    have held := law.deferred.1 w saving
    have other : w.port ≠ m.port := fun same => by
      obtain ⟨tag, waits⟩ := StationPort.deferred_code.mp held
      simp only [same, before] at waits
      cases waits
    rw [StationPort.deferred_code, (ports _ other).deferred, ← StationPort.deferred_code]
    exact held
  · by_cases at_ : p = m.port
    · exact .inl ⟨i, m, here, at_.symm⟩
    · have waits : (t.ports[p]).deferred ≠ none := StationPort.deferred_ne_none.mpr ⟨q, request, phase⟩
      rw [(ports p at_).deferred] at waits
      obtain ⟨q', request', phase'⟩ := StationPort.deferred_ne_none.mp waits
      rw [power] at powered
      rw [save]
      exact (law.deferred.2 p q' powered request' phase').imp (fun ⟨k, n, h, port⟩ => ⟨k, n, kept h, port⟩) id
  · intro z same
    cases same
    exact lawful
  · intro z w same itsWindow
    cases same
    rw [window] at itsWindow
    cases itsWindow

end

end

end Sys2Proof.Machine
end

section
/-! SUPPORT. Every command keeps requests, captures and tickets matched: the requests, the scale's events, the ports'
events, the starts and the supply. -/

namespace Sys2Proof.Machine

section
variable {s t u : State}

/-! ### The scale's events (R17, R33) -/

theorem putTicket_eq (s : State) (i : Slot) (x : Ticket) (ready : Bool) :
    s.putTicket i x ready = { s with slots := s.slots.set i (some x), ports := (s.putTicket i x ready).ports } := by
  cases ready <;> rfl

/-- The ticket that an ended capture leaves: unmarked, not at the window, and lawful. -/
theorem Acted.slot {res : CaptureResult} {i : Slot} {x : Ticket} {m : Marker} (h : Acted res i x m s u) (law : x.lawful)
    (marker : x.marker = some m) :
    ∃ y, u.slots = s.slots.set i y ∧ ∀ z, y = some z → z.marker = none ∧ z.window = none ∧ z.lawful := by
  obtain ⟨opening, weighing, counter⟩ := x.state_of_marker law marker
  have unheld : ∀ k : TicketState, k ≠ .atWindow → x.state = k → x.window = none := fun k other state =>
    x.window_of_other law (by rw [state]; exact other)
  cases h with
  | issued _ gross =>
    have state := opening (by rw [gross]; rfl)
    refine ⟨_, rfl, fun z same => ?_⟩
    cases same
    exact ⟨rfl, unheld .opening nofun state, x.grossed_lawful _ _ _ _ law state⟩
  | freed => exact ⟨none, rfl, fun _ same => nomatch same⟩
  | dumped ends _ dump =>
    have state := weighing (by rw [dump]; rfl)
    refine ⟨_, putTicket_slots _ _ _ ends, fun z same => ?_⟩
    cases same
    exact ⟨rfl, unheld .weighing nofun state, x.dumped_lawful _ _ _ _ _ _ law state⟩
  | binned ends _ bin =>
    have state := counter (by rw [bin]; rfl)
    refine ⟨_, putTicket_slots _ _ _ ends, fun z same => ?_⟩
    cases same
    exact ⟨rfl, unheld .counter nofun state, x.binned_lawful _ _ _ _ _ _ law state⟩
  | failed weighed =>
    refine ⟨_, rfl, fun z same => ?_⟩
    cases same
    cases purpose : m.purpose with
    | gross => exact absurd purpose weighed
    | dump =>
      have state := weighing (by rw [purpose]; rfl)
      exact ⟨rfl, unheld .weighing nofun state, x.remarked_lawful none law (.inl ⟨state, nofun⟩)⟩
    | bin =>
      have state := counter (by rw [purpose]; rfl)
      exact ⟨rfl, unheld .counter nofun state, x.remarked_lawful none law (.inr ⟨state, nofun⟩)⟩

/-- The room that a deferred request leaves for its answer (R171). -/
theorem StationPort.lawful.deferred_room {x : StationPort} {tag code : Byte} (law : x.lawful)
    (waits : x.deferred = some (tag, code)) : x.output.length ≤ 3 := by
  obtain ⟨q, request, phase⟩ := deferred_ne_none.mp (by rw [waits]; exact Option.some_ne_none _)
  exact law.2.1 q request phase

theorem ScaleResult.matchLaw {weighs : Bool} {c : Chan} (h : ScaleResult weighs c s t) (law : MatchLaw s) :
    MatchLaw t := by
  cases h with
  | quiet x lost same =>
    refine law.of_sameSlots (s.moveChannel_slots c x lost) (fun d => ?_) (by rw [State.moveChannel_eq])
      (by rw [State.moveChannel_eq]) fun q => (s.moveChannel_stands c x lost q).keepsDeferred
    rw [State.moveChannel_get]
    split
    · rename_i here
      subst here
      exact same
    · rfl
  | @ended cap x lost res running free =>
    have moved := s.moveChannel_eq c x lost
    have held := law.captures c cap running
    obtain ⟨a, slot, itsMarker⟩ := Option.bind_eq_some_iff.mp held
    obtain ⟨m, marker, named⟩ := Option.map_eq_some_iff.mp itsMarker
    obtain ⟨channel, kind⟩ := Prod.mk.inj named
    have marked : s.marks cap.slot m := by rw [State.marks, slot]; exact marker
    obtain ⟨-, waits⟩ := law.marker marked
    have acts : captureOutcome c cap.kind cap.slot res (s.moveChannel c x lost) =
        actOnOutcome cap.slot a m res (s.moveChannel c x lost) := by
      unfold captureOutcome
      rw [s.moveChannel_slots c x lost, slot]
      dsimp only
      rw [marker]
      exact if_pos ⟨channel, kind⟩
    obtain ⟨u, o, d, acted, answered⟩ := actOnOutcome_acted cap.slot a m res (s.moveChannel c x lost)
    obtain ⟨y, slots, left⟩ := acted.slot (law.tickets _ _ slot) marker
    rw [s.moveChannel_slots c x lost] at slots
    have stands := fun q => (s.moveChannel_stands c x lost q).trans (acted.stands q)
    have channels : ∀ d : Chan, (u.channels[d]) = if c = d then x else s.channels[d] := fun d => by
      rw [acted.frame, State.moveChannel_get]
    have itsPort := stands m.port
    rw [acts, answered]
    refine law.of_ended marked slots left ?_ (fun d other => ?_) ?_ ?_ ?_ (fun q other => ?_)
    · rw [State.answerMarker, State.respond_channels, channels, if_pos channel.symm]
      exact free
    · rw [State.answerMarker, State.respond_channels, channels, if_neg (by rw [← channel]; exact Ne.symm other)]
    · rw [State.answerMarker, State.respond_save, acted.frame, moved]
    · rw [State.answerMarker, State.respond_powered, acted.frame, moved]
    · rw [State.answerMarker, State.respond_get, if_pos rfl]
      refine ⟨itsPort.role, rfl, StationPort.respond_lawful _ ?_ (itsPort.lawful (law.ports m.port))⟩
      rw [itsPort.output]
      exact (law.ports m.port).deferred_room waits
    · rw [State.answerMarker, State.respond_get, if_neg (Ne.symm other)]
      exact (stands q).keepsDeferred

/-! ### Accepted requests -/

theorem SpoolMoves.matchLaw (h : SpoolMoves s t) (law : MatchLaw s) : MatchLaw t :=
  law.of_sameSlots (by rw [h.frame]; rfl) (fun c => by rw [h.frame]; rfl) (by rw [h.frame]; rfl) (by rw [h.frame]; rfl)
    fun q => (h.ports q).keepsDeferred

/-- An edit of a found ticket that leaves its marker, and of the port sets beside it. -/
theorem MatchLaw.of_found (law : MatchLaw s) {n : Nat} {i : Slot} {x y : Ticket} (found : FoundAt s n i x) (ready : Bool)
    (marker : y.marker = x.marker) (lawful : x.lawful → y.lawful)
    (holder : ∀ w, y.window = some w → x.window = some w ∨ (s.ports[w.holder]).role = .payout) :
    MatchLaw (s.putTicket i y ready) := by
  refine law.of_ticket (x := some y) (putTicket_slots s i y ready) ?_ (fun z same => ?_) (fun z w same window => ?_)
    (fun c => by rw [putTicket_eq]) (by rw [putTicket_eq]) (by rw [putTicket_eq])
    fun q => (putTicket_stands i y ready q).keepsDeferred
  · rw [found.slot]
    exact marker
  · cases same
    exact lawful (law.tickets i x found.slot)
  · cases same
    rcases holder w window with old | payout
    · refine law.holders i w ?_
      rw [found.slot]
      exact old
    · exact payout

theorem clearFault_captures (c d : Chan) : ((clearFault c s).channels[d]).capture = (s.channels[d]).capture := by
  have set : ∀ x : Channel, x.capture = (s.channels[c]).capture →
      ((s.setChannel c x).channels[d]).capture = (s.channels[d]).capture := fun x same => by
    rw [State.setChannel_get]
    split
    · rename_i here
      subst here
      exact same
    · rfl
  unfold clearFault
  dsimp only
  split
  · exact set _ rfl
  · exact set _ rfl

theorem clearFault_matchLaw (c : Chan) (law : MatchLaw s) : MatchLaw (clearFault c s) := by
  have frame : clearFault c s = { s with channels := (clearFault c s).channels, ports := (clearFault c s).ports } := by
    unfold clearFault
    dsimp only
    split <;> rfl
  exact law.of_sameSlots (by rw [frame]) (fun d => clearFault_captures c d) (by rw [frame]) (by rw [frame])
    fun q => (clearFault_stands c q).keepsDeferred

/-- An accepted VOID abandons the capture of its ticket and frees the slot (R37). -/
theorem voidEffects_matchLaw {p : Port} {n reason : Nat} {i : Slot} {x : Ticket} (found : FoundAt s n i x)
    (law : MatchLaw s) : MatchLaw (voidEffects p i x reason s) := by
  obtain ⟨ports, effects, itsPorts⟩ := voidEffects_spec law.markers found.slot p reason
  have slots : (voidEffects p i x reason s).slots = s.slots.set i none := by rw [effects]
  have channels : (voidEffects p i x reason s).channels = abandonedChannels s x := by rw [effects]
  have save : (voidEffects p i x reason s).save = s.save := by rw [effects]; rfl
  have power : (voidEffects p i x reason s).powered = s.powered := by rw [effects]; rfl
  have itsPort : ∀ q : Port, (voidEffects p i x reason s).ports[q] =
      latchedIf (newlyMarked s.totals s.totals.addVoid && decide ((abandonedPort x q s.ports[q]).role = .office))
        .totalSaturated (abandonedPort x q s.ports[q]) := fun q => by
    rw [effects]
    exact itsPorts q
  have stands := fun q => voidEffects_stands (s := s) (p := p) (i := i) (t := x) (reason := reason) q
  generalize voidEffects p i x reason s = t at slots channels save power itsPort stands ⊢
  cases marker : x.marker with
  | none =>
    refine law.of_freed slots ?_ (fun c => ?_) save power fun q => ?_
    · rw [found.slot]
      exact marker
    · rw [channels, abandonedChannels, marker]
    · exact (stands q (by rw [marker]; nofun)).keepsDeferred
  | some m =>
    have marked : s.marks i m := by rw [State.marks, found.slot]; exact marker
    obtain ⟨-, waits⟩ := law.marker marked
    refine law.of_ended marked slots (fun _ same => nomatch same) ?_ (fun c other => ?_) save power ?_ fun q other => ?_
    · rw [channels, abandonedChannels, marker, getElem_set_fin, if_pos rfl]
    · rw [channels, abandonedChannels, marker, getElem_set_fin, if_neg (Ne.symm other)]
    · have answered : abandonedPort x m.port s.ports[m.port] =
          (s.ports[m.port]).respond ⟨m.tag, m.purpose.code, .noTicket, []⟩ := by
        rw [abandonedPort, marker]
        exact if_pos rfl
      have lawful := StationPort.respond_lawful ⟨m.tag, m.purpose.code, .noTicket, []⟩
        ((law.ports m.port).deferred_room waits) (law.ports m.port)
      rw [itsPort, answered]
      unfold latchedIf
      split
      · exact ⟨rfl, rfl, (StationPort.latch_stands totalSaturated_latches _).lawful lawful⟩
      · exact ⟨rfl, rfl, lawful⟩
    · refine (stands q fun m' itsMarker => ?_).keepsDeferred
      rw [marker] at itsMarker
      cases itsMarker
      exact Ne.symm other

theorem payEffects_matchLaw {p : Port} {n : Nat} {i : Slot} {x : Ticket} {m : Method} {printer : Printer} {j : JobNo}
    (found : FoundAt s n i x) (state : x.state = .atWindow) (place : s.roomFor false (paidRecord s x p m) = some j)
    (law : MatchLaw s) : MatchLaw (payEffects p i x m printer j s) := by
  obtain ⟨pages, free, -⟩ := roomFor_some place
  have books := payBooks_outside i x m (paidRecord s x p m) s
  have settled : SpoolMoves (payBooks i x m (paidRecord s x p m) s) (payEffects p i x m printer j s) := by
    have printed := SpoolMoves.unmoved.handOver (s := payBooks i x m (paidRecord s x p m) s) (jn := j) (p := printer)
      (copies := (payBooks i x m (paidRecord s x p m) s).settings.receiptCopies) (duplicate := false)
      (r := paidRecord s x p m) (by rw [books]; exact pages) (by rw [books]; exact free)
    rw [payEffects_eq]
    dsimp only
    split
    · exact printed.kickDrawer
    · exact printed
  refine settled.matchLaw (law.of_freed (i := i) (by rw [books]; rfl) ?_
    (fun c => by rw [books]; rfl) (by rw [books]; rfl) (by rw [books]; rfl)
    fun q => (payBooks_stands i x m _ q).keepsDeferred)
  obtain ⟨-, marker, -⟩ := x.state_of_atWindow (law.tickets i x found.slot) state
  rw [found.slot]
  exact marker

theorem setPort_matchLaw {p : Port} {x : StationPort} (keeps : (s.ports[p]).KeepsDeferred x) (law : MatchLaw s) :
    MatchLaw (s.setPort p x) := by
  refine law.of_sameSlots rfl (fun _ => rfl) rfl rfl fun q => ?_
  rw [State.setPort_get]
  split
  · rename_i here
    subst here
    exact keeps
  · exact .refl _

/-- An accepted request keeps the match; a REVIEW because its port may hold a ticket (R87). -/
theorem Accepts.matchLaw {r : Req} {row : Instr} (h : Accepts r s row t)
    (payout : row = .review → (s.ports[r.port]).role = .payout) (law : MatchLaw s) : MatchLaw t := by
  have still := SpoolMoves.unmoved (s := s)
  have same : ∀ v : State, v.slots = s.slots → v.channels = s.channels → v.save = s.save → v.powered = s.powered →
      v.ports = s.ports → MatchLaw v := fun v slots channels save power ports =>
    law.of_sameSlots slots (fun c => by rw [channels]) save power fun q => by rw [ports]; exact .refl _
  cases h with
  | ackEvents e => exact setPort_matchLaw (acknowledge_stands _).keepsDeferred law
  | setMask e inRange => exact setPort_matchLaw (setMask_stands inRange _).keepsDeferred law
  | @openWalkin n i valid free =>
    have empty := freeSlot_some free
    refine law.of_ticket (i := i) rfl ?_ (fun y same => ?_) (fun y w same window => ?_) (fun _ => rfl) rfl rfl
      fun _ => .refl _
    · rw [empty]
      rfl
    · cases same
      exact openedWalkin_lawful s r.port n
    · cases same
      cases window
  | closeWeighing found state marker lines =>
    exact law.of_found found true rfl (fun lawful => Ticket.closed_lawful lawful state marker lines)
      fun w window => .inl window
  | deduct k dm found =>
    exact law.of_found found false rfl (Ticket.deduct_lawful k dm) fun w window => .inl window
  | setSeller id found => exact law.of_found found false rfl (fun lawful => lawful) fun w window => .inl window
  | setPlate plate found => exact law.of_found found false rfl (fun lawful => lawful) fun w window => .inl window
  | void reason found => exact voidEffects_matchLaw found law
  | getTicket x part =>
    unfold State.countFreeRead
    split <;> exact same _ rfl rfl rfl rfl rfl
  | clearScaleFault c => exact clearFault_matchLaw c law
  | switchPrices =>
    exact law.of_sameSlots rfl (fun _ => rfl) rfl rfl fun q => (latchWhere_stands pricesSwitched_latches _ _ q).keepsDeferred
  | reprice found =>
    exact law.of_found found false rfl (Ticket.reprice_lawful s.settings) fun w window => .inl window
  | review found state =>
    refine law.of_found found false rfl (fun lawful => Ticket.hold_lawful _ _ lawful state) fun w window => .inr ?_
    cases window
    exact payout rfl
  | release found state =>
    exact law.of_found found true rfl (fun lawful => Ticket.unhold_lawful lawful state) fun w window => nomatch window
  | pay m found state _ place => exact payEffects_matchLaw found state place law
  | drawerKick p => exact still.kickDrawer.matchLaw law
  | reprint printer room =>
    obtain ⟨pages, free, -⟩ := roomFor_some room
    exact (still.handOver pages free).matchLaw law
  | jobOpen printer _ room =>
    obtain ⟨pages, free⟩ := canAllocate_some room
    exact (still.allocate _ pages free).matchLaw law
  | jobWrite ls job => exact (still.writeJob ls job).matchLaw law
  | jobSubmit job => exact (still.submitJob _ _ job).matchLaw law
  | jobClose job => exact (still.closeJob job).matchLaw law
  | jobCancel job => exact (still.cancelJob r job).matchLaw law
  | jobRelease => exact (still.release _).matchLaw law
  | printerResume => exact still.resumeEngine.matchLaw law
  | printerFlush p => exact still.flushQueue.matchLaw law
  | printerRedirect => exact still.redirectQueue.matchLaw law
  | @setParam param _ v =>
    exact (SpoolMoves.unmoved.reachEngine param).matchLaw (same _ rfl rfl rfl rfl rfl)
  | setAlias | setGrade | setContainer | journalPop | dayClose | setNextNumber | setClock | restart | coldClear =>
    exact same _ rfl rfl rfl rfl rfl

/-! ### Requests left pending, and answers (R32, R171) -/

/-- The request that the engine has been granted, with the room for its answer. -/
structure State.Grants (s : State) (r : Req) (q : Request) : Prop where
  request : s.ports[r.port].request = some q
  waiting : q.phase = .waiting
  tag : q.tag = r.tag
  code : q.code = r.code
  room : (s.ports[r.port]).output.length ≤ 3

theorem deferRequest_keeps {r : Req} {q : Request} (grants : s.Grants r q) (law : (s.ports[r.port]).lawful) :
    ((s.deferRequest r.port).ports[r.port]).role = (s.ports[r.port]).role ∧
      ((s.deferRequest r.port).ports[r.port]).deferred = some (r.tag, r.code) ∧
      ((s.deferRequest r.port).ports[r.port]).lawful := by
  obtain ⟨request, -, tag, code, room⟩ := grants
  rw [State.deferRequest_get, if_pos rfl]
  refine ⟨rfl, ?_, ?_⟩
  · rw [StationPort.deferred, request, ← tag, ← code]
    rfl
  · obtain ⟨most, -, latched, mask, start, bad, off, permitted⟩ := law
    refine ⟨most, fun _ _ _ => room, latched, mask, start, bad, fun isOff => ⟨(off isOff).1, ?_⟩, fun q' request' => ?_⟩
    · have none_held := (off isOff).2
      rw [request] at none_held
      cases none_held
    · rw [request] at request'
      cases request'
      exact permitted q request

theorem beginCapture_matchLaw {r : Req} {q : Request} {i : Slot} {x : Ticket} {p : Purpose} {c : Chan}
    (grants : s.Grants r q) (code : r.code = p.code) (unmarked : (s.slots[i].bind fun y => y.marker) = none)
    (free : s.channels[c].capture = none) (window : x.window = none)
    (lawful : ({ x with marker := some ⟨p, c, r.port, r.tag⟩ } : Ticket).lawful) (law : MatchLaw s) :
    MatchLaw (s.beginCapture r i x p c) := by
  have pending := deferRequest_keeps grants (law.ports r.port)
  rw [code] at pending
  refine law.of_begun unmarked rfl (m := ⟨p, c, r.port, r.tag⟩) rfl lawful window free ?_ (fun d other => ?_) rfl rfl
    (StationPort.deferred_of_waiting grants.request grants.waiting) pending fun q' other => ?_
  · change (((s.setChannel c (capturing s p.kind i c)).channels[c]).capture.map _) = _
    rw [State.setChannel_get_self]
    rfl
  · change ((s.setChannel c (capturing s p.kind i c)).channels[d]).capture = _
    rw [State.setChannel_get, if_neg (Ne.symm other)]
  · change (s.ports[q']).KeepsDeferred ((s.deferRequest r.port).ports[q'])
    rw [State.deferRequest_get, if_neg (Ne.symm other)]
    exact .refl _

/-- A save begins with its deferred request (R173, R183). -/
theorem beginSave_matchLaw {r : Req} {q : Request} (grants : s.Grants r q) (code : r.code = 0x52) (idle : s.save = none)
    (law : MatchLaw s) : MatchLaw (beginSave r.port s) := by
  obtain ⟨role, deferred, lawful⟩ := deferRequest_keeps grants (law.ports r.port)
  have before := StationPort.deferred_of_waiting grants.request grants.waiting
  have other : ∀ p : Port, p ≠ r.port → (beginSave r.port s).ports[p] = s.ports[p] := fun p h => by
    change (s.deferRequest r.port).ports[p] = _
    rw [State.deferRequest_get, if_neg (Ne.symm h)]
  have roles : ∀ p : Port, ((beginSave r.port s).ports[p]).role = (s.ports[p]).role := fun p => by
    by_cases h : p = r.port
    · rw [h]
      exact role
    · rw [other p h]
  refine ⟨fun p => ?_, ⟨fun i m marked => ?_, law.markers.2⟩, law.captures, ⟨fun w saving => ?_, fun p q' power request phase => ?_⟩,
    law.tickets, law.holders.of_ports rfl roles⟩
  · by_cases h : p = r.port
    · rw [h]
      exact lawful
    · rw [other p h]
      exact law.ports p
  · have port : m.port ≠ r.port := fun same => by
      have waits := (law.marker marked).2
      simp only [same, before] at waits
      cases waits
    rw [other m.port port]
    exact law.markers.1 i m marked
  · cases saving
    rw [code] at deferred
    exact StationPort.deferred_code.mpr ⟨r.tag, deferred⟩
  · by_cases h : p = r.port
    · exact .inr ⟨_, rfl, h.symm⟩
    · rw [other p h] at request
      exact (law.deferred.2 p q' power request phase).imp id fun ⟨w, saving, _⟩ => by rw [idle] at saving; cases saving

/-- A request left pending begins a match of its own. -/
theorem Defers.matchLaw {r : Req} {row : Instr} {q : Request} (h : Defers r s row t) (itsCode : requestCode row = some r.code)
    (grants : s.Grants r q) (law : MatchLaw s) : MatchLaw t := by
  have code : ∀ {b : Byte}, some b = some r.code → r.code = b := fun h => (Option.some.inj h).symm
  cases h with
  | openTruck plate c empty free =>
    exact beginCapture_matchLaw grants (code itsCode) (by rw [empty]; rfl) free rfl (newTruck_lawful r.port plate rfl) law
  | dump g final c found state marker free =>
    have lawful := law.tickets _ _ found.slot
    refine beginCapture_matchLaw grants (code itsCode) (by rw [found.slot]; exact marker) free
      (Ticket.window_of_other lawful (by rw [state]; nofun))
      (Ticket.remarked_lawful _ lawful (.inl ⟨state, fun m same => ?_⟩)) law
    cases same
    rfl
  | addBin g k found state marker free =>
    have lawful := law.tickets _ _ found.slot
    refine beginCapture_matchLaw grants (code itsCode) (by rw [found.slot]; exact marker) free
      (Ticket.window_of_other lawful (by rw [state]; nofun))
      (Ticket.remarked_lawful _ lawful (.inr ⟨state, fun m same => ?_⟩)) law
    cases same
    rfl
  | saveSettings idle => exact beginSave_matchLaw grants (code itsCode) idle law

theorem answer_matchLaw {r : Req} {q : Request} {o : OutcomeCode} {d : List Byte} (grants : s.Grants r q)
    (law : MatchLaw s) : MatchLaw (answer r o d s) :=
  setPort_matchLaw (StationPort.answered_keepsDeferred _ grants.request grants.waiting grants.room) law

theorem payout_of_review {x : StationPort} {q : Request} (law : x.lawful) (request : x.request = some q)
    (code : q.code = 0x30) : x.role = .payout := by
  obtain ⟨-, -, -, -, -, -, -, permitted⟩ := law
  have permits := permitted q request
  have listed : rolesFor 0x30 = some [.payout] := rfl
  rw [code, listed] at permits
  revert permits
  cases x.role <;> decide

theorem HandledTo.matchLaw {r : Req} {row : Instr} {q : Request} (h : HandledTo row r s u)
    (itsCode : requestCode row = some r.code) (grants : s.Grants r q) (law : MatchLaw s) : MatchLaw u := by
  rcases h with ⟨o, d, rfl⟩ | ⟨o, d, e, -, accepted, rfl⟩ | deferred
  · exact answer_matchLaw grants law
  · have spared : ∀ (i : Slot) (m : Marker), s.marks i m → m.port ≠ r.port := fun i m marked same => by
      have waits := (law.marker marked).2
      simp only [same, StationPort.deferred_of_waiting grants.request grants.waiting] at waits
      cases waits
    have stands := accepted.ports r.port spared
    refine answer_matchLaw (q := q) ⟨stands.request.trans grants.request, grants.waiting, grants.tag, grants.code, ?_⟩
      (accepted.matchLaw (fun review => ?_) law)
    · rw [stands.output]
      exact grants.room
    · subst review
      exact payout_of_review (law.ports r.port) grants.request (grants.code.trans (Option.some.inj itsCode).symm)
  · exact deferred.matchLaw itsCode grants law

end

end Sys2Proof.Machine
end

section
/-! SUPPORT. Requests stay matched through every event; and the laws of the state after reset. -/

namespace Sys2Proof.Machine

section
variable {s t u : State}

/-! ### Starts (R20, R43, R44, R166) -/

/-- Where no slot is marked or at the window, no channel captures, no port holds a request and no save is in flight,
nothing is left to match. -/
theorem MatchLaw.of_unmatched (ports : ∀ p : Port, (t.ports[p]).lawful ∧ (t.ports[p]).request = none)
    (captures : ∀ c : Chan, (t.channels[c]).capture = none) (save : t.save = none)
    (slots : ∀ (i : Slot) (x : Ticket), t.slots[i] = some x → x.lawful ∧ x.marker = none ∧ x.window = none) :
    MatchLaw t := by
  have unmarked : ∀ {i m}, ¬ t.marks i m := fun {i m} marked => by
    obtain ⟨x, slot, marker⟩ := Option.bind_eq_some_iff.mp marked
    rw [(slots i x slot).2.1] at marker
    cases marker
  refine ⟨fun p => (ports p).1, ⟨fun i m marked => absurd marked unmarked, fun i k m n marked => absurd marked unmarked⟩,
    fun c x running => ?_, ⟨fun w saving => ?_, fun p q power request => ?_⟩, fun i x slot => (slots i x slot).1,
    fun i w window => ?_⟩
  · rw [captures c] at running
    cases running
  · rw [save] at saving
    cases saving
  · rw [(ports p).2] at request
    cases request
  · obtain ⟨x, slot, itsWindow⟩ := Option.bind_eq_some_iff.mp window
    rw [(slots i x slot).2.2] at itsWindow
    cases itsWindow

theorem commonStart_port (s : State) (k : StartKind) (p : Port) :
    (s.commonStart k).ports[p] =
      .start s.imageAfterSave.load.roles[p] { kind := k, defaulted := !s.imageAfterSave.checkGood } := by
  change (Vector.ofFn _)[p] = _
  exact Vector.getElem_ofFn _

theorem commonStart_capture (s : State) (k : StartKind) (c : Chan) : ((s.commonStart k).channels[c]).capture = none := by
  change ((mapEntries (fun _ x => Channel.restart x) s.channels)[c]).capture = none
  rw [getElem_mapEntries]
  rfl

theorem MatchLaw.of_start {k : StartKind} (ports : t.ports = (s.commonStart k).ports)
    (channels : t.channels = (s.commonStart k).channels) (save : t.save = none)
    (slots : ∀ (i : Slot) (x : Ticket), t.slots[i] = some x → x.lawful ∧ x.marker = none ∧ x.window = none) :
    MatchLaw t := by
  refine .of_unmatched (fun p => ?_) (fun c => ?_) save slots
  · rw [ports, commonStart_port]
    exact ⟨StationPort.start_lawful _ _, rfl⟩
  · rw [channels]
    exact commonStart_capture s k c

theorem warmBase_matchLaw (tickets : TicketLaw s) : MatchLaw s.warmBase := by
  refine .of_start (s := s) (k := .warm) rfl rfl rfl fun i x slot => ?_
  change (mapEntries (fun _ x => warmSlot x) s.slots)[i] = some x at slot
  rw [getElem_mapEntries] at slot
  cases before : s.slots[i] with
  | none =>
    rw [before] at slot
    cases slot
  | some y =>
    rw [before] at slot
    exact warmSlot_lawful (tickets i y before) slot

theorem coldBase_matchLaw (s : State) : MatchLaw s.coldBase := by
  refine .of_start (s := s) (k := .cold) rfl rfl rfl fun i x slot => ?_
  change (Vector.replicate 48 none)[i] = some x at slot
  rw [Fin.getElem_fin, Vector.getElem_replicate] at slot
  cases slot

theorem start_matchLaw (k : StartKind) (tickets : TicketLaw s) : MatchLaw (s.start k) := by
  cases k with
  | warm => exact (warmStart_moves s).matchLaw (warmBase_matchLaw tickets)
  | cold => exact (coldStart_moves s).matchLaw (coldBase_matchLaw s)

/-! ### Ports and save (R167 to R171, R183) -/

theorem arbitrate_matchLaw (law : MatchLaw s) : MatchLaw s.arbitrate := by
  rcases arbitrate_cases s with ⟨same, -⟩ | ⟨p, -, -, -, -, granted⟩
  · rw [same]
    exact law
  · rw [granted]
    exact law.of_sameSlots rfl (fun _ => rfl) rfl rfl fun _ => .refl _

theorem responseSent_matchLaw (p : Port) (law : MatchLaw s) : MatchLaw (responseSent p s) := by
  unfold responseSent
  split
  · exact law
  · rename_i r rest output
    have sent := setPort_matchLaw (StationPort.sent_keepsDeferred output) law
    refine arbitrate_matchLaw ?_
    split
    · exact sent.of_sameSlots rfl (fun _ => rfl) rfl rfl fun _ => .refl _
    · exact sent

/-- The end of a save answers its deferred request (R183). -/
theorem answerDeferred_matchLaw {w : Save} {o : OutcomeCode} (saving : s.save = some w) (save : t.save = none)
    (slots : t.slots = s.slots) (channels : t.channels = s.channels) (ports : t.ports = s.ports)
    (power : t.powered = s.powered) (law : MatchLaw s) : MatchLaw (t.answerDeferred w.port o) := by
  have held := law.deferred.1 w saving
  obtain ⟨tag, waits⟩ := StationPort.deferred_code.mp held
  obtain ⟨q, request, -⟩ := Option.map_eq_some_iff.mp held
  have answers : t.answerDeferred w.port o =
      t.respond w.port { tag := q.tag, code := q.code, outcome := o, data := [] } := by
    unfold State.answerDeferred
    rw [ports, request]
  have marks : ∀ {v : State} {i : Slot} {m : Marker}, v.slots = s.slots → v.marks i m → s.marks i m :=
    fun {v i m} same marked => by
      rw [State.marks, same] at marked
      exact marked
  rw [answers]
  have itsPort : ∀ p : Port, (t.respond w.port { tag := q.tag, code := q.code, outcome := o, data := [] }).ports[p] =
      if w.port = p then (s.ports[w.port]).respond { tag := q.tag, code := q.code, outcome := o, data := [] }
      else s.ports[p] := fun p => by
    rw [State.respond_get, ports]
  refine ⟨fun p => ?_, ⟨fun i m marked => ?_, fun i k m n marked marked' => ?_⟩, ?_,
    ⟨fun v itsSave => ?_, fun p q' powered request' phase => ?_⟩, ?_, ?_⟩
  · rw [itsPort]
    split
    · exact StationPort.respond_lawful _ ((law.ports w.port).deferred_room waits) (law.ports w.port)
    · exact law.ports p
  · have before := marks slots marked
    have other := law.save_port saving before
    rw [itsPort, if_neg other, State.respond_channels, channels]
    exact law.markers.1 i m before
  · exact law.markers.2 i k m n (marks slots marked) (marks slots marked')
  · intro c x running
    rw [State.respond_channels, channels] at running
    rw [State.respond_slots, slots]
    exact law.captures c x running
  · rw [State.respond_save, save] at itsSave
    cases itsSave
  · rw [itsPort] at request'
    split at request'
    · cases request'
    · rename_i other
      rw [State.respond_powered, power] at powered
      rcases law.deferred.2 p q' powered request' phase with ⟨i, m, marked, port⟩ | ⟨v, itsSave, port⟩
      · refine .inl ⟨i, m, ?_, port⟩
        rw [State.marks, State.respond_slots, slots]
        exact marked
      · cases saving.symm.trans itsSave
        exact absurd port other
  · intro i x slot
    rw [State.respond_slots, slots] at slot
    exact law.tickets i x slot
  · refine law.holders.of_ports slots fun p => ?_
    rw [itsPort]
    split
    · rename_i here
      subst here
      rfl
    · rfl

/-! ### Every event -/

theorem Occurs.matchLaw {i : Instr} (h : Occurs s i t) (law : MatchLaw s) : MatchLaw t := by
  have same : ∀ v : State, v.slots = s.slots → v.channels = s.channels → v.save = s.save → v.powered = s.powered →
      v.ports = s.ports → MatchLaw v := fun v slots channels save power ports =>
    law.of_sameSlots slots (fun c => by rw [channels]) save power fun q => by rw [ports]; exact .refl _
  cases h with
  | idle => exact law
  | byte p b => exact arbitrate_matchLaw (setPort_matchLaw (StationPort.takeByte_keepsDeferred b) law)
  | gap p => exact setPort_matchLaw StationPort.gapEnd_keepsDeferred law
  | sent p => exact responseSent_matchLaw p law
  | scale _ moved => exact moved.matchLaw law
  | @expired i x w slot window =>
    have lawful := law.tickets i x slot
    have state : x.state = .atWindow := by
      by_contra other
      rw [x.window_of_other lawful other] at window
      cases window
    have unheld : MatchLaw (s.putTicket i x.unhold true) := by
      refine law.of_ticket (x := some x.unhold) (putTicket_slots s i _ true) (by rw [slot]; rfl) (fun z same => ?_)
        (fun z v same left => ?_) (fun _ => rfl) rfl rfl fun q => (putTicket_stands i _ true q).keepsDeferred
      · cases same
        exact Ticket.unhold_lawful lawful state
      · cases same
        cases left
    exact unheld.of_sameSlots rfl (fun _ => rfl) rfl rfl fun q =>
      (latchWhere_stands windowExpired_latches _ _ q).keepsDeferred
  | printed _ moves => exact moves.matchLaw law
  | saved x o saving => exact answerDeferred_matchLaw saving rfl rfl rfl rfl rfl law
  | second => exact same _ rfl rfl rfl rfl rfl
  | powered k => exact start_matchLaw k law.tickets
  | reset => exact start_matchLaw .warm law.tickets
  | resetDark | releasedDark | lostDark => exact same _ rfl rfl rfl rfl rfl
  | warmCalled => exact start_matchLaw .warm law.tickets
  | coldCalled => exact start_matchLaw .cold law.tickets
  | released =>
    refine SpoolMoves.unmoved.takeClocks.matchLaw (law.of_sameSlots rfl (fun c => ?_) rfl rfl fun _ => .refl _)
    change ((mapEntries (fun _ x => Channel.takeBeams x) s.channels)[c]).capture = _
    rw [getElem_mapEntries]
    rfl
  | lost => exact ⟨law.ports, law.markers, law.captures, ⟨nofun, nofun⟩, law.tickets, law.holders⟩

/-! ### The grant (R172) -/

theorem GrantLaw.of_kept (law : GrantLaw s) (engine : t.requestEngine = s.requestEngine) (pointer : t.pointer = s.pointer)
    (ports : ∀ q : Port, (s.ports[q]).grantable = true → (t.ports[q]).grantable = true) : GrantLaw t := fun p granted => by
  rw [engine] at granted
  obtain ⟨may, here⟩ := law p granted
  exact ⟨ports p may, pointer.trans here⟩

theorem GrantLaw.of_free (free : t.requestEngine = none) : GrantLaw t := fun p granted => by
  rw [free] at granted
  cases granted

theorem arbitrate_grantLaw (law : GrantLaw s) : GrantLaw s.arbitrate := by
  rcases arbitrate_cases s with ⟨same, -⟩ | ⟨p, -, -, may, -, granted⟩
  · rw [same]
    exact law
  · rw [granted]
    intro q itsGrant
    cases itsGrant
    exact ⟨may, rfl⟩

/-- An answer to a deferred request leaves a port that may be granted alone. -/
theorem respond_grantable {p q : Port} {r : Response} {tag code : Byte} (waits : (s.ports[p]).deferred = some (tag, code))
    (may : (s.ports[q]).grantable = true) : ((s.respond p r).ports[q]).grantable = true := by
  rw [State.respond_get]
  split
  · rename_i here
    subst here
    obtain ⟨x, request, waiting, -⟩ := StationPort.grantable_iff.mp may
    rw [StationPort.deferred_of_waiting request waiting] at waits
    cases waits
  · exact may

theorem SpoolMoves.grantLaw (h : SpoolMoves s t) (law : GrantLaw s) : GrantLaw t :=
  law.of_kept (by rw [h.frame]; rfl) (by rw [h.frame]; rfl) fun q may => by rwa [(h.ports q).grantable]

theorem ScaleResult.grantLaw {weighs : Bool} {c : Chan} (h : ScaleResult weighs c s t) (matched : MatchLaw s)
    (law : GrantLaw s) : GrantLaw t := by
  have moved : ∀ x lost, GrantLaw (s.moveChannel c x lost) := fun x lost =>
    law.of_kept (by rw [State.moveChannel_eq]) (by rw [State.moveChannel_eq]) fun q may => by
      rwa [(s.moveChannel_stands c x lost q).grantable]
  cases h with
  | quiet x lost => exact moved x lost
  | @ended cap x lost res =>
    rcases captureOutcome_cases c cap.kind cap.slot res (s.moveChannel c x lost) with same | ⟨a, m, slot, marker, -, -, acts⟩
    · rw [same]
      exact moved x lost
    · obtain ⟨u, o, d, acted, answered⟩ := actOnOutcome_acted cap.slot a m res (s.moveChannel c x lost)
      rw [s.moveChannel_slots c x lost] at slot
      have marked : s.marks cap.slot m := by rw [State.marks, slot]; exact marker
      have stands := (s.moveChannel_stands c x lost m.port).trans (acted.stands m.port)
      have waits : (u.ports[m.port]).deferred = some (m.tag, m.purpose.code) :=
        stands.keepsDeferred.deferred.trans (matched.marker marked).2
      have left : GrantLaw u := (moved x lost).of_kept (by rw [acted.frame]) (by rw [acted.frame]) fun q may => by
        rwa [(acted.stands q).grantable]
      rw [acts, answered]
      exact left.of_kept rfl rfl fun q may => respond_grantable waits may

theorem responseSent_grantLaw (p : Port) (law : GrantLaw s) : GrantLaw (responseSent p s) := by
  unfold responseSent
  split
  · exact law
  · rename_i r rest output
    have sent : GrantLaw (s.setPort p { s.ports[p] with output := rest }) := law.of_kept rfl rfl fun q may => by
      rw [State.setPort_get]
      split
      · rename_i here
        subst here
        exact StationPort.sent_grantable output may
      · exact may
    refine arbitrate_grantLaw ?_
    split
    · exact sent
    · exact sent

theorem setPort_grantLaw {p : Port} {x : StationPort} (keeps : (s.ports[p]).grantable = true → x.grantable = true)
    (law : GrantLaw s) : GrantLaw (s.setPort p x) := law.of_kept rfl rfl fun q may => by
  rw [State.setPort_get]
  split
  · rename_i here
    subst here
    exact keeps may
  · exact may

theorem start_grantLaw (k : StartKind) (s : State) : GrantLaw (s.start k) := by
  cases k with
  | warm => exact (warmStart_moves s).grantLaw (.of_free rfl)
  | cold => exact (coldStart_moves s).grantLaw (.of_free rfl)

theorem Occurs.grantLaw {i : Instr} (h : Occurs s i t) (matched : MatchLaw s) (law : GrantLaw s) : GrantLaw t := by
  cases h with
  | idle | second | resetDark | releasedDark | lost | lostDark => exact law
  | byte p b => exact arbitrate_grantLaw (setPort_grantLaw (StationPort.takeByte_grantable b) law)
  | gap p => exact setPort_grantLaw (fun may => by rwa [gapEnd_grantable]) law
  | sent p => exact responseSent_grantLaw p law
  | scale _ moved => exact moved.grantLaw matched law
  | @expired i x w =>
    refine law.of_kept rfl rfl fun q may => ?_
    have stands := (putTicket_stands (s := s) i x.unhold true q).trans
      (latchWhere_stands windowExpired_latches (s.putTicket i x.unhold true) (fun k _ => k == w.holder) q)
    exact stands.grantable.trans may
  | printed _ moves => exact moves.grantLaw law
  | @saved x w o saving =>
    obtain ⟨tag, waits⟩ := StationPort.deferred_code.mp (matched.deferred.1 w saving)
    unfold State.answerDeferred
    split
    · exact law.of_kept rfl rfl fun q may => respond_grantable (s := { s with save := none }) waits may
    · exact law
  | powered k => exact start_grantLaw k _
  | reset => exact start_grantLaw .warm { s with resetDriven := true }
  | warmCalled => exact start_grantLaw .warm s
  | coldCalled => exact start_grantLaw .cold s
  | released => exact SpoolMoves.unmoved.takeClocks.grantLaw law

/-- The engine's grant gives the request that its port holds, with room for the answer. -/
theorem GrantLaw.grants {code : Byte} {r : Req} (law : GrantLaw s) (granted : s.granted code = some r) :
    ∃ q, s.Grants r q := by
  obtain ⟨engine, code, request⟩ := granted_some granted
  obtain ⟨may, -⟩ := law r.port engine
  obtain ⟨q, itsRequest, waiting, room⟩ := StationPort.grantable_iff.mp may
  cases request.symm.trans itsRequest
  exact ⟨_, itsRequest, rfl, rfl, code.symm, Nat.le_of_lt_succ room⟩

end

/-- Settles O8: what begins and ends a capture or a save does so at its marker and its port together, and every other
command leaves them. -/
theorem requestsStayMatched : Obligations.RequestsStayMatched := fun s t law next => by
  refine step_keeps (P := RequestLaw) (fun _ _ law => law) (fun i s t law next => ?_) law next
  obtain ⟨matched, grant⟩ := requestLaw_iff.mp law
  refine requestLaw_iff.mpr ?_
  rcases exec_cases next with ⟨code, r, u, itsCode, taking, granted, handled, rfl⟩ | occurs
  · obtain ⟨q, grants⟩ := grant.grants granted
    have rowCode : requestCode i = some r.code := by rw [itsCode, (granted_some granted).2.1]
    have left : MatchLaw { u with requestEngine := none } :=
      (handled.matchLaw rowCode grants matched).of_sameSlots rfl (fun _ => rfl) rfl rfl fun _ => .refl _
    exact ⟨arbitrate_matchLaw left, arbitrate_grantLaw (.of_free rfl)⟩
  · exact ⟨occurs.matchLaw matched, occurs.grantLaw matched grant⟩

end Sys2Proof.Machine
end

section
/-! SUPPORT. The engine between two bytes (R139, R153 to R159): what begins a frame, a copy or the next part of one, and
the start condition. -/

namespace Sys2Proof.Machine

section
variable {s : State} {p : Printer} {jn : JobNo} {j : Job} {x : Engine}

/-! ### Frames (R153, R155) -/

theorem State.setEngine_get_self (s : State) (p : Printer) (x : Engine) : (s.setEngine p x).printers[p] = x := by
  rw [State.setEngine_get, if_pos rfl]

theorem State.setJob_get_self (s : State) (jn : JobNo) (x : Option Job) : (s.setJob jn x).jobs[jn] = x := by
  rw [State.setJob_get, if_pos rfl]

theorem State.setEngine_self (s : State) (p : Printer) : s.setEngine p s.printers[p] = s := by
  unfold State.setEngine
  rw [set_self]

theorem State.setJob_self (job : s.jobs[jn] = some j) : s.setJob jn (some j) = s := by
  unfold State.setJob
  rw [← job, set_self]

/-- A byte set before an engine that awaits one begins its frame, or finds the line low. -/
theorem setEngine_beginFrame (awaits : x.awaitsByte) (pos : Position) (b : LinkByte) :
    (s.setEngine p { x with position := some pos, pendingByte := some b }).beginFrame p =
      s.setEngine p (sendsByte s x pos b) := by
  rw [State.beginFrame, State.setEngine_get_self, State.setEngine_setEngine, State.setEngine_setEngine]
  cases x
  obtain ⟨rfl, rfl, rfl⟩ := awaits
  simp only [Option.isSome_some, Option.isNone_none, and_self, if_true, sendsByte]
  split_ifs <;> rfl

theorem beginFrame_of_silent (silent : (s.printers[p]).pendingByte = none) : s.beginFrame p = s := by
  unfold State.beginFrame
  dsimp only
  rw [if_neg]
  rw [silent]
  exact fun h => Bool.false_ne_true h.2.1

/-- An engine in SENDING that neither sends nor waits begins the frame of the byte it stands before. -/
theorem beginFrame_of_pending (awaits : (s.printers[p]).awaitsByte) (pending : (s.printers[p]).pendingByte.isSome = true) :
    s.beginFrame p = s.setEngine p
      (if (s.printers[p]).clockLow then
        { s.printers[p] with state := .inhibited, inhibit := some s.settings.inhibitLimit }
      else { s.printers[p] with frame := some 1 }) := by
  obtain ⟨sending, unframed, unbacked⟩ := awaits
  unfold State.beginFrame
  dsimp only
  rw [if_pos ⟨sending, pending, by rw [unframed]; rfl, by rw [unbacked]; rfl⟩]
  split_ifs <;> rfl

/-! ### The next part (R141, R158, R159) -/

/-- A job that waits for its next line in STALLED (R141). -/
def Job.stalls (j : Job) (time : Nat) : Job := { j with state := .stalled, stall := some time }

theorem nextPart_cut (job : s.jobs[jn] = some j) (ends : j.endPending ≠ none ∨ (j.written ≤ j.sent ∧ j.closed = true)) :
    s.nextPart p jn = s.enterPart p j .cut := by
  unfold State.nextPart
  rw [job]
  dsimp only
  by_cases pending : j.endPending = none
  · obtain ⟨sent, closed⟩ := ends.resolve_left (not_not.mpr pending)
    rw [if_neg (by rw [pending]; exact Bool.false_ne_true), if_neg (not_lt.mpr sent), if_pos closed]
  · rw [if_pos (Option.isSome_iff_ne_none.mpr pending)]

theorem nextPart_stalls (job : s.jobs[jn] = some j) (unended : j.endPending = none) (sent : j.written ≤ j.sent)
    (unclosed : j.closed = false) :
    s.nextPart p jn = (s.setJob jn (some (j.stalls s.settings.stallTime))).setEngine p
      { s.printers[p] with position := none, pendingByte := none } := by
  unfold State.nextPart
  rw [job]
  dsimp only
  rw [if_neg (by rw [unended]; exact Bool.false_ne_true), if_neg (not_lt.mpr sent),
    if_neg (by rw [unclosed]; exact Bool.false_ne_true)]
  rfl

theorem cut_beginFrame (awaits : (s.printers[p]).awaitsByte) (job : s.jobs[jn] = some j)
    (ends : j.endPending ≠ none ∨ (j.written ≤ j.sent ∧ j.closed = true)) :
    (s.nextPart p jn).beginFrame p =
      s.setEngine p (sendsByte s s.printers[p] { part := .cut, next := 0 } (controlCode Config.codeCut)) := by
  rw [nextPart_cut job ends]
  exact enterPart_beginFrame awaits rfl

theorem line_beginFrame (awaits : (s.printers[p]).awaitsByte) (job : s.jobs[jn] = some j) (unended : j.endPending = none)
    (unsent : j.sent < j.written) :
    ∃ b, (storedLineBytes (s.storedLine j j.sent)).head? = some b ∧ (s.nextPart p jn).beginFrame p =
      s.setEngine p (sendsByte s s.printers[p] { part := .stored j.sent, next := 0 } b) := by
  obtain ⟨b, first⟩ := exists_storedLineBytes_head (s.storedLine j j.sent)
  refine ⟨b, first, ?_⟩
  rw [nextPart_of_unsent job unended unsent]
  exact enterPart_beginFrame awaits first

theorem stall_beginFrame (job : s.jobs[jn] = some j) (unended : j.endPending = none) (sent : j.written ≤ j.sent)
    (unclosed : j.closed = false) :
    (s.nextPart p jn).beginFrame p = (s.setJob jn (some (j.stalls s.settings.stallTime))).setEngine p
      { s.printers[p] with position := none, pendingByte := none } := by
  rw [nextPart_stalls job unended sent unclosed, beginFrame_of_silent]
  rw [State.setEngine_get_self]

/-- What an engine that awaits a byte of job `jn` does next: CUT, the next written line, or the job stalls. -/
inductive GoesOn (s : State) (p : Printer) (jn : JobNo) (j : Job) : State → Prop
  | cut : j.endPending ≠ none ∨ (j.written ≤ j.sent ∧ j.closed = true) →
      GoesOn s p jn j (s.setEngine p (sendsByte s s.printers[p] { part := .cut, next := 0 } (controlCode Config.codeCut)))
  | line (b : LinkByte) : j.endPending = none → j.sent < j.written →
      GoesOn s p jn j (s.setEngine p (sendsByte s s.printers[p] { part := .stored j.sent, next := 0 } b))
  | stall : j.endPending = none → j.written ≤ j.sent → j.closed = false →
      GoesOn s p jn j ((s.setJob jn (some (j.stalls s.settings.stallTime))).setEngine p
        { s.printers[p] with position := none, pendingByte := none })

theorem nextPart_goesOn (awaits : (s.printers[p]).awaitsByte) (job : s.jobs[jn] = some j) :
    GoesOn s p jn j ((s.nextPart p jn).beginFrame p) := by
  by_cases ends : j.endPending ≠ none ∨ (j.written ≤ j.sent ∧ j.closed = true)
  · rw [cut_beginFrame awaits job ends]
    exact .cut ends
  · obtain ⟨unended, goes⟩ := not_or.mp ends
    rw [not_not] at unended
    by_cases unsent : j.sent < j.written
    · obtain ⟨b, -, line⟩ := line_beginFrame awaits job unended unsent
      rw [line]
      exact .line b unended unsent
    · have unclosed : j.closed = false := Bool.eq_false_iff.mpr fun closed => goes ⟨not_lt.mp unsent, closed⟩
      rw [stall_beginFrame job unended (not_lt.mp unsent) unclosed]
      exact .stall unended (not_lt.mp unsent) unclosed

/-! ### The start of a copy (R139, R158) -/

theorem exists_copyMarkerBytes_head (j : Job) : ∃ b, (copyMarkerBytes j).head? = some b := ⟨_, rfl⟩

theorem beginCopy_marked (awaits : (s.printers[p]).awaitsByte) (job : s.jobs[jn] = some j) (several : 1 < j.copies) :
    ∃ b, (copyMarkerBytes j).head? = some b ∧ s.beginCopy p jn =
      (s.setJob jn (some { j with sent := 0 })).setEngine p
        (sendsByte s s.printers[p] { part := .copyMarker, next := 0 } b) := by
  obtain ⟨b, first⟩ := exists_copyMarkerBytes_head j
  refine ⟨b, first, ?_⟩
  unfold State.beginCopy
  rw [job]
  dsimp only
  rw [if_pos several]
  exact enterPart_beginFrame (s := s.setJob jn (some { j with sent := 0 })) (j := { j with sent := 0 }) awaits first

theorem beginCopy_single (job : s.jobs[jn] = some j) (single : ¬ 1 < j.copies) :
    s.beginCopy p jn = ((s.setJob jn (some { j with sent := 0 })).nextPart p jn).beginFrame p := by
  unfold State.beginCopy
  rw [job]
  dsimp only
  rw [if_neg single]

/-- The part a copy begins with. -/
def Job.firstPart (j : Job) : CopyPart := if 1 < j.copies then .copyMarker else .stored 0

theorem beginCopy_of_written (awaits : (s.printers[p]).awaitsByte) (job : s.jobs[jn] = some j)
    (unended : j.endPending = none) (lines : 0 < j.written) :
    ∃ b, (s.partBytes j j.firstPart).head? = some b ∧ s.beginCopy p jn =
      (s.setJob jn (some { j with sent := 0 })).setEngine p
        (sendsByte s s.printers[p] { part := j.firstPart, next := 0 } b) := by
  unfold Job.firstPart
  split
  · exact beginCopy_marked awaits job ‹_›
  · rename_i single
    rw [beginCopy_single job single]
    exact line_beginFrame (s := s.setJob jn (some { j with sent := 0 })) awaits (State.setJob_get_self s jn _) unended lines

/-! ### The start condition (R139) -/

theorem offer_of_none (none_waits : s.headJob p = none) : s.offer p = s := by
  unfold State.offer
  rw [none_waits]

theorem offer_of_unready (head : s.headJob p = some (jn, j))
    (unready : (s.printers[p]).state ≠ .idle ∨ j.startable = false) : s.offer p = s := by
  unfold State.offer
  rw [head]
  refine if_neg fun ready => ?_
  rcases unready with busy | unstartable
  · exact busy ready.1
  · rw [unstartable] at ready
    exact Bool.false_ne_true ready.2

/-- The engine that has just taken a job. -/
def Engine.taking (e : Engine) (jn : JobNo) : Engine := { e with state := .sending, job := some jn }

theorem offer_of_ready (head : s.headJob p = some (jn, j)) (idle : (s.printers[p]).state = .idle)
    (startable : j.startable = true) :
    s.offer p = ((s.setJob jn (some { j with state := .printing })).setEngine p ((s.printers[p]).taking jn)).beginCopy p jn := by
  unfold State.offer
  rw [head]
  exact if_pos ⟨idle, startable⟩

end

/-- Settles O48: the start condition takes a startable head to PRINTING and sends the first byte of its copy. -/
theorem idleEngineTakesTheStartableHead : Obligations.IdleEngineTakesTheStartableHead := by
  intro s k jn j head
  refine ⟨fun unready => offer_of_unready head ?_, fun idle startable rest lines unended => ?_⟩
  · rcases unready with busy | unstartable
    · exact .inl busy
    · exact .inr unstartable
  · obtain ⟨-, position, pending, unframed, unbacked, -⟩ := rest
    rw [offer_of_ready head idle startable]
    obtain ⟨b, first, begun⟩ := beginCopy_of_written (p := k) (jn := jn) (j := { j with state := .printing })
      (s := (s.setJob jn (some { j with state := .printing })).setEngine k ((s.printers[k]).taking jn))
      (by rw [State.setEngine_get_self]; exact ⟨rfl, unframed, unbacked⟩)
      (State.setJob_get_self s jn _) unended lines
    refine ⟨b, first, begun.trans ?_⟩
    rw [State.setEngine_get_self]
    simp only [State.setEngine, State.setJob, Vector.set_set]
    rfl

end Sys2Proof.Machine
end

section
/-! SUPPORT. The printer link's events (R140, R143, R144, R153 to R160): accepted and refused bytes, the clock line, halts
and the ends of jobs. -/

namespace Sys2Proof.Machine

section
variable {s t : State} {p : Printer} {jn : JobNo} {j : Job}

/-! ### The end of a job (R133, R135, R140) -/

theorem mem_putBack {q : Page} {pages pool : List Page} : q ∈ putBack pages pool ↔ q ∈ pool ∨ q ∈ pages := by
  induction pages generalizing pool with
  | nil => simp [putBack]
  | cons first rest ih =>
    have stepped : putBack (first :: rest) pool = putBack rest (insertPage first pool) := rfl
    rw [stepped, ih, mem_insertPage, List.mem_cons]
    tauto

/-- The port records with JOB_DONE latched at the owner of a job. -/
def donePorts (s : State) (j : Job) : Vector StationPort 4 := mapEntries (fun q x => ownerLatched j q x) s.ports

theorem donePorts_of_composer (owner : j.owner = .composer) : donePorts s j = s.ports := by
  apply Vector.ext
  intro q below
  simp [donePorts, mapEntries, ownerLatched, latchedIf, owner]

theorem latchAt_owner {q : Port} (owner : j.owner = .port q) : (s.latchAt .jobDone q).ports = donePorts s j := by
  apply Vector.ext
  intro k below
  unfold State.latchAt State.latchWhere donePorts ownerLatched latchedIf
  simp only [mapEntries, owner, Vector.getElem_ofFn, Owner.port.injEq, beq_iff_eq, decide_eq_true_eq, eq_comm (a := q)]
  rfl

theorem endJob_of_composer (job : s.jobs[jn] = some j) (owner : j.owner = .composer) (d : DoneStatus) (latch : Bool) :
    s.endJob jn d latch = { s with jobs := s.jobs.set jn none, freePages := putBack j.pages s.freePages } := by
  unfold State.endJob
  simp only [job, owner, releaseJob_of_job job]

/-- A port's job in DONE with its status (R140). -/
def Job.ended (j : Job) (d : DoneStatus) : Job := { j with state := .done, doneStatus := some d, stall := none }

theorem endJob_of_port {q : Port} (job : s.jobs[jn] = some j) (owner : j.owner = .port q) (d : DoneStatus) (latch : Bool) :
    s.endJob jn d latch = { s with
      jobs := s.jobs.set jn (some (j.ended d)), ports := if latch then donePorts s j else s.ports } := by
  unfold State.endJob
  rw [job]
  dsimp only
  rw [← latchAt_owner owner]
  simp only [owner]
  cases latch <;> simp only [Bool.false_eq_true, if_false, if_true] <;> unfold Job.ended <;> rw [← owner] <;> rfl

theorem endJob_frame (job : s.jobs[jn] = some j) (d : DoneStatus) (latch : Bool) :
    s.endJob jn d latch = { s with
      jobs := (s.endJob jn d latch).jobs, freePages := (s.endJob jn d latch).freePages
      ports := if latch then donePorts s j else s.ports } := by
  cases owner : j.owner with
  | composer => rw [endJob_of_composer job owner, donePorts_of_composer owner, ite_self]
  | port q => rw [endJob_of_port job owner]

theorem endJob_ended (job : s.jobs[jn] = some j) (sorted : s.freePages.Pairwise (· < ·)) (d : DoneStatus) (latch : Bool) :
    JobEnded s (s.endJob jn d latch) jn j d := by
  unfold JobEnded
  cases owner : j.owner with
  | composer =>
    rw [endJob_of_composer job owner]
    exact ⟨rfl, fun q => mem_putBack, putBack_sorted sorted⟩
  | port q =>
    rw [endJob_of_port job owner]
    unfold Job.ended
    exact ⟨by rw [← owner], rfl⟩

/-! ### Rest and the order to end the copy (R159, R161) -/

/-- Of the engine, its rest keeps fault, clock line and train. -/
theorem restedEngine_congr (settings : t.settings = s.settings) (fault : (t.printers[p]).fault = (s.printers[p]).fault)
    (clock : (t.printers[p]).clockLow = (s.printers[p]).clockLow) (train : (t.printers[p]).train = (s.printers[p]).train) :
    restedEngine t p = restedEngine s p := by
  unfold restedEngine
  dsimp only
  rw [settings, fault, clock, train]

theorem restEngine_eq (s : State) (p : Printer) : s.restEngine p = (s.setEngine p (restedEngine s p)).offer p := rfl

theorem turnToCut_eq (held : (s.printers[p]).job = some jn) (job : s.jobs[jn] = some j)
    (unframed : (s.printers[p]).frame = none) : s.turnToCut p = s.setEngine p (turnedToCut j s.printers[p]) := by
  unfold State.turnToCut
  dsimp only
  rw [held]
  cases position : (s.printers[p]).position with
  | none =>
    have still : turnedToCut j s.printers[p] = s.printers[p] := by
      unfold turnedToCut
      rw [position]
      exact if_neg fun turns => Bool.false_ne_true turns.2
    rw [still, State.setEngine_self]
  | some pos =>
    dsimp only
    rw [job, unframed]
    dsimp only
    by_cases turns : j.endPending.isSome ∧ pos.next = 0 ∧ pos.part ≠ .cut
    · obtain ⟨pending, first, other⟩ := turns
      have turned : turnedToCut j s.printers[p] = { s.printers[p] with
          position := some { part := .cut, next := 0 }, pendingByte := some (controlCode Config.codeCut) } := by
        unfold turnedToCut
        rw [position]
        exact if_pos ⟨pending, by simp [first, other]⟩
      rw [if_pos ⟨pending, rfl, first, other⟩, turned]
      rfl
    · have still : turnedToCut j s.printers[p] = s.printers[p] := by
        unfold turnedToCut
        rw [position]
        exact if_neg (by simpa using turns)
      rw [if_neg (by tauto), still, State.setEngine_self]

theorem setEngine_turnToCut {x : Engine} (held : x.job = some jn) (job : s.jobs[jn] = some j) (unframed : x.frame = none) :
    (s.setEngine p x).turnToCut p = s.setEngine p (turnedToCut j x) := by
  have engine := State.setEngine_get_self s p x
  rw [turnToCut_eq (s := s.setEngine p x) (jn := jn) (by rw [engine]; exact held) job (by rw [engine]; exact unframed),
    engine, State.setEngine_setEngine]

/-! ### Halts (R144, R160) -/

theorem names_printer (v : Vector (Option Printer) 4) :
    v.toList.contains (some p) = decide (∃ n : Fin 4, v[n] = some p) := by
  rw [Bool.eq_iff_iff, List.contains_iff_mem, decide_eq_true_iff, Vector.mem_toList_iff, Vector.mem_iff_getElem]
  exact ⟨fun ⟨n, below, entry⟩ => ⟨⟨n, below⟩, entry⟩, fun ⟨n, entry⟩ => ⟨n.val, n.isLt, entry⟩⟩

/-- The engine record of a halt (R160). -/
def Engine.halted (e : Engine) (k : FaultKind) : Engine :=
  { e with
    state := .halted, fault := some k, job := none, position := none, pendingByte := none, frame := none
    backoff := none, inhibit := none }

/-- What a halt makes of the job that the engine holds (R144). -/
def State.haltJob (s : State) (p : Printer) (jn : JobNo) (j : Job) : State :=
  match j.endPending with
  | none => s.setJob jn (some { j with state := .halted })
  | some x => (s.leaveQueue p jn).endJob jn x.status true

/-- The ports with PRINTER_HALTED latched where an entry names the printer. -/
def State.latchHalted (s : State) (p : Printer) : State :=
  s.latchWhere .printerHalted fun q _ => s.settings.printersOf[q].toList.contains (some p)

theorem haltEngine_of_job (k : FaultKind) (held : (s.printers[p]).job = some jn) (job : s.jobs[jn] = some j) :
    s.haltEngine p k = ((s.setEngine p ((s.printers[p]).halted k)).haltJob p jn j).latchHalted p := by
  unfold State.haltEngine
  dsimp only
  rw [held]
  dsimp only
  rw [show (s.setEngine p _).jobs[jn] = some j from job]
  rfl

theorem haltEngine_of_free (k : FaultKind) (free : (s.printers[p]).job = none) :
    s.haltEngine p k = (s.setEngine p ((s.printers[p]).halted k)).latchHalted p := by
  unfold State.haltEngine
  dsimp only
  rw [free]
  rfl

theorem latchHalted_ports (s : State) (p : Printer) :
    (s.latchHalted p).ports = mapEntries (fun q x =>
      latchedIf (decide (∃ n : Fin 4, s.settings.printersOf[q][n] = some p)) .printerHalted x) s.ports := by
  apply Vector.ext
  intro q below
  unfold State.latchHalted State.latchWhere latchedIf
  simp only [mapEntries, Vector.getElem_ofFn, names_printer]
  rfl

theorem latchHalted_eq (s : State) (p : Printer) : s.latchHalted p = { s with ports := (s.latchHalted p).ports } := rfl

theorem mapEntries_mapEntries {α β γ : Type} {n : Nat} (g : Fin n → β → γ) (f : Fin n → α → β) (v : Vector α n) :
    mapEntries g (mapEntries f v) = mapEntries (fun i x => g i (f i x)) v := by
  simp [mapEntries]

/-- A halting engine, its refusal count apart, as the statements say it. -/
theorem haltEngine_halts {x : Engine} {f : Option Nat} {n : Nat} (k : FaultKind)
    (like : x = { s.printers[p] with frame := f, refusals := n }) (held : ∀ jn, (s.printers[p]).job = some jn →
      ∃ j, s.jobs[jn] = some j ∧ j.printer = p) (sorted : s.freePages.Pairwise (· < ·)) :
    EngineHalts s ((s.setEngine p x).haltEngine p k) p k n := by
  have itsJob : x.job = (s.printers[p]).job := by rw [like]
  have record : x.halted k = { (s.printers[p]).halted k with refusals := n } := by rw [like]; rfl
  have engine : (s.setEngine p x).printers[p] = x := State.setEngine_get_self s p x
  unfold EngineHalts
  cases job : (s.printers[p]).job with
  | none =>
    rw [haltEngine_of_free k (by rw [engine, itsJob]; exact job), engine, State.setEngine_setEngine, record]
    rw [latchHalted_eq, latchHalted_ports]
    rfl
  | some jn =>
    obtain ⟨j, itsRecord, rfl⟩ := held jn job
    have halts := haltEngine_of_job (s := s.setEngine j.printer x) (j := j) k (by rw [engine, itsJob]; exact job) itsRecord
    rw [halts, engine, State.setEngine_setEngine, record, Option.bind_some, itsRecord, Option.map_some]
    dsimp only
    unfold State.haltJob
    cases pending : j.endPending with
    | none =>
      dsimp only
      rw [latchHalted_eq, latchHalted_ports]
      rfl
    | some d =>
      dsimp only
      have ended := endJob_ended (s := (s.setEngine j.printer { (s.printers[j.printer]).halted k with refusals := n }).leaveQueue j.printer jn)
        itsRecord sorted d.status true
      have frame := endJob_frame (s := (s.setEngine j.printer { (s.printers[j.printer]).halted k with refusals := n }).leaveQueue j.printer jn)
        itsRecord d.status true
      refine ⟨ended, ?_⟩
      rw [latchHalted_eq, latchHalted_ports, frame, if_pos rfl, donePorts, mapEntries_mapEntries]
      rfl

end

end Sys2Proof.Machine
end

section
/-! SUPPORT. The answers of the printer (R140, R141, R154, R158, R159): what an accepted and a refused byte do. -/

namespace Sys2Proof.Machine

/-! ### What the engine's law says of a frame, a backoff and an inhibition (R152 to R160) -/

section
variable {e : Engine}

theorem Engine.lawful.framed (law : e.lawful) (framed : e.frame ≠ none) :
    e.state = .sending ∧ e.backoff = none ∧ e.pendingByte.isSome = true := by
  obtain ⟨-, -, frame, -⟩ := law
  exact frame (Option.isSome_iff_ne_none.mpr framed)

theorem Engine.lawful.backed (law : e.lawful) (backed : e.backoff ≠ none) :
    e.state = .sending ∧ e.frame = none ∧ e.pendingByte.isSome = true := by
  obtain ⟨-, -, frame, backoff, -⟩ := law
  obtain ⟨sending, pending⟩ := backoff (Option.isSome_iff_ne_none.mpr backed)
  refine ⟨sending, ?_, pending⟩
  by_contra framed
  exact backed (frame (Option.isSome_iff_ne_none.mpr framed)).2.1

theorem Engine.lawful.inhibited (law : e.lawful) (inhibited : e.state = .inhibited) :
    e.frame = none ∧ e.backoff = none ∧ e.pendingByte.isSome = true ∧ e.inhibit.isSome = true ∧ e.dropping = false := by
  obtain ⟨-, limit, frame, backoff, dropping, -, -, -, pending, -⟩ := law
  have unframed : e.frame = none := by
    by_contra framed
    have sending := (frame (Option.isSome_iff_ne_none.mpr framed)).1
    rw [inhibited] at sending
    cases sending
  have unbacked : e.backoff = none := by
    by_contra backed
    have sending := (backoff (Option.isSome_iff_ne_none.mpr backed)).1
    rw [inhibited] at sending
    cases sending
  refine ⟨unframed, unbacked, pending inhibited, limit.mpr inhibited, Bool.eq_false_iff.mpr fun drops => ?_⟩
  have framed := (dropping drops).1
  rw [unframed] at framed
  cases framed

theorem Engine.lawful.dropping_of_job (law : e.lawful) {jn : JobNo} (held : e.job = some jn) : e.dropping = false := by
  obtain ⟨-, -, -, -, dropping, -⟩ := law
  refine Bool.eq_false_iff.mpr fun drops => ?_
  have free := (dropping drops).2
  rw [held] at free
  cases free

/-- An engine that sends and does not drop its job holds one. -/
theorem Engine.lawful.job_of_framed (law : e.lawful) (framed : e.frame ≠ none) (keeps : e.dropping = false) :
    ∃ jn, e.job = some jn := by
  obtain ⟨sending, -⟩ := law.framed framed
  obtain ⟨-, -, -, -, -, -, working, -⟩ := law
  rcases working (.inl sending) with held | drops
  · exact Option.isSome_iff_exists.mp held
  · rw [keeps] at drops
    cases drops

end

section
variable {s : State} {p : Printer} {jn : JobNo} {j : Job} {part : CopyPart} {n : Nat}

/-- The engine whose frame has been accepted. -/
def Engine.accepted (e : Engine) : Engine := { e with frame := none, refusals := 0 }

theorem Engine.lawful.accepted_awaits {e : Engine} (law : e.lawful) (framed : e.frame ≠ none) : e.accepted.awaitsByte := by
  obtain ⟨sending, unbacked, -⟩ := law.framed framed
  exact ⟨sending, rfl, unbacked⟩

/-! ### An accepted byte (R154, R158) -/

theorem frameEnd_of_free (a : Answer) (free : (s.printers[p]).frame = none) : frameEnd p a s = s := by
  unfold frameEnd
  dsimp only
  rw [if_pos (by rw [free]; rfl)]

theorem frameEnd_accepted (framed : (s.printers[p]).frame ≠ none) (keeps : (s.printers[p]).dropping = false) :
    frameEnd p .accepted s = s.byteAccepted p := by
  unfold frameEnd
  dsimp only
  rw [if_neg (by simpa using framed), if_neg (by rw [keeps]; exact Bool.false_ne_true)]

theorem frameEnd_refused (framed : (s.printers[p]).frame ≠ none) (keeps : (s.printers[p]).dropping = false) :
    frameEnd p .refused s = s.byteRefused p := by
  unfold frameEnd
  dsimp only
  rw [if_neg (by simpa using framed), if_neg (by rw [keeps]; exact Bool.false_ne_true)]

theorem frameEnd_dropping (a : Answer) (framed : (s.printers[p]).frame ≠ none) (drops : (s.printers[p]).dropping = true) :
    frameEnd p a s = s.restEngine p := by
  unfold frameEnd
  dsimp only
  rw [if_neg (by simpa using framed), if_pos drops]

section
variable (held : (s.printers[p]).job = some jn) (job : s.jobs[jn] = some j)
  (position : (s.printers[p]).position = some ⟨part, n⟩)
include held job position

theorem byteAccepted_within {b : LinkByte} (awaits : (s.printers[p]).accepted.awaitsByte)
    (next : (s.partBytes j part)[n + 1]? = some b) :
    s.byteAccepted p = s.setEngine p (sendsByte s (s.printers[p]).accepted ⟨part, n + 1⟩ b) := by
  unfold State.byteAccepted
  dsimp only
  rw [held, position]
  dsimp only
  rw [show (s.setEngine p _).jobs[jn] = some j from job]
  dsimp only
  rw [show ((s.setEngine p _).partBytes j part)[n + 1]? = some b from next]
  dsimp only
  rw [State.setEngine_get_self, ← held, ← position, State.setEngine_setEngine]
  exact setEngine_beginFrame (x := (s.printers[p]).accepted) awaits ⟨part, n + 1⟩ b

theorem byteAccepted_last (last : (s.partBytes j part).length = n + 1) :
    s.byteAccepted p = (s.setEngine p (s.printers[p]).accepted).partSent p jn part := by
  unfold State.byteAccepted
  dsimp only
  rw [held, position]
  dsimp only
  rw [show (s.setEngine p _).jobs[jn] = some j from job]
  dsimp only
  rw [show ((s.setEngine p _).partBytes j part)[n + 1]? = none from List.getElem?_eq_none last.le]
  dsimp only
  rw [← held, ← position]
  rfl

end

/-- The job once a part has been sent: a stored line counts. -/
def Job.partDone (j : Job) (part : CopyPart) : Job :=
  { j with
    sent := match part with
      | .stored _ => j.sent + 1
      | _ => j.sent }

/-- The engine goes on from the end of a part that is not CUT. -/
theorem partSent_goesOn (job : s.jobs[jn] = some j) (other : part ≠ .cut) :
    s.partSent p jn part = ((s.setJob jn (some (j.partDone part))).nextPart p jn).beginFrame p := by
  cases part with
  | copyMarker =>
    have still : s.setJob jn (some (j.partDone .copyMarker)) = s := State.setJob_self job
    rw [still]
    rfl
  | stored k =>
    unfold State.partSent
    dsimp only
    rw [job]
    rfl
  | cut => exact absurd rfl other

/-! ### The copy end (R140, R141, R143) -/

/-- The status a job ends with at a copy end: its pending one, or PRINTED. -/
def Job.endStatus (j : Job) : DoneStatus :=
  match j.endPending with
  | some .cancelled => .cancelled
  | some .underrun => .underrun
  | none => .printed

theorem copyEnd_of_more (job : s.jobs[jn] = some j) (unended : j.endPending = none) (more : j.currentCopy < j.copies) :
    s.copyEnd p jn = (s.setJob jn (some { j with currentCopy := j.currentCopy + 1, sent := 0 })).beginCopy p jn := by
  unfold State.copyEnd
  rw [job]
  dsimp only
  rw [unended]
  exact if_pos more

theorem copyEnd_of_last (job : s.jobs[jn] = some j) (last : j.endPending ≠ none ∨ j.copies ≤ j.currentCopy) :
    s.copyEnd p jn = ((s.leaveQueue p jn).endJob jn j.endStatus true).restEngine p := by
  unfold State.copyEnd Job.endStatus
  rw [job]
  dsimp only
  cases pending : j.endPending with
  | none =>
    rw [pending] at last
    exact if_neg (not_lt.mpr (last.resolve_left (not_not.mpr rfl)))
  | some x => cases x <;> rfl

/-! ### A refused byte (R154, R159) -/

/-- The engine whose frame has been refused. -/
def Engine.refused (e : Engine) : Engine := { e with frame := none, refusals := min 15 (e.refusals + 1) }

theorem byteRefused_again (held : (s.printers[p]).job = some jn) (job : s.jobs[jn] = some j)
    (below : (s.printers[p]).refusals + 1 < s.settings.refusalLimit) :
    s.byteRefused p = s.setEngine p (turnedToCut j { (s.printers[p]).refused with backoff := some 5 }) := by
  have again : s.byteRefused p =
      (s.setEngine p { (s.printers[p]).refused with backoff := some 5 }).turnToCut p := by
    unfold State.byteRefused
    dsimp only
    rw [if_neg (by exact not_le.mpr below), State.setEngine_get_self, State.setEngine_setEngine]
    rfl
  rw [again]
  exact setEngine_turnToCut held job rfl

theorem byteRefused_halts (limit : s.settings.refusalLimit ≤ (s.printers[p]).refusals + 1) :
    s.byteRefused p = (s.setEngine p (s.printers[p]).refused).haltEngine p .refused := by
  unfold State.byteRefused
  dsimp only
  exact if_pos limit

/-- A lawful engine's job is the head of its own queue, and so of its own printer. -/
theorem SpoolLaw.engine_job (law : SpoolLaw s) (held : (s.printers[p]).job = some jn) :
    ∃ j, s.headJob p = some (jn, j) ∧ s.jobs[jn] = some j ∧ j.printer = p ∧
      (j.state = .printing ∨ j.state = .stalled) := by
  obtain ⟨-, -, ⟨-, queued, -⟩, engines⟩ := law
  obtain ⟨-, holds, -⟩ := engines p
  obtain ⟨j, head, state⟩ := holds jn held
  obtain ⟨⟨rest, queue⟩, job⟩ := headJob_eq_some.mp head
  obtain ⟨j', job', printer, -⟩ := queued p jn (by rw [queue]; exact List.mem_cons_self)
  cases job.symm.trans job'
  exact ⟨j, head, job, printer, state⟩

theorem whileTaking_of_taking {f : State → State} (taking : s.taking = true) : whileTaking f s = f s := if_pos taking

end

/-- Settles O49: an accepted byte moves the engine within its part, at the end of a part, and at the copy end. -/
theorem acceptedBytesMoveTheEngineOn : Obligations.AcceptedBytesMoveTheEngineOn := by
  refine ⟨fun s k taking law => ?_, fun s k jn j taking law => ?_⟩
  · have runs : ∀ a, exec (.printerFrameEnd k a) s = .next (frameEnd k a s) := fun a =>
      congrArg _ (whileTaking_of_taking taking)
    obtain ⟨lawful, -⟩ := law k
    refine ⟨fun a free => (runs a).trans (congrArg _ (frameEnd_of_free a free)), fun jn j part n framed held job position => ?_⟩
    have awaits := lawful.accepted_awaits framed
    have accepts : exec (.printerFrameEnd k .accepted) s = .next (s.byteAccepted k) :=
      (runs _).trans (congrArg _ (frameEnd_accepted framed (lawful.dropping_of_job held)))
    refine ⟨fun b next => accepts.trans (congrArg _ (byteAccepted_within held job position awaits next)),
      fun last other => ?_⟩
    have goes : s.byteAccepted k = (((s.setEngine k (s.printers[k]).accepted).setJob jn
        (some (j.partDone part))).nextPart k jn).beginFrame k :=
      (byteAccepted_last held job position last).trans
        (partSent_goesOn (s := s.setEngine k (s.printers[k]).accepted) job other)
    have there : ((s.setEngine k (s.printers[k]).accepted).setJob jn (some (j.partDone part))).jobs[jn] =
        some (j.partDone part) := State.setJob_get_self _ _ _
    have engine : ((s.setEngine k (s.printers[k]).accepted).setJob jn (some (j.partDone part))).printers[k] =
        (s.printers[k]).accepted := State.setEngine_get_self s k _
    refine ⟨fun ends => ?_, fun unended unsent => ?_, fun unended sent unclosed => ?_⟩
    · rw [accepts, goes, cut_beginFrame (by rw [engine]; exact awaits) there ends, engine]
      simp only [State.setEngine, State.setJob, Vector.set_set]
      rfl
    · obtain ⟨b, first, line⟩ := line_beginFrame (by rw [engine]; exact awaits) there unended unsent
      refine ⟨b, first, ?_⟩
      rw [accepts, goes, line, engine]
      simp only [State.setEngine, State.setJob, Vector.set_set]
      rfl
    · rw [accepts, goes, stall_beginFrame there unended sent unclosed, engine]
      simp only [State.setEngine, State.setJob, Vector.set_set]
      rfl
  · intro e framed held job position
    obtain ⟨⟨sorted, -⟩, jobs, -, engines⟩ := id law
    obtain ⟨lawful, -⟩ := engines k
    obtain ⟨-, -, -, -, least, -⟩ := jobs jn j job
    have awaits := lawful.accepted_awaits framed
    have ends : exec (.printerFrameEnd k .accepted) s =
        .next ((s.setEngine k (s.printers[k]).accepted).copyEnd k jn) := by
      refine (congrArg _ (whileTaking_of_taking taking)).trans (congrArg _ ?_)
      rw [frameEnd_accepted framed (lawful.dropping_of_job held), byteAccepted_last held job position rfl]
      rfl
    have engine := State.setEngine_get_self s k (s.printers[k]).accepted
    refine ⟨fun unended more lines => ?_, fun last => ?_⟩
    · obtain ⟨b, first, begun⟩ := beginCopy_marked (p := k) (jn := jn)
        (s := (s.setEngine k (s.printers[k]).accepted).setJob jn (some { j with currentCopy := j.currentCopy + 1, sent := 0 }))
        (j := { j with currentCopy := j.currentCopy + 1, sent := 0 }) (by rw [State.setJob_printers, engine]; exact awaits)
        (State.setJob_get_self _ _ _) (lt_of_le_of_lt least more)
      refine ⟨b, first, ?_⟩
      rw [ends, copyEnd_of_more (s := s.setEngine k (s.printers[k]).accepted) job unended more, begun,
        State.setJob_printers, engine]
      simp only [State.setEngine, State.setJob, Vector.set_set]
      rfl
    · have job' : ((s.setEngine k (s.printers[k]).accepted).leaveQueue k jn).jobs[jn] = some j := job
      have ended := endJob_ended job' sorted j.endStatus true
      have frame := endJob_frame job' j.endStatus true
      rw [ends, copyEnd_of_last (s := s.setEngine k (s.printers[k]).accepted) job last, restEngine_eq]
      refine ⟨_, rfl, ended, ?_⟩
      have engine' : (((s.setEngine k (s.printers[k]).accepted).leaveQueue k jn).endJob jn j.endStatus true).printers[k] =
          (s.printers[k]).accepted := by
        rw [frame]
        exact engine
      rw [restedEngine_congr (s := s) (by rw [frame]; rfl) (by rw [engine']; rfl) (by rw [engine']; rfl)
        (by rw [engine']; rfl)]
      rw [State.setEngine, frame]
      simp only [State.setEngine, State.leaveQueue, State.setQueue, Vector.set_set, if_true]
      rfl

end Sys2Proof.Machine
end

section
/-! SUPPORT. Backoff, clock line and inhibition (R153 to R157). -/

namespace Sys2Proof.Machine

section
variable {s : State} {p : Printer} {jn : JobNo} {j : Job}

/-- A backoff's end sends the byte again (R154). -/
theorem backoffEnd_eq (law : (s.printers[p]).lawful) (backed : (s.printers[p]).backoff ≠ none) :
    backoffEnd p s = s.setEngine p
      (if (s.printers[p]).clockLow then
        { s.printers[p] with backoff := none, state := .inhibited, inhibit := some s.settings.inhibitLimit }
      else { s.printers[p] with backoff := none, frame := some 1 }) := by
  obtain ⟨sending, unframed, pending⟩ := law.backed backed
  have engine := State.setEngine_get_self s p { s.printers[p] with backoff := none }
  unfold backoffEnd
  dsimp only
  rw [if_neg (by simpa using backed), beginFrame_of_pending (by rw [engine]; exact ⟨sending, unframed, rfl⟩)
    (by rw [engine]; exact pending), engine, State.setEngine_setEngine]
  rfl

theorem clockLow_of_low (low : (s.printers[p]).clockLow = true) (period : Nat) : clockLow p period s = s := if_pos low

theorem clockLow_of_high (taking : s.taking = true) (high : (s.printers[p]).clockLow = false) (period : Nat) :
    clockLow p period s = clockPulled p period (s.setEngine p { s.printers[p] with clockLow := true }) := by
  unfold clockLow
  rw [if_neg (by rw [high]; exact Bool.false_ne_true)]
  exact whileTaking_of_taking taking

theorem clockPulled_of_free (period : Nat) (free : (s.printers[p]).frame = none) : clockPulled p period s = s := by
  unfold clockPulled
  dsimp only
  rw [if_pos (by rw [free]; rfl)]

theorem clockPulled_late {period : Nat} (framed : (s.printers[p]).frame ≠ none) (late : 10 < period) :
    clockPulled p period s = s.setEngine p { s.printers[p] with frame := some period } := by
  unfold clockPulled
  dsimp only
  rw [if_neg (by simpa using framed), if_neg (not_le.mpr late)]

theorem clockPulled_dropping {period : Nat} (framed : (s.printers[p]).frame ≠ none) (early : period ≤ 10)
    (drops : (s.printers[p]).dropping = true) : clockPulled p period s = s.restEngine p := by
  unfold clockPulled abortFrame
  dsimp only
  rw [if_neg (by simpa using framed), if_pos early, if_pos drops]

/-- The engine whose frame the printer has aborted (R156). -/
def Engine.aborted (e : Engine) (limit : Nat) : Engine :=
  { e with frame := none, state := .inhibited, inhibit := some limit }

theorem clockPulled_aborts {period : Nat} (framed : (s.printers[p]).frame ≠ none) (early : period ≤ 10)
    (keeps : (s.printers[p]).dropping = false) (held : (s.printers[p]).job = some jn) (job : s.jobs[jn] = some j) :
    clockPulled p period s = s.setEngine p (turnedToCut j ((s.printers[p]).aborted s.settings.inhibitLimit)) := by
  unfold clockPulled abortFrame
  dsimp only
  rw [if_neg (by simpa using framed), if_pos early, if_neg (by rw [keeps]; exact Bool.false_ne_true)]
  exact setEngine_turnToCut (x := (s.printers[p]).aborted s.settings.inhibitLimit) held job rfl

theorem clockRelease_of_low (taking : s.taking = true) (low : (s.printers[p]).clockLow = true) :
    clockRelease p s = clockReleased p (s.setEngine p { s.printers[p] with clockLow := false }) := by
  unfold clockRelease
  rw [if_pos low]
  exact whileTaking_of_taking taking

theorem clockReleased_of_other (other : (s.printers[p]).state ≠ .inhibited) : clockReleased p s = s := if_neg other

/-- An INHIBITED engine sends its byte once the line is released (R157). -/
theorem clockReleased_sends (law : (s.printers[p]).lawful) (inhibited : (s.printers[p]).state = .inhibited)
    (high : (s.printers[p]).clockLow = false) :
    clockReleased p s = s.setEngine p { s.printers[p] with state := .sending, inhibit := none, frame := some 1 } := by
  obtain ⟨unframed, unbacked, pending, -⟩ := law.inhibited inhibited
  have engine := State.setEngine_get_self s p { s.printers[p] with state := .sending, inhibit := none }
  unfold clockReleased
  dsimp only
  rw [if_pos inhibited, beginFrame_of_pending (by rw [engine]; exact ⟨rfl, unframed, unbacked⟩)
    (by rw [engine]; exact pending), engine, if_neg (by rw [high]; exact Bool.false_ne_true), State.setEngine_setEngine]

end

/-- Settles O50: a refused byte waits its backoff or halts the engine, and a dropped frame's answer rests it. -/
theorem refusedBytesAreSentAgain : Obligations.RefusedBytesAreSentAgain := by
  intro s k taking law e
  obtain ⟨⟨sorted, -⟩, -, -, engines⟩ := id law
  obtain ⟨lawful, -⟩ := engines k
  have runs : ∀ a, exec (.printerFrameEnd k a) s = .next (frameEnd k a s) := fun a =>
    congrArg _ (whileTaking_of_taking taking)
  have expires : exec (.backoffExpiry k) s = .next (backoffEnd k s) := congrArg _ (whileTaking_of_taking taking)
  refine ⟨fun framed keeps => ?_, fun drops a => ?_, fun idle => ?_, fun backed => ?_⟩
  · have refuses : exec (.printerFrameEnd k .refused) s = .next (s.byteRefused k) :=
      (runs _).trans (congrArg _ (frameEnd_refused framed keeps))
    refine ⟨fun below jn j held job => refuses.trans (congrArg _ (byteRefused_again held job below)), fun limit => ?_⟩
    refine ⟨_, refuses.trans (congrArg _ (byteRefused_halts limit)), haltEngine_halts .refused rfl (fun jn held => ?_) sorted⟩
    obtain ⟨j, -, job, printer, -⟩ := law.engine_job held
    exact ⟨j, job, printer⟩
  · obtain ⟨-, -, -, -, dropping, -⟩ := lawful
    have framed := Option.isSome_iff_ne_none.mp (dropping drops).1
    exact (runs a).trans (congrArg _ (frameEnd_dropping a framed drops))
  · refine expires.trans (congrArg _ ?_)
    unfold backoffEnd
    dsimp only
    rw [if_pos (by rw [show (s.printers[k]).backoff = none from idle]; rfl)]
  · exact expires.trans (congrArg _ (backoffEnd_eq lawful backed))

/-- Settles O51: the clock line pulled, released and held beyond the limit, by what the engine does. -/
theorem clockLineInhibits : Obligations.ClockLineInhibits := by
  intro s k taking law e
  obtain ⟨⟨sorted, -⟩, -, -, engines⟩ := id law
  obtain ⟨lawful, -⟩ := engines k
  have ends : exec (.inhibitTimerExpiry k) s = .next (inhibitEnd k s) := congrArg _ (whileTaking_of_taking taking)
  have pulled := State.setEngine_get_self s k { s.printers[k] with clockLow := true }
  have released := State.setEngine_get_self s k { s.printers[k] with clockLow := false }
  refine ⟨fun period low => congrArg _ (clockLow_of_low low period), fun period high free => ?_,
    fun period high framed late => ?_, fun period high framed early => ⟨fun drops => ?_, fun jn j held job => ?_⟩,
    fun high => ?_, fun low => ?_, fun other => ends.trans (congrArg _ (if_neg fun h => other h.1)), fun inhibited => ?_⟩
  · refine congrArg _ ((clockLow_of_high taking high period).trans ?_)
    rw [clockPulled_of_free period (by rw [pulled]; exact free)]
    rfl
  · refine congrArg _ ((clockLow_of_high taking high period).trans ?_)
    rw [clockPulled_late (by rw [pulled]; exact framed) late, pulled, State.setEngine_setEngine]
    rfl
  · refine congrArg _ ((clockLow_of_high taking high period).trans ?_)
    rw [clockPulled_dropping (by rw [pulled]; exact framed) early (by rw [pulled]; exact drops), restEngine_eq,
      restedEngine, pulled, State.setEngine_setEngine]
    rfl
  · refine congrArg _ ((clockLow_of_high taking high period).trans ?_)
    rw [clockPulled_aborts (s := s.setEngine k { s.printers[k] with clockLow := true }) (by rw [pulled]; exact framed) early
      (by rw [pulled]; exact lawful.dropping_of_job held) (by rw [pulled]; exact held) job, pulled, State.setEngine_setEngine]
    rfl
  · exact congrArg _ (if_neg (by rw [show (s.printers[k]).clockLow = false from high]; exact Bool.false_ne_true))
  · refine congrArg _ ((clockRelease_of_low taking low).trans ?_)
    split_ifs with inhibited
    · rw [clockReleased_sends (by rw [released]; exact lawful) (by rw [released]; exact inhibited) (by rw [released]),
        released, State.setEngine_setEngine]
      rfl
    · rw [clockReleased_of_other (by rw [released]; exact inhibited)]
      rfl
  · obtain ⟨-, -, -, limit, -⟩ := lawful.inhibited inhibited
    refine ⟨_, ends.trans (congrArg _ (if_pos ⟨inhibited, limit⟩)), ?_⟩
    have halts := haltEngine_halts (s := s) (p := k) (x := s.printers[k]) .inhibitTimeout rfl (fun jn held => ?_) sorted
    · rwa [State.setEngine_self] at halts
    · obtain ⟨j, -, job, printer, -⟩ := law.engine_job held
      exact ⟨j, job, printer⟩

end Sys2Proof.Machine
end

section
/-! SUPPORT. JOB_CANCEL and the stall timer (R141, R143). -/

namespace Sys2Proof.Machine

theorem jobCancel_served : ServedBy .jobCancel 0x44 jobCancel := fun _ => rfl

section
variable {s : State} {p : Printer} {jn : JobNo} {j : Job} {r : Req}

/-! ### The checks (R143) -/

theorem jobCancel_of_form {n : Nat} (hn : n < 256) (data : r.data = enc1 n) :
    jobCancel r s = onJob r n s (jobCancelOn r s) := by
  simp only [jobCancel, data, decodeOne_enc n hn]

theorem jobCancelOn_noJob (foreign : j.owner ≠ .port r.port ∧ (s.ports[r.port]).role ≠ .office) :
    jobCancelOn r s jn j = answer r .noJob [] s := if_pos foreign

theorem jobCancelOn_jobState (own : ¬ (j.owner ≠ .port r.port ∧ (s.ports[r.port]).role ≠ .office)) (done : j.state = .done) :
    jobCancelOn r s jn j = answer r .jobState [] s := (if_neg own).trans (if_pos done)

theorem jobCancelOn_accepted {t : State} {ended : Bool}
    (own : ¬ (j.owner ≠ .port r.port ∧ (s.ports[r.port]).role ≠ .office)) (undone : j.state ≠ .done)
    (cancelled : cancelJob r jn j s = (t, ended)) :
    jobCancelOn r s jn j = answer r .ok (if ended then [0] else [1]) t := by
  refine (if_neg own).trans ((if_neg undone).trans ?_)
  rw [cancelled]

/-! ### A cancel by the job's state (R143) -/

/-- The job with its pending end CANCELLED. -/
def Job.cancelling (j : Job) : Job := { j with endPending := some .cancelled }

/-- A STALLED job that has been ordered to end: its timer has stopped. -/
def Job.ending (j : Job) (x : PendingEnd) : Job := { j with endPending := some x, stall := none }

theorem cancelJob_of_ending (ending : j.endPending ≠ none) : cancelJob r jn j s = (s, false) :=
  if_pos (Option.isSome_iff_ne_none.mpr ending)

theorem turnToCut_of_framed (framed : (s.printers[p]).frame ≠ none) : s.turnToCut p = s := by
  unfold State.turnToCut
  dsimp only
  split
  · split
    · rfl
    · exact if_neg fun turns => framed (Option.isNone_iff_eq_none.mp turns.2.1)
  · rfl

theorem SpoolLaw.printing_job (law : SpoolLaw s) (job : s.jobs[jn] = some j) (state : j.state = .printing ∨ j.state = .stalled) :
    (s.printers[j.printer]).job = some jn := by
  obtain ⟨-, -, queues, engines⟩ := law
  have head := queues.headJob job (by rcases state with h | h <;> rw [h] <;> rfl)
    (by rcases state with h | h <;> rw [h] <;> decide)
  obtain ⟨-, -, ofHead, -⟩ := engines j.printer
  exact (ofHead jn j head).1 state

section
variable (unended : j.endPending = none)
include unended

theorem cancelJob_of_printing (printing : j.state = .printing) (held : (s.printers[j.printer]).job = some jn) :
    cancelJob r jn j s =
      ((s.setJob jn (some j.cancelling)).setEngine j.printer
        (if (s.printers[j.printer]).frame = none then turnedToCut j.cancelling s.printers[j.printer]
          else s.printers[j.printer]), false) := by
  have turns : cancelJob r jn j s = ((s.setJob jn (some j.cancelling)).turnToCut j.printer, false) := by
    simp [cancelJob, unended, printing, Job.cancelling]
  have engine : (s.setJob jn (some j.cancelling)).printers[j.printer] = s.printers[j.printer] := rfl
  rw [turns]
  congr 1
  split_ifs with unframed
  · exact turnToCut_eq (s := s.setJob jn (some j.cancelling)) held (State.setJob_get_self _ _ _) unframed
  · rw [turnToCut_of_framed (s := s.setJob jn (some j.cancelling)) unframed, ← engine, State.setEngine_self]

theorem cancelJob_of_stalled (stalled : j.state = .stalled) (awaits : (s.printers[j.printer]).awaitsByte) :
    cancelJob r jn j s =
      ((s.setJob jn (some (j.ending .cancelled))).setEngine j.printer
        (sendsByte s s.printers[j.printer] { part := .cut, next := 0 } (controlCode Config.codeCut)), false) := by
  have cuts := cut_beginFrame (s := s.setJob jn (some (j.ending .cancelled))) (p := j.printer) (jn := jn)
    (j := j.ending .cancelled) awaits (State.setJob_get_self _ _ _) (.inl (Option.some_ne_none _))
  refine Eq.trans ?_ (congrArg (·, false) cuts)
  simp [cancelJob, unended, stalled, Job.ending]

/-- A cancel that ends the job now, once it has left its queue (R143). -/
theorem cancelJob_of_waiting (law : QueueLaw s) (job : s.jobs[jn] = some j)
    (waits : j.state = .writing ∨ j.state = .queued ∨ j.state = .halted) :
    cancelJob r jn j s =
      (let u := (s.leaveQueue j.printer jn).endJob jn .cancelled (j.owner != .port r.port)
       if j.state = .queued then u.offer j.printer else u, true) := by
  unfold cancelJob
  rw [unended]
  rcases waits with writing | queued | halted
  · have absent : jn ∉ s.queues[j.printer] := fun held => by
      obtain ⟨-, queued, -⟩ := law
      obtain ⟨j', job', -, queues⟩ := queued _ _ held
      cases job.symm.trans job'
      rw [writing] at queues
      cases queues
    have stays : s.leaveQueue j.printer jn = s := by
      have kept : (s.queues[j.printer]).filter (fun k => k != jn) = s.queues[j.printer] :=
        List.filter_eq_self.mpr fun k member => bne_iff_ne.mpr fun same => absent (same ▸ member)
      rw [State.leaveQueue, kept, State.setQueue, set_self]
    rw [stays]
    simp [writing]
  · simp [queued]
  · simp [halted]

end

/-! ### The stall timer (R141) -/

theorem stallEnd_of_running (job : s.jobs[jn] = some j) (stalled : j.state = .stalled) (runs : j.stall ≠ none)
    (awaits : (s.printers[j.printer]).awaitsByte) :
    stallEnd jn s = (s.setJob jn (some (j.ending .underrun))).setEngine j.printer
      (sendsByte s s.printers[j.printer] { part := .cut, next := 0 } (controlCode Config.codeCut)) := by
  have cuts := cut_beginFrame (s := s.setJob jn (some (j.ending .underrun))) (p := j.printer) (jn := jn)
    (j := j.ending .underrun) awaits (State.setJob_get_self _ _ _) (.inl (Option.some_ne_none _))
  unfold stallEnd
  rw [job]
  dsimp only
  rw [if_pos ⟨stalled, Option.isSome_iff_ne_none.mpr runs⟩]
  exact cuts

theorem stallEnd_of_stopped (stopped : ∀ j, s.jobs[jn] = some j → j.stall = none) : stallEnd jn s = s := by
  unfold stallEnd
  split
  · rfl
  · rename_i j job
    refine if_neg fun runs => ?_
    rw [stopped j job] at runs
    exact Bool.false_ne_true runs.2

/-! ### A cancel that ends the job now -/

/-- The state in which a cancelled job has ended, with the port records that the statements start from. -/
def cancelledState (s : State) (jn : JobNo) (j : Job) (latch : Bool) : State :=
  { (s.leaveQueue j.printer jn).endJob jn .cancelled latch with ports := s.ports }

theorem cancelledState_frame (job : s.jobs[jn] = some j) (latch : Bool) :
    cancelledState s jn j latch = { s with
      jobs := (cancelledState s jn j latch).jobs, freePages := (cancelledState s jn j latch).freePages
      queues := s.queues.set j.printer (s.queues[j.printer].filter fun k => k != jn) } := by
  have frame := endJob_frame (s := s.leaveQueue j.printer jn) job .cancelled latch
  unfold cancelledState
  rw [frame]
  rfl

theorem cancelledState_ended (law : PageLaw s) (job : s.jobs[jn] = some j) (latch : Bool) :
    JobEnded s (cancelledState s jn j latch) jn j .cancelled :=
  endJob_ended (s := s.leaveQueue j.printer jn) job law.1 .cancelled latch

end

theorem jobCancel_turns {s : State} {p : Port} {tag : Byte} {data : List Byte} {jn : JobNo} {j : Job} (law : SpoolLaw s)
    (granted : GrantedTo s p tag 0x44 data) (job : s.jobs[jn] = some j) (unended : j.endPending = none)
    (printing : j.state = .printing) (own : ¬ (j.owner ≠ .port p ∧ (s.ports[p]).role ≠ .office))
    (found : jobCancel ⟨p, tag, 0x44, data⟩ s = jobCancelOn ⟨p, tag, 0x44, data⟩ s jn j) :
    ∃ t, exec .jobCancel s = .next t ∧
      Apart t ((s.setJob jn (some j.cancelling)).setEngine j.printer
        (if (s.printers[j.printer]).frame = none then turnedToCut j.cancelling s.printers[j.printer]
          else s.printers[j.printer])) ∧
      Answered s t p ⟨tag, 0x44, .ok, [1]⟩ := by
  have undone : j.state ≠ .done := by rw [printing]; nofun
  have held := law.printing_job job (.inl printing)
  exact answers jobCancel_served granted
    (found.trans (jobCancelOn_accepted own undone (cancelJob_of_printing unended printing held))) rfl rfl

theorem jobCancel_ends {s : State} {p : Port} {tag : Byte} {data : List Byte} {jn : JobNo} {j : Job} (law : SpoolLaw s)
    (granted : GrantedTo s p tag 0x44 data) (job : s.jobs[jn] = some j) (unended : j.endPending = none)
    (own : ¬ (j.owner ≠ .port p ∧ (s.ports[p]).role ≠ .office))
    (found : jobCancel ⟨p, tag, 0x44, data⟩ s = jobCancelOn ⟨p, tag, 0x44, data⟩ s jn j)
    (waits : j.state = .writing ∨ j.state = .queued ∨ j.state = .halted) :
    ∃ t u : State, exec .jobCancel s = .next t ∧
      AnsweredAfter s t p ⟨tag, 0x44, .ok, [0]⟩ (fun q x => if j.owner = .port p then x else ownerLatched j q x) ∧
      JobEnded s u jn j .cancelled ∧
      u = { s with
        jobs := u.jobs, freePages := u.freePages
        queues := s.queues.set j.printer (s.queues[j.printer].filter fun k => k != jn) } ∧
      Apart t (withSpool s (if j.state = .queued then u.offer j.printer else u)) := by
  obtain ⟨pages, -, queues, -⟩ := law
  obtain ⟨latch, itsLatch⟩ : ∃ latch, latch = (j.owner != .port p) := ⟨_, rfl⟩
  obtain ⟨c, ended⟩ : ∃ c, c = (s.leaveQueue j.printer jn).endJob jn .cancelled latch := ⟨_, rfl⟩
  have undone : j.state ≠ .done := by rcases waits with h | h | h <;> rw [h] <;> nofun
  have accepted := found.trans (jobCancelOn_accepted own undone (cancelJob_of_waiting unended queues job waits))
  have frame := endJob_frame (s := s.leaveQueue j.printer jn) job .cancelled latch
  have ports : ∀ q : Port, c.ports[q] = if j.owner = .port p then s.ports[q] else ownerLatched j q s.ports[q] := fun q => by
    rw [ended, frame, itsLatch]
    by_cases itsOwn : j.owner = .port p
    · rw [if_pos itsOwn, itsOwn]
      simp
      rfl
    · rw [if_neg itsOwn, if_pos (by simpa using itsOwn)]
      exact getElem_mapEntries _ _ _
  have settled : ∃ d : State, d = (if j.state = .queued then c.offer j.printer else c) ∧ d.ports = c.ports ∧
      d.pointer = c.pointer ∧
      Apart d (withSpool s (if j.state = .queued then (cancelledState s jn j latch).offer j.printer
        else cancelledState s jn j latch)) := by
    refine ⟨_, rfl, ?_⟩
    have same : withSpool c (cancelledState s jn j latch) = c := by rw [ended]; rfl
    have offered : c.offer j.printer = withSpool c ((cancelledState s jn j latch).offer j.printer) := by
      have acts := offer_actsOnSpool j.printer c (cancelledState s jn j latch) (by rw [ended]; rfl)
      rwa [same] at acts
    split_ifs
    · rw [offered]
      refine ⟨rfl, rfl, ?_⟩
      rw [ended, frame]
      rfl
    · refine ⟨rfl, rfl, ?_⟩
      have inSpool : withSpool s (cancelledState s jn j latch) = cancelledState s jn j latch := by
        rw [cancelledState_frame job latch]
        rfl
      rw [inSpool, ended]
      rfl
  obtain ⟨d, itsState, dPorts, pointer, apart⟩ := settled
  have rule : jobCancel ⟨p, tag, 0x44, data⟩ s = answer ⟨p, tag, 0x44, data⟩ .ok [0] d := by
    rw [accepted, itsState, ended, itsLatch]
    rfl
  obtain ⟨t, next, itsApart, answered⟩ := answers_after jobCancel_served granted rule
    (f := fun q x => if j.owner = .port p then x else ownerLatched j q x) (fun q => by rw [dPorts]; exact ports q)
    (by rw [pointer, ended, frame]; rfl)
  exact ⟨t, cancelledState s jn j latch, next, answered, cancelledState_ended pages job latch,
    cancelledState_frame job latch, itsApart.trans apart⟩

/-- Settles O46: JOB_CANCEL judges number, job, owner and state in this order and ends the job by its state; a stall timer
turns its job to its end. -/
theorem jobsEndByCancelOrStall : Obligations.JobsEndByCancelOrStall := by
  refine ⟨fun s p tag number hn granted => ?_, fun s jn taking law => ?_⟩
  · have formed : jobCancel ⟨p, tag, 0x44, enc1 number⟩ s = _ := jobCancel_of_form hn rfl
    refine ⟨fun outside => refuses jobCancel_served granted (formed.trans (onJob_of_outOfRange _ _ outside)), ?_⟩
    rintro jn rfl law
    refine ⟨fun free => refuses jobCancel_served granted (formed.trans (onJob_of_free _ _ free)), fun j job => ?_⟩
    have found := formed.trans (onJob_of_job ⟨p, tag, 0x44, enc1 jn.val⟩ _ job)
    by_cases foreign : j.owner ≠ .port p ∧ (s.ports[p]).role ≠ .office
    · rw [if_pos foreign]
      exact refuses jobCancel_served granted (found.trans (jobCancelOn_noJob foreign))
    by_cases done : j.state = .done
    · rw [if_neg foreign, if_pos done]
      exact refuses jobCancel_served granted (found.trans (jobCancelOn_jobState foreign done))
    have accepted := fun {t ended} =>
      jobCancelOn_accepted (r := ⟨p, tag, 0x44, enc1 jn.val⟩) (s := s) (jn := jn) (t := t) (ended := ended) foreign done
    rw [if_neg foreign, if_neg done]
    by_cases ending : j.endPending ≠ none
    · rw [if_pos ending]
      exact answers jobCancel_served granted (found.trans (accepted (cancelJob_of_ending ending))) rfl rfl
    rw [if_neg ending]
    rw [not_not] at ending
    by_cases printing : j.state = .printing
    · obtain ⟨t, next, apart, answered⟩ := jobCancel_turns law granted job ending printing foreign found
      rw [if_pos printing]
      exact ⟨t, next, answered, apart⟩
    rw [if_neg printing]
    by_cases stalled : j.state = .stalled
    · have cuts := cancelJob_of_stalled (r := ⟨p, tag, 0x44, enc1 jn.val⟩) (jn := jn) ending stalled
        (law.stalled_awaitsByte job stalled ending)
      obtain ⟨t, next, apart, answered⟩ := answers jobCancel_served granted (found.trans (accepted cuts)) rfl rfl
      rw [if_pos stalled]
      exact ⟨t, next, answered, apart⟩
    rw [if_neg stalled]
    refine jobCancel_ends law granted job ending foreign found ?_
    cases state : j.state with
    | writing => exact .inl rfl
    | queued => exact .inr (.inl rfl)
    | halted => exact .inr (.inr rfl)
    | done => exact absurd state done
    | printing => exact absurd state printing
    | stalled => exact absurd state stalled
  · have ends : exec (.stallTimerExpiry jn) s = .next (stallEnd jn s) := congrArg _ (whileTaking_of_taking taking)
    refine ⟨fun stopped => ends.trans (congrArg _ (stallEnd_of_stopped stopped)), fun j job stalled runs => ?_⟩
    obtain ⟨-, jobs, -⟩ := id law
    obtain ⟨-, -, -, -, -, -, -, timer, -⟩ := jobs jn j job
    have unended := (timer.mp (Option.isSome_iff_ne_none.mpr runs)).2
    exact ends.trans (congrArg _ (stallEnd_of_running job stalled runs (law.stalled_awaitsByte job stalled unended)))

end Sys2Proof.Machine
end

section
/-! SUPPORT. PRINTER_RESUME, PRINTER_FLUSH and PRINTER_REDIRECT (R147 to R149). -/

namespace Sys2Proof.Machine

theorem printerResume_served : ServedBy .printerResume 0x48 printerResume := fun _ => rfl

theorem printerFlush_served : ServedBy .printerFlush 0x49 printerFlush := fun _ => rfl

theorem printerRedirect_served : ServedBy .printerRedirect 0x4A printerRedirect := fun _ => rfl

section
variable {s t : State} {p : Printer} {jn : JobNo} {j : Job} {r : Req}

/-! ### Requests that name a printer (8.8) -/

theorem onPrinter_of_printer {k : Printer} (f : Printer → State) (data : r.data = enc1 k.val) : onPrinter r s f = f k := by
  have below : k.val < 256 := by omega
  simp only [onPrinter, data, decodeOne_enc k.val below, k.isLt, dif_pos]

theorem onPrinter_of_outOfRange {n : Nat} (f : Printer → State) (hn : n < 256) (outside : 3 ≤ n) (data : r.data = enc1 n) :
    onPrinter r s f = answer r .badParam [] s := by
  simp only [onPrinter, data, decodeOne_enc n hn]
  exact dif_neg (not_lt.mpr outside)

theorem printerRedirect_of_badParam {n target : Nat} (hn : n < 256) (htarget : target < 256)
    (bad : 3 ≤ n ∨ 3 ≤ target ∨ n = target) (data : r.data = enc1 n ++ enc1 target) :
    printerRedirect r s = answer r .badParam [] s := by
  simp only [printerRedirect, data, decodeTwo_enc n target hn htarget]
  exact dif_neg (by omega)

theorem printerRedirect_of_form {source target : Printer} (other : target ≠ source)
    (data : r.data = enc1 source.val ++ enc1 target.val) :
    printerRedirect r s = answer r .ok (enc1 ((s.queues[source]).filter (moves s source)).length)
      (redirectQueue source target s) := by
  have form : source.val < 3 ∧ target.val < 3 ∧ source.val ≠ target.val :=
    ⟨source.isLt, target.isLt, fun same => other (Fin.ext same.symm)⟩
  simp only [printerRedirect, data, decodeTwo_enc source.val target.val (by omega) (by omega)]
  exact dif_pos form

/-! ### A resume (R147, R161) -/

/-- The state of a resumed engine before its head is judged. -/
def resumedState (s : State) (k : Printer) : State :=
  { s with
    jobs := (match s.headJob k with
      | some (jn, j) => if j.state = .halted then s.jobs.set jn (some j.requeued) else s.jobs
      | none => s.jobs)
    printers := s.printers.set k { restedEngine s k with fault := none } }

theorem resumeEngine_eq (k : Printer) (s : State) : resumeEngine k s = (resumedState s k).offer k := by
  have resumes : ∀ v : State, v.printers = s.printers → v.settings = s.settings →
      (v.setEngine k { v.printers[k] with fault := none }).restEngine k =
        ({ v with printers := s.printers.set k { restedEngine s k with fault := none } } : State).offer k :=
    fun v printers settings => by
      rw [restEngine_eq, restedEngine, State.setEngine_get_self, State.setEngine_setEngine]
      simp only [State.setEngine, printers, settings]
      rfl
  unfold resumeEngine resumedState
  dsimp only
  cases s.headJob k with
  | none => exact resumes s rfl rfl
  | some head =>
    dsimp only
    split_ifs
    · exact resumes (s.setJob head.1 (some head.2.requeued)) rfl rfl
    · exact resumes s rfl rfl

theorem resumeEngine_actsOnSpool (k : Printer) : ∀ s, resumeEngine k s = withSpool s ((resumedState s k).offer k) :=
  fun s => by
    rw [resumeEngine_eq, (offer_actsOnSpool k).frame (resumedState s k)]
    rfl

/-! ### A flush (R148) -/

/-- What a flush makes of a job's record. -/
def Job.flushed (j : Job) : Option Job := if j.owner = .composer then none else some (j.ended .flushed)

/-- What the end of every job of a list leaves (R148). -/
structure FlushedAll (l : List JobNo) (s t : State) : Prop where
  frame : t = { s with jobs := t.jobs, freePages := t.freePages, ports := t.ports }
  jobs (jn : JobNo) : t.jobs[jn] = if jn ∈ l then s.jobs[jn].bind Job.flushed else s.jobs[jn]
  free (q : Page) : q ∈ t.freePages ↔
    q ∈ s.freePages ∨ ∃ jn ∈ l, ∃ j, s.jobs[jn] = some j ∧ j.owner = .composer ∧ q ∈ j.pages
  ports (q : Port) : t.ports[q] =
    latchedIf (l.any fun jn => s.jobs[jn].any fun j => decide (j.owner = .port q)) .jobDone s.ports[q]

theorem latchedIf_latchedIf (a b : Bool) (e : Event) (x : StationPort) :
    latchedIf a e (latchedIf b e x) = latchedIf (b || a) e x := by
  cases a <;> cases b <;> simp [latchedIf, BitVec.or_assoc]

theorem FlushedAll.nil (s : State) : FlushedAll [] s s := by
  refine ⟨rfl, fun jn => (if_neg List.not_mem_nil).symm, fun q => ?_, fun q => rfl⟩
  simp

theorem endJob_flushes (jn : JobNo) (s : State) : FlushedAll [jn] s (s.endJob jn .flushed true) := by
  cases job : s.jobs[jn] with
  | none =>
    have still : s.endJob jn .flushed true = s := by rw [State.endJob, job]
    rw [still]
    refine ⟨rfl, fun k => ?_, fun q => ?_, fun q => ?_⟩
    · split_ifs with here
      · rw [List.mem_singleton.mp here, job]
        rfl
      · rfl
    · refine (or_iff_left ?_).symm
      rintro ⟨k, member, j, job', -⟩
      obtain rfl := List.mem_singleton.mp member
      cases job.symm.trans job'
    · rw [List.any_cons, job]
      rfl
  | some j =>
    have ports : ∀ q : Port, (donePorts s j)[q] =
        latchedIf ([jn].any fun jn => s.jobs[jn].any fun j => decide (j.owner = .port q)) .jobDone s.ports[q] := fun q => by
      rw [donePorts, getElem_mapEntries]
      simp only [List.any_cons, List.any_nil, Bool.or_false, job, Option.any_some]
      rfl
    cases owner : j.owner with
    | composer =>
      rw [endJob_of_composer job owner]
      refine ⟨rfl, fun k => ?_, fun q => ?_, fun q => ?_⟩
      · rw [getElem_set_fin]
        by_cases here : jn = k
        · subst here
          rw [if_pos rfl, if_pos (List.mem_singleton.mpr rfl), job, Option.bind_some, Job.flushed, if_pos owner]
        · rw [if_neg here, if_neg (mt List.mem_singleton.mp (Ne.symm here))]
      · refine mem_putBack.trans (or_congr_right ⟨fun held => ⟨jn, List.mem_singleton.mpr rfl, j, job, owner, held⟩, ?_⟩)
        rintro ⟨k, member, j', job', -, held⟩
        obtain rfl := List.mem_singleton.mp member
        cases job.symm.trans job'
        exact held
      · rw [← ports q, donePorts_of_composer owner]
    | port p =>
      have port : j.owner ≠ .composer := by rw [owner]; nofun
      rw [endJob_of_port job owner]
      refine ⟨rfl, fun k => ?_, fun q => ?_, fun q => ports q⟩
      · rw [getElem_set_fin]
        by_cases here : jn = k
        · subst here
          rw [if_pos rfl, if_pos (List.mem_singleton.mpr rfl), job, Option.bind_some, Job.flushed, if_neg port]
        · rw [if_neg here, if_neg (mt List.mem_singleton.mp (Ne.symm here))]
      · refine (or_iff_left ?_).symm
        rintro ⟨k, member, j', job', composer, -⟩
        obtain rfl := List.mem_singleton.mp member
        cases job.symm.trans job'
        exact port composer

theorem any_congr {α : Type} {l : List α} {f g : α → Bool} (same : ∀ a ∈ l, f a = g a) : l.any f = l.any g := by
  induction l with
  | nil => rfl
  | cons a l ih =>
    rw [List.any_cons, List.any_cons, same a List.mem_cons_self, ih fun b member => same b (List.mem_cons_of_mem a member)]

theorem FlushedAll.append {l : List JobNo} {u : State} (absent : jn ∉ l) (first : FlushedAll [jn] s t)
    (rest : FlushedAll l t u) : FlushedAll (jn :: l) s u := by
  have other : ∀ k ∈ l, t.jobs[k] = s.jobs[k] := fun k member => by
    rw [first.jobs, if_neg]
    intro here
    rw [List.mem_singleton.mp here] at member
    exact absent member
  refine ⟨?_, fun k => ?_, fun q => ?_, fun q => ?_⟩
  · rw [rest.frame, first.frame]
  · rw [rest.jobs]
    by_cases here : k ∈ l
    · rw [if_pos here, if_pos (List.mem_cons_of_mem _ here), other k here]
    · rw [if_neg here, first.jobs]
      simp only [List.mem_cons, List.not_mem_nil, or_false, here]
  · rw [rest.free, first.free, or_assoc]
    refine or_congr_right ?_
    simp only [List.mem_cons, List.not_mem_nil, or_false, exists_eq_left, exists_eq_or_imp]
    refine or_congr_right ⟨fun ⟨k, member, rest⟩ => ⟨k, member, ?_⟩, fun ⟨k, member, rest⟩ => ⟨k, member, ?_⟩⟩
    · rwa [other k member] at rest
    · rwa [other k member]
  · have rest_any : (l.any fun k => t.jobs[k].any fun j => decide (j.owner = .port q)) =
        l.any fun k => s.jobs[k].any fun j => decide (j.owner = .port q) :=
      any_congr fun k member => by rw [other k member]
    rw [rest.ports, first.ports, rest_any, latchedIf_latchedIf, List.any_cons, List.any_cons, List.any_nil, Bool.or_false]

theorem foldl_flushes {l : List JobNo} (nodup : l.Nodup) (s : State) :
    FlushedAll l s (l.foldl (fun s jn => s.endJob jn .flushed true) s) := by
  induction l generalizing s with
  | nil => exact .nil s
  | cons jn l ih =>
    obtain ⟨absent, rest⟩ := List.nodup_cons.mp nodup
    exact (endJob_flushes jn s).append absent (ih rest _)

/-- The engine that drops its job (R148, R159). -/
def droppedEngine (s : State) (k : Printer) : Engine :=
  if (s.printers[k]).state = .sending ∨ (s.printers[k]).state = .inhibited then
    if (s.printers[k]).frame ≠ none then { s.printers[k] with job := none, position := none, dropping := true }
    else restedEngine s k
  else s.printers[k]

theorem dropJob_of_empty {k : Printer} (empty : s.queues[k] = []) : s.dropJob k = s.setEngine k (droppedEngine s k) := by
  have none_waits : ∀ x : Engine, (s.setEngine k x).offer k = s.setEngine k x := fun x => by
    refine offer_of_none ?_
    unfold State.headJob
    rw [show (s.setEngine k x).queues[k] = [] from empty]
  unfold State.dropJob droppedEngine
  dsimp only
  split_ifs with works framed unframed unframed
  · rfl
  · exact absurd (Option.isSome_iff_ne_none.mp framed) unframed
  · exact absurd (Option.isSome_iff_ne_none.mpr unframed) framed
  · rw [restEngine_eq]
    exact none_waits _
  · exact (State.setEngine_self s k).symm

/-- What a flush of a printer's queue leaves, but for the answer (R148). -/
theorem flushQueue_flushes {k : Printer} (nodup : (s.queues[k]).Nodup) :
    ∃ t, FlushedAll s.queues[k] (s.setQueue k []) t ∧ flushQueue k s = t.setEngine k (droppedEngine s k) := by
  have flushed := foldl_flushes nodup (s.setQueue k [])
  refine ⟨_, flushed, ?_⟩
  unfold flushQueue
  dsimp only
  generalize (s.queues[k]).foldl (fun s jn => s.endJob jn .flushed true) (s.setQueue k []) = t at flushed ⊢
  rw [dropJob_of_empty (by rw [flushed.frame]; exact (State.setQueue_get s k k []).trans (if_pos rfl))]
  have engine : t.printers[k] = s.printers[k] := by rw [flushed.frame]; rfl
  have rested : restedEngine t k = restedEngine s k :=
    restedEngine_congr (by rw [flushed.frame]; rfl) (by rw [engine]) (by rw [engine]) (by rw [engine])
  unfold droppedEngine
  rw [engine, rested]

/-! ### A redirect (R149) -/

/-- What every move of a list of jobs leaves. -/
structure MovedAll (l : List JobNo) (target : Printer) (s t : State) : Prop where
  frame : t = { s with jobs := t.jobs }
  jobs (jn : JobNo) : t.jobs[jn] =
    if jn ∈ l then s.jobs[jn].map fun j => { j.requeued with printer := target } else s.jobs[jn]

theorem moveJob_moves (target : Printer) (jn : JobNo) (s : State) : MovedAll [jn] target s (moveJob target s jn) := by
  unfold moveJob
  split
  · rename_i free
    refine ⟨rfl, fun k => ?_⟩
    split_ifs with here
    · rw [List.mem_singleton.mp here, free]
      rfl
    · rfl
  · rename_i j job
    refine ⟨rfl, fun k => ?_⟩
    rw [State.setJob_get]
    by_cases here : jn = k
    · subst here
      rw [if_pos rfl, if_pos (List.mem_singleton.mpr rfl), job]
      rfl
    · rw [if_neg here, if_neg (mt List.mem_singleton.mp (Ne.symm here))]

theorem foldl_moves {l : List JobNo} (nodup : l.Nodup) (target : Printer) (s : State) :
    MovedAll l target s (l.foldl (moveJob target) s) := by
  induction l generalizing s with
  | nil => exact ⟨rfl, fun jn => (if_neg List.not_mem_nil).symm⟩
  | cons jn l ih =>
    obtain ⟨absent, rest⟩ := List.nodup_cons.mp nodup
    have first := moveJob_moves target jn s
    have later := ih rest (moveJob target s jn)
    refine ⟨?_, fun k => ?_⟩
    · rw [List.foldl_cons, later.frame, first.frame]
    · rw [List.foldl_cons, later.jobs]
      by_cases here : k ∈ l
      · have other : k ∉ [jn] := fun same => absent (List.mem_singleton.mp same ▸ here)
        rw [if_pos here, if_pos (List.mem_cons_of_mem _ here), first.jobs, if_neg other]
      · rw [if_neg here, first.jobs]
        simp only [List.mem_cons, List.not_mem_nil, or_false, here]

/-- Which jobs of a queue move, as the statements say it. -/
theorem moves_eq (s : State) (k : Printer) (jn : JobNo) :
    moves s k jn = s.jobs[jn].any fun j =>
      j.state == .queued || (j.state == .halted && (s.printers[k]).state == .halted) := by
  unfold moves
  cases s.jobs[jn] <;> rfl

/-- The state of a redirect before the target's head is judged. -/
def redirectedState (s : State) (source target : Printer) : State :=
  { ((s.queues[source]).filter (moves s source)).foldl (moveJob target) s with
    queues := (s.queues.set source ((s.queues[source]).filter fun jn => !moves s source jn)).set target
      (s.queues[target] ++ (s.queues[source]).filter (moves s source)) }

theorem redirectQueue_eq {source target : Printer} (nodup : (s.queues[source]).Nodup) :
    redirectQueue source target s = (redirectedState s source target).offer target := by
  have moved := foldl_moves (nodup.filter (moves s source)) target s
  unfold redirectQueue redirectedState
  dsimp only
  generalize ((s.queues[source]).filter (moves s source)).foldl (moveJob target) s = t at moved ⊢
  rw [moved.frame]
  rfl

end

/-- Settles O47: PRINTER_RESUME, PRINTER_FLUSH and PRINTER_REDIRECT judge the printers they name and serve the queues. -/
theorem printerQueuesAreServed : Obligations.PrinterQueuesAreServed := by
  refine ⟨rfl, rfl, rfl, fun s p tag n target hn htarget => ⟨fun outside granted => ?_, fun outside granted => ?_,
    fun bad granted => ?_⟩, fun s p tag k law => ⟨fun granted => ⟨fun running => ?_, fun halted => ?_⟩, fun granted => ?_,
    fun target other granted => ?_⟩⟩
  · exact refuses printerResume_served granted (onPrinter_of_outOfRange _ hn outside rfl)
  · exact refuses printerFlush_served granted (onPrinter_of_outOfRange _ hn outside rfl)
  · exact refuses printerRedirect_served granted (printerRedirect_of_badParam hn htarget bad rfl)
  · exact refuses printerResume_served granted ((onPrinter_of_printer _ rfl).trans (if_neg running))
  · have accepted : printerResume ⟨p, tag, 0x48, enc1 k.val⟩ s =
        answer ⟨p, tag, 0x48, enc1 k.val⟩ .ok [] (resumeEngine k s) :=
      (onPrinter_of_printer _ rfl).trans (if_pos halted)
    rw [resumeEngine_actsOnSpool] at accepted
    exact answers printerResume_served granted accepted rfl rfl
  · obtain ⟨-, -, ⟨nodup, -⟩, -⟩ := law
    obtain ⟨v, flushed, effect⟩ := flushQueue_flushes (nodup k)
    have accepted : printerFlush ⟨p, tag, 0x49, enc1 k.val⟩ s =
        answer ⟨p, tag, 0x49, enc1 k.val⟩ .ok (enc1 (s.queues[k]).length) (flushQueue k s) := onPrinter_of_printer _ rfl
    have ports : ∀ q : Port, (flushQueue k s).ports[q] = latchedIf
        ((s.queues[k]).any fun jn => s.jobs[jn].any fun j => decide (j.owner = .port q)) .jobDone s.ports[q] := fun q => by
      rw [effect]
      exact flushed.ports q
    obtain ⟨t, next, apart, answered⟩ := answers_after printerFlush_served granted accepted ports
      (by rw [effect, flushed.frame]; rfl)
    rw [effect] at apart
    have jobs : t.jobs = v.jobs := by rw [apart]; rfl
    have free : t.freePages = v.freePages := by rw [apart]; rfl
    refine ⟨t, next, ?_, fun jn => ?_, fun q => ?_, answered⟩
    · refine apart.trans ?_
      rw [jobs, free, flushed.frame]
      rfl
    · rw [jobs]
      exact flushed.jobs jn
    · rw [free]
      exact flushed.free q
  · obtain ⟨-, -, ⟨nodup, -⟩, -⟩ := law
    intro moving
    have same : moves s k = moving := funext (moves_eq s k)
    have moved := foldl_moves ((nodup k).filter (moves s k)) target s
    have accepted := printerRedirect_of_form (r := ⟨p, tag, 0x4A, enc1 k.val ++ enc1 target.val⟩) (s := s) other rfl
    have effect : redirectQueue k target s = withSpool s ((redirectedState s k target).offer target) := by
      rw [redirectQueue_eq (nodup k), (offer_actsOnSpool target).frame (redirectedState s k target)]
      unfold redirectedState
      rw [moved.frame]
      rfl
    rw [effect] at accepted
    obtain ⟨t, next, apart, answered⟩ := answers printerRedirect_served granted accepted rfl rfl
    refine ⟨t, redirectedState s k target, next, apart, ?_, fun jn => ?_, ?_⟩
    · unfold redirectedState
      rw [moved.frame, same]
    · refine (moved.jobs jn).trans (if_congr ?_ rfl rfl)
      rw [List.mem_filter, same]
    · rwa [same] at answered

end Sys2Proof.Machine
end

section
/-! SUPPORT. The laws of the state after reset; and a state that keeps the law of the spool and loses it at a cancel. -/

namespace Sys2Proof.Machine

/-! ### After reset -/

theorem pageLaw_of_empty {s : State} (free : s.freePages = List.finRange 96) (jobs : ∀ jn : JobNo, s.jobs[jn] = none) :
    PageLaw s := by
  have unused : ∀ jn, s.pagesOf jn = [] := fun jn => by rw [State.pagesOf, jobs jn]; rfl
  refine (pageLaw_iff _).mpr ⟨?_, fun p => ?_⟩ <;> rw [free]
  · exact List.pairwise_lt_finRange 96
  · have counted : s.jobCount p = 0 := by simp [State.jobCount, unused]
    rw [counted]
    exact List.count_eq_one_of_mem (List.nodup_finRange 96) (List.mem_finRange p)

theorem reset_slot (i : Slot) : State.reset.slots[i] = none := Vector.getElem_replicate i.isLt

theorem reset_job (jn : JobNo) : State.reset.jobs[jn] = none := Vector.getElem_replicate jn.isLt

theorem reset_queue (p : Printer) : State.reset.queues[p] = [] := Vector.getElem_replicate p.isLt

theorem reset_engine (p : Printer) : State.reset.printers[p] = .start true false := Vector.getElem_replicate p.isLt

theorem reset_port (p : Port) :
    State.reset.ports[p] = .start factorySettings.roles[p] { kind := .cold, defaulted := true } := Vector.getElem_ofFn p.isLt

theorem reset_enables (p : Printer) : State.reset.settings.enables[p] = true := by revert p; decide

theorem reset_channels : ChannelLaw State.reset ∧ ∀ c : Chan, (State.reset.channels[c]).capture = none := by
  constructor
  · unfold ChannelLaw Channel.lawful
    decide
  · decide

/-- An engine at its start before an empty queue keeps the engines' law at its printer. -/
def EngineLawAt (s : State) (p : Printer) : Prop :=
  (s.printers[p]).lawful ∧
    (∀ jn, (s.printers[p]).job = some jn →
      ∃ j, s.headJob p = some (jn, j) ∧ (j.state = .printing ∨ j.state = .stalled)) ∧
    (∀ jn j, s.headJob p = some (jn, j) →
      (j.state = .printing ∨ j.state = .stalled → (s.printers[p]).job = some jn) ∧
        (j.state = .halted → (s.printers[p]).state = .halted) ∧
        (j.state = .stalled → j.endPending = none → (s.printers[p]).pendingByte = none) ∧
        ((s.printers[p]).state = .idle → j.startable = false)) ∧
    (∀ jn j n k, (s.printers[p]).job = some jn → s.jobs[jn] = some j →
      (s.printers[p]).position = some { part := .stored n, next := k } → n = j.sent ∧ j.sent < j.written) ∧
    ((s.printers[p]).state = .idle → s.settings.enables[p] = true) ∧
    ((s.printers[p]).state = .off → s.settings.enables[p] = false) ∧
    (s.taking = true → (s.printers[p]).state = .inhibited → (s.printers[p]).clockLow = true)

theorem engineLaw_iff {s : State} : EngineLaw s ↔ ∀ p, EngineLawAt s p := Iff.rfl

theorem start_engine_lawful (low : Bool) : (Engine.start true low).lawful := by
  unfold Engine.lawful
  simp [Engine.start]

theorem engineLawAt_of_start {s : State} {p : Printer} (engine : s.printers[p] = .start true false)
    (empty : s.queues[p] = []) (enabled : s.settings.enables[p] = true) : EngineLawAt s p := by
  have head : s.headJob p = none := by rw [State.headJob, empty]
  unfold EngineLawAt
  rw [engine, head, enabled]
  refine ⟨start_engine_lawful false, fun jn held => ?_, fun jn j same => ?_, fun jn j n k held => ?_, fun _ => rfl,
    fun off => ?_, fun _ inhibited => ?_⟩
  · cases held
  · cases same
  · cases held
  · cases off
  · cases inhibited

theorem reset_spoolLaw : SpoolLaw State.reset := by
  refine ⟨pageLaw_of_empty rfl reset_job, fun jn j job => ?_, ⟨fun p => ?_, fun p jn member => ?_, fun jn j job => ?_,
    fun p jn j member => ?_⟩, fun p => engineLawAt_of_start (reset_engine p) (reset_queue p) (reset_enables p)⟩
  · rw [reset_job] at job
    cases job
  · rw [reset_queue]
    exact List.nodup_nil
  · rw [reset_queue] at member
    cases member
  · rw [reset_job] at job
    cases job
  · rw [reset_queue] at member
    cases member

theorem reset_matchLaw : MatchLaw State.reset := by
  refine .of_unmatched (fun p => ?_) reset_channels.2 rfl fun i x slot => ?_
  · rw [reset_port]
    exact ⟨StationPort.start_lawful _ _, rfl⟩
  · rw [reset_slot] at slot
    cases slot

theorem reset_heldNumbers : State.reset.heldNumbers = [] := by
  unfold State.heldNumbers State.tableNumbers
  simp [State.reset]

/-- Settles O2: after reset every table is empty, every port and engine at its start, and the settings the factory's. -/
theorem lawsHoldAfterReset : Obligations.LawsHoldAfterReset := by
  have staged : ∀ g : GradeIx, GradeEntry.lawful State.reset.staged[g] := by
    obtain ⟨-, -, -, -, -, -, -, -, -, -, -, -, -, -, -, active, -⟩ := factorySettings_lawful
    exact active
  refine ⟨⟨⟨rfl, rfl⟩, Nat.zero_le _, (totalsLaw_iff _).mpr ⟨Totals.zero_lawful, Nat.le_refl 1, Nat.le_add_left 1 65534⟩,
    ⟨factorySettings_lawful, fun good => absurd good Bool.false_ne_true, staged, fun p => ?_⟩, nofun,
    ⟨trivial, trivial, fun _ => rfl, fun n held => ?_, ?_⟩, reset_channels.1, tallyLaw_empty rfl⟩,
    requestLaw_iff.mpr ⟨reset_matchLaw, .of_free rfl⟩, fun _ _ p => ?_, reset_spoolLaw⟩
  · rw [reset_engine]
    exact Nat.zero_le 15
  · rw [reset_heldNumbers] at held
    cases held
  · rw [reset_heldNumbers]
    exact List.nodup_nil
  · rw [reset_port]
    rfl

/-! ### A cancel that leaves a byte unsent

`SpoolLaw` admits an engine that holds its PRINTING job, stands before the first byte of the copy marker, and has no
byte pending: no clause gives such an engine a byte. JOB_CANCEL turns it to CUT, whose byte then stands pending with
neither a frame nor a backoff, against the engine's own law. -/

/-- A job of one page in PRINTING, owned by port 0. -/
def silentJob : Job :=
  { openedJob 0 0 with written := 1, closed := true, state := .printing }

/-- The engine that holds it before the copy marker, with no byte pending. -/
def silentEngine : Engine :=
  { Engine.start true false with state := .sending, job := some 0, position := some { part := .copyMarker, next := 0 } }

/-- The state after reset with that job in PRINTING at printer 0, its owner's JOB_CANCEL granted and its command next. -/
def silentState : State :=
  { State.reset.allocate 0 1 silentJob with
    pending := [.jobCancel]
    ports := State.reset.ports.set 0 { State.reset.ports[(0 : Port)] with request := some ⟨7, 0x44, enc1 0, .waiting⟩ }
    requestEngine := some 0, pointer := 0
    queues := State.reset.queues.set 0 [0]
    printers := State.reset.printers.set 0 silentEngine }

theorem silentState_job (jn : JobNo) :
    silentState.jobs[jn] = if 0 = jn then some { silentJob with pages := [0] } else none := by
  change (State.reset.jobs.set 0 (some { silentJob with pages := (List.finRange 96).take 1 }))[jn] = _
  rw [← reset_job jn]
  exact getElem_set_fin State.reset.jobs 0 jn _

theorem silentState_queue (p : Printer) : silentState.queues[p] = if 0 = p then [0] else [] := by
  have entry := getElem_set_fin State.reset.queues 0 p [0]
  rwa [reset_queue] at entry

theorem silentState_engine (p : Printer) : silentState.printers[p] = if 0 = p then silentEngine else .start true false := by
  rw [← reset_engine p]
  exact getElem_set_fin State.reset.printers 0 p _

theorem silentJob_lawful : ({ silentJob with pages := [0] } : Job).lawful := by
  unfold Job.lawful
  simp [silentJob, openedJob, Job.capacity, Config.slotsPerPage]

theorem silentEngine_lawful : silentEngine.lawful := by
  unfold Engine.lawful
  simp [silentEngine, Engine.start]

theorem silentState_spoolLaw : SpoolLaw silentState := by
  have pages : PageLaw silentState :=
    pageLaw_congr (s := State.reset.allocate 0 1 silentJob) rfl rfl
      (allocate_pageLaw 1 silentJob (reset_job 0) (pageLaw_of_empty rfl reset_job))
  have head : silentState.headJob 0 = some (0, { silentJob with pages := [0] }) :=
    headJob_eq_some.mpr ⟨⟨[], (silentState_queue 0).trans (if_pos rfl)⟩, (silentState_job 0).trans (if_pos rfl)⟩
  have only : ∀ (jn : JobNo) (j : Job), silentState.jobs[jn] = some j → jn = 0 ∧ j = { silentJob with pages := [0] } :=
    fun jn j job => by
      rw [silentState_job] at job
      split at job
      · cases job
        exact ⟨(by assumption : 0 = jn).symm, rfl⟩
      · cases job
  refine ⟨pages, fun jn j job => ?_, ⟨fun p => ?_, fun p jn member => ?_, fun jn j job _ => ?_, fun p jn j member => ?_⟩,
    fun p => ?_⟩
  · rw [(only jn j job).2]
    exact silentJob_lawful
  · rw [silentState_queue]
    split <;> simp
  · rw [silentState_queue] at member
    split at member
    · rename_i here
      rw [List.mem_singleton.mp member]
      exact ⟨_, (silentState_job 0).trans (if_pos rfl), here, rfl⟩
    · cases member
  · obtain ⟨rfl, rfl⟩ := only jn j job
    rw [silentState_queue]
    exact List.mem_singleton.mpr rfl
  · rw [silentState_queue] at member
    split at member <;> cases member
  · by_cases here : 0 = p
    · subst here
      change EngineLawAt silentState 0
      unfold EngineLawAt
      rw [silentState_engine, if_pos rfl, head]
      refine ⟨silentEngine_lawful, fun jn held => ?_, fun jn j same => ?_, fun jn j n k _ _ position => ?_, nofun, nofun, nofun⟩
      · cases held
        exact ⟨_, rfl, .inl rfl⟩
      · cases same
        exact ⟨fun _ => rfl, nofun, nofun, nofun⟩
      · cases position
    · exact engineLawAt_of_start ((silentState_engine p).trans (if_neg here)) ((silentState_queue p).trans (if_neg here))
        (reset_enables p)

/-- The cancel leaves engine 0 with CUT pending, in SENDING, with neither a frame nor a backoff. -/
theorem silentState_cancelled :
    ∃ t, step silentState = .next t ∧ (t.printers[(0 : Printer)]).state = .sending ∧
      (t.printers[(0 : Printer)]).pendingByte.isSome = true ∧ (t.printers[(0 : Printer)]).frame = none ∧
      (t.printers[(0 : Printer)]).backoff = none := by
  have law : SpoolLaw { silentState with pending := [] } := silentState_spoolLaw
  have job : ({ silentState with pending := [] } : State).jobs[(0 : JobNo)] = some { silentJob with pages := [0] } :=
    silentState_job 0
  have formed : jobCancel ⟨0, 7, 0x44, enc1 0⟩ { silentState with pending := [] } = _ := jobCancel_of_form (by omega) rfl
  obtain ⟨t, next, apart, -⟩ := jobCancel_turns law ⟨rfl, rfl, rfl⟩ job rfl rfl (fun foreign => foreign.1 rfl)
    (formed.trans (onJob_of_job (jn := 0) _ _ job))
  refine ⟨t, (step_cons silentState .jobCancel [] rfl).trans next, ?_⟩
  have engine : t.printers[(0 : Printer)] = turnedToCut { silentJob with pages := [0], endPending := some .cancelled } silentEngine := by
    rw [apart]
    rfl
  rw [engine]
  exact ⟨rfl, rfl, rfl, rfl⟩

/-- Refutes O10: the law admits an engine that stands before a part with no byte pending, and a cancel gives it the byte
of CUT without a frame (`silentState`). -/
theorem not_spoolStaysMatched : ¬ Obligations.SpoolStaysMatched := by
  intro kept
  obtain ⟨t, next, sending, pending, unframed, unbacked⟩ := silentState_cancelled
  obtain ⟨-, -, -, engines⟩ := kept silentState t silentState_spoolLaw next
  obtain ⟨⟨-, -, -, -, -, -, -, sends, -⟩, -⟩ := engines 0
  rcases sends sending pending with framed | backed
  · rw [unframed] at framed
    cases framed
  · rw [unbacked] at backed
    cases backed

end Sys2Proof.Machine
end

section
/-! SUPPORT. The Tariff Table and the walk-in (chapters 3 and 4): the requests that replace one entry of the banks, of
the tares or of a port's printers, and the opening and closing of a walk-in's weighing. -/

namespace Sys2Proof.Machine

theorem setGrade_served : ServedBy .setGrade 0x28 setGrade := fun _ => rfl

theorem switchPrices_served : ServedBy .switchPrices 0x29 switchPrices := fun _ => rfl

theorem setContainer_served : ServedBy .setContainer 0x2B setContainer := fun _ => rfl

theorem setAlias_served : ServedBy .setAlias 0x04 setAlias := fun _ => rfl

theorem openWalkin_served : ServedBy .openWalkin 0x12 openWalkin := fun _ => rfl

theorem closeWeighing_served : ServedBy .closeWeighing 0x14 closeWeighing := fun _ => rfl

/-! ### SET_GRADE (R66) -/

section
variable {r : Req} {s : State} {g : Nat} {name : Text} {price : Option Nat} {rate : Nat} {restricted disabled : Bool}

/-- What SET_GRADE judges of the values it is given. -/
def GradeInRange (g : Nat) (name : Text) (price : Option Nat) (rate : Nat) : Prop :=
  (1 ≤ g ∧ g ≤ 64) ∧ holdsUnprintable name = false ∧ price.getD 0 ≤ 999999 ∧ rate ≤ 500

theorem decodeSetGrade_of_long {rest : List Byte} (long : 12 < name.length) (h : name.length < 256) :
    decodeSetGrade (enc1 g ++ (encText name ++ rest)) = none := by
  have length : (BitVec.ofNat 8 name.length).toNat = name.length := by rw [toNat_ofNat8]; omega
  have refused : takeText 12 (encText name ++ rest) = none := by
    simp only [encText, enc1_eq, List.cons_append, List.nil_append, takeText, length]
    rw [if_neg (by omega)]
  simp [enc1_eq, decodeSetGrade, refused]

theorem setGrade_of_undecoded (data : decodeSetGrade r.data = none) : setGrade r s = answer r .badParam [] s := by
  simp only [setGrade, data]

section
variable (data : decodeSetGrade r.data = some (g, name, price, rate, restricted, disabled))
include data

theorem setGrade_of_outOfRange (range : ¬ GradeInRange g name price rate) :
    setGrade r s = answer r .badParam [] s := by
  simp only [setGrade, data]
  exact dif_neg range

theorem setGrade_of_saving (range : GradeInRange g name price rate) (saving : s.save ≠ none) :
    setGrade r s = answer r .settingsBusy [] s := by
  simp only [setGrade, data]
  exact (dif_pos range).trans (if_pos (Option.isSome_iff_ne_none.mpr saving))

theorem setGrade_of_free (range : GradeInRange g name price rate) (free : s.save = none) :
    setGrade r s = answer r .ok []
      (s.stage ⟨g - 1, Nat.sub_one_lt_of_le range.1.1 range.1.2⟩ ⟨fillName name, price, rate, restricted, disabled⟩) := by
  simp only [setGrade, data]
  exact (dif_pos range).trans (if_neg (by simp [free]))

end
end

theorem setGrade_replaces {s : State} {p : Port} {tag : Byte} {g : Nat} {name : Text} {price : Option Nat} {rate : Nat}
    {restricted disabled : Bool} (hg : g < 256) (hname : name.length < 256) (hprice : price.getD 0 < 4294967296)
    (hrate : rate < 65536)
    (granted : GrantedTo s p tag 0x28
      (enc1 g ++ encText name ++ encOpt enc4 price ++ enc2 rate ++ encFlag restricted ++ encFlag disabled)) :
    if h : (1 ≤ g ∧ g ≤ 64) ∧ name.length ≤ 12 ∧ (∀ b ∈ name, printable b = true) ∧ price.getD 0 ≤ 999999 ∧ rate ≤ 500 then
      (s.save ≠ none → Refuses .setGrade s p ⟨tag, 0x28, .settingsBusy, []⟩) ∧
      (s.save = none → ∃ t, exec .setGrade s = .next t ∧
        Apart t { s with
          staged := s.staged.set (g - 1)
            ⟨name ++ List.replicate (12 - name.length) 0x20, price, rate, restricted, disabled⟩ (by omega) } ∧
        Answered s t p ⟨tag, 0x28, .ok, []⟩)
    else Refuses .setGrade s p ⟨tag, 0x28, .badParam, []⟩ := by
  by_cases short : name.length ≤ 12
  · have decoded := decodeSetGrade_enc g name price rate restricted disabled hg short
      (fun x hx => by simpa [hx] using hprice) hrate
    split
    · rename_i range
      obtain ⟨grade, -, print, prices, rates⟩ := id range
      have inRange : GradeInRange g name price rate := ⟨grade, holdsUnprintable_eq_false print, prices, rates⟩
      exact ⟨fun saving => refuses setGrade_served granted (setGrade_of_saving decoded inRange saving),
        fun free => answers setGrade_served granted (setGrade_of_free decoded inRange free) rfl rfl⟩
    · rename_i range
      refine refuses setGrade_served granted (setGrade_of_outOfRange decoded fun ⟨grade, print, prices, rates⟩ =>
        range ⟨grade, short, ?_, prices, rates⟩)
      simpa [holdsUnprintable] using print
  · rw [dif_neg fun ⟨_, h, _⟩ => short h]
    refine refuses setGrade_served granted (setGrade_of_undecoded ?_)
    simp only [List.append_assoc]
    exact decodeSetGrade_of_long (Nat.lt_of_not_le short) hname

/-! ### SWITCH_PRICES (R67) -/

theorem switchPrices_of_saving {r : Req} {s : State} (data : r.data = []) (saving : s.save ≠ none) :
    switchPrices r s = answer r .settingsBusy [] s := by
  simp only [switchPrices, data, decodeNothing]
  exact if_pos (Option.isSome_iff_ne_none.mpr saving)

theorem switchPrices_of_free {r : Req} {s : State} (data : r.data = []) (free : s.save = none) :
    switchPrices r s = answer r .ok (enc2 s.switchPrices.settings.epoch) s.switchPrices := by
  simp only [switchPrices, data, decodeNothing]
  exact if_neg (by simp [free])

theorem nextEpoch_eq {n : Nat} (most : n ≤ 65535) : (n + 1) % 65536 = if n = 65535 then 0 else n + 1 := by
  split <;> omega

theorem State.switchPrices_get (s : State) (q : Port) :
    s.switchPrices.ports[q] = latchedIf true .pricesSwitched s.ports[q] := by
  rw [State.switchPrices, State.latchWhere_get]
  rfl

theorem apart_switchPrices {s : State} (most : s.settings.epoch ≤ 65535) :
    Apart s.switchPrices { s with
      settings := { s.settings with
        active := s.staged, epoch := if s.settings.epoch = 65535 then 0 else s.settings.epoch + 1 } } := by
  rw [← nextEpoch_eq most]
  rfl

/-! ### SET_CONTAINER (R68) -/

section
variable {r : Req} {s : State} {k tare : Nat} (data : decodeSetContainer r.data = some (k, tare))
include data

theorem setContainer_of_outOfRange (range : ¬ ((1 ≤ k ∧ k ≤ 15) ∧ tare ≤ 100000)) :
    setContainer r s = answer r .badParam [] s := by
  simp only [setContainer, data]
  exact dif_neg range

theorem setContainer_of_saving (range : (1 ≤ k ∧ k ≤ 15) ∧ tare ≤ 100000) (saving : s.save ≠ none) :
    setContainer r s = answer r .settingsBusy [] s := by
  simp only [setContainer, data]
  exact (dif_pos range).trans (if_pos (Option.isSome_iff_ne_none.mpr saving))

theorem setContainer_of_free (range : (1 ≤ k ∧ k ≤ 15) ∧ tare ≤ 100000) (free : s.save = none) :
    setContainer r s = answer r .ok [] (s.setTare ⟨k, Nat.lt_succ_of_le range.1.2⟩ tare) := by
  simp only [setContainer, data]
  exact (dif_pos range).trans (if_neg (by simp [free]))

end

/-! ### One entry of a port's printers (R177) -/

theorem printerValue_map (k : Option Printer) : printerValue (k.map fun x => x.val) = some k := by
  cases k with
  | none => rfl
  | some x => exact dif_pos x.isLt

theorem printerValue_of_outOfRange {k : Option Nat} (range : 3 ≤ k.getD 0) : printerValue k = none := by
  cases k with
  | none => simp at range
  | some x => exact dif_neg (Nat.not_lt.mpr range)

section
variable {r : Req} {s : State}

theorem setAlias_of_outOfRange {q entry : Nat} {k : Option Nat} (data : decodeSetAlias r.data = some (q, entry, k))
    (range : 4 ≤ q ∨ 4 ≤ entry ∨ 3 ≤ k.getD 0) : setAlias r s = answer r .badParam [] s := by
  simp only [setAlias, data]
  split
  · rfl
  · rename_i named
    refine dif_neg fun ⟨hq, hentry⟩ => ?_
    have unnamed : ¬ 3 ≤ k.getD 0 := fun h => by simp [printerValue_of_outOfRange h] at named
    omega

variable {q : Port} {entry : Fin 4} {k : Option Printer}
  (data : decodeSetAlias r.data = some (q.val, entry.val, k.map fun x => x.val))
include data

theorem setAlias_of_saving (saving : s.save ≠ none) : setAlias r s = answer r .settingsBusy [] s := by
  simp only [setAlias, data, printerValue_map]
  exact (dif_pos ⟨q.isLt, entry.isLt⟩).trans (if_pos (Option.isSome_iff_ne_none.mpr saving))

theorem setAlias_of_free (free : s.save = none) :
    setAlias r s = answer r .ok (encEntries (s.settings.printersOf[q].set entry k)) (s.setAliasEntry q entry k) := by
  have entries : (s.setAliasEntry q entry k).settings.printersOf[q] = s.settings.printersOf[q].set entry k := by
    simp [State.setAliasEntry]
  simp only [setAlias, data, printerValue_map]
  rw [dif_pos ⟨q.isLt, entry.isLt⟩, if_neg (by simp [free])]
  exact congrArg (fun d => answer r .ok (encEntries d) (s.setAliasEntry q entry k)) entries

end

/-- Settles O21: each tariff request judges its values, then the save in flight, and replaces what it names. -/
theorem tariffRequestsEditTheBanks : Obligations.TariffRequestsEditTheBanks := by
  refine ⟨⟨rfl, rfl, rfl, fun s p tag => ⟨?_, ?_, ?_⟩⟩, ?_⟩
  · intro g name price rate restricted disabled hg hname hprice hrate granted
    exact setGrade_replaces hg hname hprice hrate granted
  · intro granted
    refine ⟨fun saving => refuses switchPrices_served granted (switchPrices_of_saving rfl saving), ?_⟩
    intro free epoch most
    obtain ⟨u, next, apart, answered⟩ := answers_after switchPrices_served granted
      (switchPrices_of_free rfl free) (fun q => s.switchPrices_get q) rfl
    have named : s.switchPrices.settings.epoch = epoch := nextEpoch_eq most
    rw [named] at answered
    exact ⟨u, next, apart.trans (apart_switchPrices most), answered⟩
  · intro k tare hk htare granted
    have decoded := decodeSetContainer_enc k tare hk htare
    split
    · rename_i range
      exact ⟨fun saving => refuses setContainer_served granted (setContainer_of_saving decoded range saving),
        fun free => answers setContainer_served granted (setContainer_of_free decoded range free) rfl rfl⟩
    · rename_i range
      exact refuses setContainer_served granted (setContainer_of_outOfRange decoded range)
  · intro s p tag q entry k hq hentry hk granted
    have decoded := decodeSetAlias_enc q entry k hq hentry (fun x hx => by simpa [hx] using hk)
    refine ⟨fun range => refuses setAlias_served granted (setAlias_of_outOfRange decoded range), ?_⟩
    rintro q' entry' k' rfl rfl rfl
    exact ⟨fun saving => refuses setAlias_served granted (setAlias_of_saving decoded saving),
      fun free => answers setAlias_served granted (setAlias_of_free decoded free) rfl rfl⟩

/-! ### The walk-in (R55, R58) -/

section
variable {r : Req} {s : State}

theorem openWalkin_of_noNumber (data : r.data = []) (counter : s.counter = .invalid ∨ s.counter = .exhausted) :
    openWalkin r s = answer r .noNumber [] s := by
  simp only [openWalkin, data, decodeNothing]
  rcases counter with counter | counter <;> simp only [counter]

theorem openWalkin_of_full {n : Nat} (data : r.data = []) (counter : s.counter = .valid n)
    (full : ∀ k : Slot, s.slots[k] ≠ none) : openWalkin r s = answer r .tableFull [] s := by
  simp only [openWalkin, data, decodeNothing, counter, freeSlot_eq_none_iff.mpr full]

theorem openWalkin_of_free {n : Nat} {i : Slot} (data : r.data = []) (counter : s.counter = .valid n)
    (free : LowestFreeSlot s i) :
    openWalkin r s = answer r .ok (enc4 n)
      ((s.writeCounter (.after n)).setSlot i (some
        { newTicket .walkin .counter r.port none with number := some n, openedAt := s.seconds })) := by
  simp only [openWalkin, data, decodeNothing, counter, free.freeSlot]

variable {i : Slot} {t : Ticket} {n : Nat}

theorem closeWeighing_of_form (hn : n < 4294967296) (data : r.data = enc4 n) :
    closeWeighing r s = onTicket r n s fun i t => closeWeighingOn r i t s := by
  simp only [closeWeighing, data, decodeNumber_enc n hn]

theorem closeWeighingOn_busy (h : t.state = .atWindow ∨ (t.state = .counter ∧ t.marker ≠ none)) :
    closeWeighingOn r i t s = answer r .ticketBusy [] s := by
  rw [closeWeighingOn, if_pos (by simpa only [Option.isSome_iff_ne_none] using h)]

theorem closeWeighingOn_wrongState (h : t.state = .weighing ∨ t.state = .weighed) :
    closeWeighingOn r i t s = answer r .wrongState [] s := by
  rcases h with h | h <;> simp [closeWeighingOn, h]

theorem closeWeighingOn_noLines (state : t.state = .counter) (marker : t.marker = none) (lines : t.lines = []) :
    closeWeighingOn r i t s = answer r .noLines [] s := by
  simp [closeWeighingOn, state, marker, lines]

theorem closeWeighingOn_accepted (state : t.state = .counter) (marker : t.marker = none) (lines : t.lines ≠ [])
    (number : t.number = some n) :
    closeWeighingOn r i t s = answer r .ok (enc4 n ++ enc1 t.lines.length ++ enc5 t.total)
      (s.putTicket i { t with state := .weighed } true) := by
  simp [closeWeighingOn, state, marker, lines, number]

end

theorem writtenCounter_after (n : Nat) :
    Counter.after n = if n = 99999999 then .exhausted else .valid (n + 1) := rfl

/-- Settles O23: OPEN_WALKIN and CLOSE_WEIGHING judge their checks in order, then open the record in the lowest FREE
slot and take the ticket to WEIGHED. -/
theorem walkinsAreOpenedAndClosed : Obligations.WalkinsAreOpenedAndClosed := by
  refine ⟨fun s p tag granted => ⟨fun counter => ?_, fun n counter => ⟨fun full => ?_, fun i free => ?_⟩⟩, ?_⟩
  · exact refuses openWalkin_served granted (openWalkin_of_noNumber rfl counter)
  · exact refuses openWalkin_served granted (openWalkin_of_full rfl counter full)
  · exact answers openWalkin_served granted (openWalkin_of_free rfl counter free) rfl rfl
  · intro s p tag n hn granted
    have formed : closeWeighing ⟨p, tag, 0x14, enc4 n⟩ s = _ := closeWeighing_of_form hn rfl
    refine ⟨fun range => refuses closeWeighing_served granted (formed.trans (onTicket_of_outOfRange _ _ range)),
      fun unheld => refuses closeWeighing_served granted (formed.trans (onTicket_of_noTicket _ _ unheld)),
      fun i t ticket => ?_⟩
    have found := formed.trans (onTicket_of_ticketAt _ _ ticket)
    obtain ⟨-, -, -, number, -⟩ := ticket
    refine ⟨fun busy => refuses closeWeighing_served granted (found.trans (closeWeighingOn_busy busy)),
      fun state => refuses closeWeighing_served granted (found.trans (closeWeighingOn_wrongState state)),
      fun state marker lines =>
        refuses closeWeighing_served granted (found.trans (closeWeighingOn_noLines state marker lines)),
      fun state marker lines => ?_⟩
    obtain ⟨u, next, apart, answered⟩ := answers_after closeWeighing_served granted
      (f := fun _ x => latchedIf (decide (x.role = .payout)) .ticketReady x)
      (found.trans (closeWeighingOn_accepted state marker lines number)) putTicket_weighed_get rfl
    exact ⟨u, next, apart.trans apart_putTicket_weighed, answered⟩

end Sys2Proof.Machine
end

section
/-! SUPPORT. The window's hold on a ticket, the drawer trains, the save, the number counter and the yard clock
(chapters 5, 9 and 11). -/

namespace Sys2Proof.Machine

theorem review_served : ServedBy .review 0x30 review := fun _ => rfl

theorem drawerKick_served : ServedBy .drawerKick 0x33 drawerKick := fun _ => rfl

theorem saveSettings_served : ServedBy .saveSettings 0x52 saveSettings := fun _ => rfl

theorem setNextNumber_served : ServedBy .setNextNumber 0x53 setNextNumber := fun _ => rfl

theorem setClock_served : ServedBy .setClock 0x54 setClock := fun _ => rfl

theorem decodeNothing_of_data {d : List Byte} (h : d ≠ []) : decodeNothing d = none :=
  decodeNothing_of_length (by simpa using h)

/-! ### REVIEW and the hold timer (R86 to R90) -/

section
variable {r : Req} {s : State} {i : Slot} {t : Ticket} {n : Nat}

theorem review_of_form (hn : n < 4294967296) (data : r.data = enc4 n) :
    review r s = onTicket r n s fun i t => reviewOn r i t s := by
  simp only [review, data, decodeNumber_enc n hn]

theorem reviewOn_busy (h : t.heldByOther r.port = true) : reviewOn r i t s = answer r .ticketBusy [] s := by
  rw [reviewOn, if_pos h]

theorem reviewOn_wrongState (h : t.state = .weighing ∨ t.state = .counter) :
    reviewOn r i t s = answer r .wrongState [] s := by
  rcases h with h | h <;> simp [reviewOn, h, Ticket.heldByOther]

theorem reviewOn_accepted (own : t.heldByOther r.port = false) (state : t.state = .weighed ∨ t.state = .atWindow) :
    reviewOn r i t s = answer r .ok (reviewResponse s t) (s.setSlot i (some (t.hold r.port s.settings.holdTime))) := by
  rw [reviewOn, if_neg (ne_true_of_eq_false own), if_neg (not_and_or.mpr (state.imp not_not.mpr not_not.mpr))]

theorem holdEnd_of_window {w : Window} (slot : s.slots[i] = some t) (window : t.window = some w) :
    holdEnd i s = (s.putTicket i t.unhold true).latchAt .windowExpired w.holder := by
  simp only [holdEnd, slot, window]

theorem holdEnd_of_unheld (unheld : (s.slots[i].bind fun t => t.window) = none) : holdEnd i s = s := by
  unfold holdEnd
  split
  · rfl
  · rename_i t slot
    rw [slot, Option.bind_some] at unheld
    rw [unheld]

/-- A state is another with other port records where it agrees with it entry by entry there. -/
theorem State.ports_ext {s t u : State} (ports : ∀ q : Port, t.ports[q] = u.ports[q])
    (rest : t = { s with ports := t.ports }) (rest' : u = { s with ports := u.ports }) : t = u := by
  have same : t.ports = u.ports := Vector.ext fun k hk => ports ⟨k, hk⟩
  rw [rest, rest', same]

theorem returned_eq (w : Window) :
    (s.putTicket i t.unhold true).latchAt .windowExpired w.holder = { s with
      slots := s.slots.set i (some { t with state := .weighed, window := none })
      ports := mapEntries
        (fun q x => latchedIf (decide (q = w.holder)) .windowExpired
          (latchedIf (decide (x.role = .payout)) .ticketReady x)) s.ports } := by
  refine State.ports_ext (s := s.setSlot i (some t.unhold)) (fun q => ?_) rfl rfl
  rw [State.latchAt, State.latchWhere_get, putTicket_weighed_get, getElem_mapEntries]
  rfl

end

/-- Settles O32: REVIEW judges its checks in order and holds the ticket; the hold timer's expiry returns it. -/
theorem reviewHoldsUntilTheTimerExpires : Obligations.ReviewHoldsUntilTheTimerExpires := by
  refine ⟨⟨rfl, fun s p tag n hn granted => ?_⟩, fun s i taking => ⟨fun t w slot window => ?_, fun unheld => ?_⟩⟩
  · have formed : review ⟨p, tag, 0x30, enc4 n⟩ s = _ := review_of_form hn rfl
    refine ⟨fun range => refuses review_served granted (formed.trans (onTicket_of_outOfRange _ _ range)),
      fun unheld => refuses review_served granted (formed.trans (onTicket_of_noTicket _ _ unheld)),
      fun i t ticket => ?_⟩
    have found := formed.trans (onTicket_of_ticketAt _ _ ticket)
    refine ⟨fun window other => ?_, fun state => ?_, fun reviewed => ?_⟩
    · exact refuses review_served granted (found.trans (reviewOn_busy ((heldByOther_iff window).mpr other)))
    · exact refuses review_served granted (found.trans (reviewOn_wrongState state))
    · obtain ⟨-, -, -, number, -⟩ := ticket
      have own : t.heldByOther p = false := by
        rcases reviewed with weighed | ⟨-, w, part, holder⟩
        · exact heldByOther_of_not_atWindow (by simp [weighed])
        · exact heldByOther_of_holder part holder
      have accepted := found.trans (reviewOn_accepted own (reviewed.imp_right And.left))
      rw [reviewResponse, number] at accepted
      exact answers review_served granted accepted rfl rfl
  · calc exec (.holdTimerExpiry i) s = .next (holdEnd i s) := congrArg _ (whileTaking_of_taking taking)
      _ = _ := by rw [holdEnd_of_window slot window, returned_eq]
  · calc exec (.holdTimerExpiry i) s = .next (holdEnd i s) := congrArg _ (whileTaking_of_taking taking)
      _ = .next s := by rw [holdEnd_of_unheld unheld]

/-! ### Drawers (R97, R163) -/

section
variable {r : Req} {s : State} {k : Printer}

theorem drawerKick_of_data (data : r.data ≠ []) : drawerKick r s = answer r .badParam [] s := by
  simp only [drawerKick, decodeNothing_of_data data]

theorem drawerKick_of_unnamed (data : r.data = []) (unnamed : s.printerOf r.port 0 = none) :
    drawerKick r s = answer r .noPrinter [] s := by
  simp only [drawerKick, data, decodeNothing, unnamed]

theorem kickDrawer_of_running (running : s.printers[k].train ≠ none) : s.kickDrawer k = s := by
  obtain ⟨x, train⟩ := Option.ne_none_iff_exists'.mp running
  simp only [State.kickDrawer, train]

theorem kickDrawer_of_rest (rest : s.printers[k].train = none) :
    s.kickDrawer k = s.setEngine k { s.printers[k] with
      train := some ⟨s.settings.drawerOn, s.settings.drawerOff, s.settings.drawerCount, 1, true⟩ } := by
  simp only [State.kickDrawer, rest]

variable (data : r.data = []) (named : s.printerOf r.port 0 = some k)
include data named

theorem drawerKick_of_running (running : s.printers[k].train ≠ none) : drawerKick r s = answer r .ok [1] s := by
  simp only [drawerKick, data, decodeNothing, named, kickDrawer_of_running running]
  rw [if_neg (by simpa using running)]

theorem drawerKick_of_rest (rest : s.printers[k].train = none) : drawerKick r s = answer r .ok [0] (s.kickDrawer k) := by
  simp only [drawerKick, data, decodeNothing, named, rest, Option.isNone_none, if_true]

end

/-- Settles O37: DRAWER_KICK starts a train at an output at rest, the phases follow one another, and the output is
driven in the on phases. -/
theorem drawerTrainsStartAndRun : Obligations.DrawerTrainsStartAndRun := by
  refine ⟨⟨rfl, fun s p tag data granted => ⟨fun given => ?_, ?_⟩⟩, fun s k taking => ⟨fun rest => ?_, fun x train => ?_⟩,
    fun s k => ?_⟩
  · exact refuses drawerKick_served granted (drawerKick_of_data given)
  · rintro rfl
    refine ⟨fun unnamed => refuses drawerKick_served granted (drawerKick_of_unnamed rfl unnamed),
      fun k named => ⟨fun running => ?_, fun rest => ?_⟩⟩
    · exact answers drawerKick_served granted (drawerKick_of_running rfl named running) rfl rfl
    · obtain ⟨u, next, apart, answered⟩ := answers drawerKick_served granted (drawerKick_of_rest rfl named rest)
        (by rw [kickDrawer_of_rest rest]; rfl) (by rw [kickDrawer_of_rest rest]; rfl)
      rw [kickDrawer_of_rest rest] at apart
      exact ⟨u, next, apart, answered⟩
  · calc exec (.drawerPhaseExpiry k) s = .next (drawerPhaseEnd k s) := congrArg _ (whileTaking_of_taking taking)
      _ = .next s := by simp only [drawerPhaseEnd, rest]
  · calc exec (.drawerPhaseExpiry k) s = .next (drawerPhaseEnd k s) := congrArg _ (whileTaking_of_taking taking)
      _ = _ := by simp only [drawerPhaseEnd, train]; rfl
  · simp only [drawerDriven]
    cases s.printers[k].train with
    | none => simp
    | some x => simp

/-! ### The save and its read-back (R183) -/

section
variable {r : Req} {s : State} {content readBack : Settings} {p : Port} {tag : Byte}

theorem saveSettings_of_saving (data : r.data = []) (saving : s.save ≠ none) :
    saveSettings r s = answer r .settingsBusy [] s := by
  simp only [saveSettings, data, decodeNothing]
  exact if_pos (Option.isSome_iff_ne_none.mpr saving)

theorem saveSettings_of_free (data : r.data = []) (free : s.save = none) : saveSettings r s = beginSave r.port s := by
  simp only [saveSettings, data, decodeNothing]
  exact if_neg (by simp [free])

theorem completeSave_of_idle (idle : s.save = none) : completeSave readBack s = s := by
  simp only [completeSave, idle]

theorem completeSave_of_saving (saving : s.save = some ⟨content, p⟩)
    (request : s.ports[p].request = some ⟨tag, 0x52, [], .deferred⟩) :
    completeSave readBack s = { s with
      image := ⟨readBack, decide (readBack = content)⟩, save := none
      ports := s.ports.set p
        (answeredPort s.ports[p] ⟨tag, 0x52, if decide (readBack = content) then .ok else .storeFault, []⟩) } := by
  simp only [completeSave, saving, State.answerDeferred, request]
  rfl

end

/-- Settles O54: SAVE_SETTINGS takes the working settings as the content, and its completion compares them with what
was read back. -/
theorem savesCompleteWithTheReadBack : Obligations.SavesCompleteWithTheReadBack := by
  refine ⟨fun s p tag granted => ⟨fun saving => ?_, fun free => ?_⟩,
    fun s readBack taking => ⟨fun idle => ?_, fun content p tag saving request => ?_⟩⟩
  · exact refuses saveSettings_served granted (saveSettings_of_saving rfl saving)
  · refine ⟨_, exec_granted saveSettings_served granted, ?_, ?_⟩ <;> rw [saveSettings_of_free rfl free]
    · exact (apart_releaseEngine _).trans rfl
    · obtain ⟨-, -, request⟩ := granted
      exact deferredAt_releaseEngine request rfl rfl
  · calc exec (.saveCompletion readBack) s = .next (completeSave readBack s) := congrArg _ (whileTaking_of_taking taking)
      _ = .next s := by rw [completeSave_of_idle idle]
  · have completed : exec (.saveCompletion readBack) s = .next _ :=
      congrArg Host.Outcome.next ((whileTaking_of_taking taking).trans (completeSave_of_saving saving request))
    refine ⟨fun same => ?_, fun other => ?_⟩ <;> rw [completed]
    · simp [same]
    · simp [other]

/-! ### The number counter (R184) -/

theorem foldl_max_lt_iff {l : List Nat} {n : Nat} (positive : 0 < n) : l.foldl max 0 < n ↔ ∀ k ∈ l, k < n := by
  refine ⟨fun below k member => lt_of_le_of_lt ((le_foldl_max l 0).2 k member) below, fun below => ?_⟩
  by_cases empty : l = []
  · simpa [empty] using positive
  · exact below _ (foldl_max_mem empty)

section
variable {s : State} {n : Nat}

theorem mem_tableNumbers_iff {k : Nat} :
    k ∈ s.tableNumbers ↔ ∃ (i : Slot) (t : Ticket), s.slots[i] = some t ∧ t.number = some k := by
  constructor
  · intro member
    obtain ⟨x, held, number⟩ := List.mem_filterMap.mp member
    obtain ⟨t, rfl, number⟩ := Option.bind_eq_some_iff.mp number
    obtain ⟨i, hi, slot⟩ := Vector.getElem_of_mem (Vector.mem_toList_iff.mp held)
    exact ⟨⟨i, hi⟩, t, slot, number⟩
  · rintro ⟨i, t, slot, number⟩
    refine List.mem_filterMap.mpr ⟨some t, Vector.mem_toList_iff.mpr ?_, number⟩
    exact slot ▸ Vector.getElem_mem i.isLt

theorem mem_closeNumbers_iff {l : List Record} {k : Nat} :
    k ∈ l.filterMap Record.closeNumber ↔ ∃ r, Record.close r ∈ l ∧ r.number = k := by
  constructor
  · intro member
    obtain ⟨x, held, number⟩ := List.mem_filterMap.mp member
    cases x with
    | close r => exact ⟨r, held, Option.some.inj number⟩
    | dayEnd r => cases number
  · rintro ⟨r, held, rfl⟩
    exact List.mem_filterMap.mpr ⟨_, held, rfl⟩

/-- Which numbers SET_NEXT_NUMBER may give (R184). -/
def NextNumberAllowed (s : State) (n : Nat) : Prop :=
  (1 ≤ n ∧ n ≤ 99999999) ∧ match s.counter with
    | .valid next => next < n
    | .exhausted => False
    | .invalid =>
      (∀ (i : Slot) (t : Ticket) (k : Nat), s.slots[i] = some t → t.number = some k → k < n) ∧
        ∀ r, .close r ∈ s.journal → r.number < n

theorem highestNumber_lt_iff (positive : 0 < n) : s.highestNumber < n ↔
    (∀ (i : Slot) (t : Ticket) (k : Nat), s.slots[i] = some t → t.number = some k → k < n) ∧
      ∀ r, .close r ∈ s.journal → r.number < n := by
  rw [State.highestNumber, foldl_max_lt_iff positive, List.forall_mem_append]
  simp only [mem_tableNumbers_iff, mem_closeNumbers_iff]
  constructor
  · exact fun ⟨table, journal⟩ =>
      ⟨fun i t k slot number => table k ⟨i, t, slot, number⟩, fun r held => journal _ ⟨r, held, rfl⟩⟩
  · rintro ⟨table, journal⟩
    refine ⟨fun k ⟨i, t, slot, number⟩ => table i t k slot number, ?_⟩
    rintro k ⟨r, held, rfl⟩
    exact journal r held

theorem nextNumberAllowed_iff : (numberInRange n && nextNumberAllowed s n) = true ↔ NextNumberAllowed s n := by
  rw [Bool.and_eq_true, numberInRange_iff]
  refine and_congr_right fun range => ?_
  unfold nextNumberAllowed
  cases s.counter with
  | valid next => exact decide_eq_true_iff
  | exhausted => exact Bool.false_eq_true.to_iff
  | invalid => exact decide_eq_true_iff.trans (highestNumber_lt_iff range.1)

variable {r : Req}

theorem setNextNumber_of_allowed (hn : n < 4294967296) (data : r.data = enc4 n) (allowed : NextNumberAllowed s n) :
    setNextNumber r s = answer r .ok (enc4 n) (s.writeCounter (.valid n)) := by
  simp only [setNextNumber, data, decodeNumber_enc n hn]
  exact if_pos (nextNumberAllowed_iff.mpr allowed)

theorem setNextNumber_of_refused (hn : n < 4294967296) (data : r.data = enc4 n) (refused : ¬ NextNumberAllowed s n) :
    setNextNumber r s = answer r .badParam [] s := by
  simp only [setNextNumber, data, decodeNumber_enc n hn]
  exact if_neg fun h => refused (nextNumberAllowed_iff.mp h)

end

/-! ### The yard clock (R185) -/

section
variable {r : Req} {s : State} {seconds : Nat} {date : Text}

theorem decodeSetClock_of_long {n : Nat} (long : 8 < date.length) (h : date.length < 256) :
    decodeSetClock (enc4 n ++ encText date) = none := by
  simp [enc4_eq, decodeSetClock, takeText_of_long long h]

theorem setClock_of_undecoded (data : decodeSetClock r.data = none) : setClock r s = answer r .badParam [] s := by
  simp only [setClock, data]

theorem setClock_of_outOfRange (data : decodeSetClock r.data = some (seconds, date))
    (range : ¬ (seconds < 86400 ∧ date.length = 8 ∧ holdsUnprintable date = false)) :
    setClock r s = answer r .badParam [] s := by
  simp only [setClock, data]
  exact if_neg range

theorem setClock_of_reading (data : decodeSetClock r.data = some (seconds, date))
    (range : seconds < 86400 ∧ date.length = 8 ∧ holdsUnprintable date = false) :
    setClock r s = answer r .ok [] { s with clock := some ⟨seconds, date⟩ } := by
  simp only [setClock, data]
  exact if_pos range

end

/-- Settles O55: SET_NEXT_NUMBER gives counter and word a number above all it may not repeat; SET_CLOCK sets the clock
to a reading of the day, and each second moves it on. -/
theorem numberCounterAndClockAreSet : Obligations.NumberCounterAndClockAreSet := by
  refine ⟨⟨rfl, fun s p tag n hn granted => ⟨fun refused => ?_, fun allowed => ?_⟩⟩, rfl, ?_, fun s => ?_⟩
  · exact refuses setNextNumber_served granted (setNextNumber_of_refused hn rfl refused)
  · exact answers setNextNumber_served granted (setNextNumber_of_allowed hn rfl allowed) rfl rfl
  · intro s p tag seconds date hseconds hdate granted
    split
    · rename_i reading
      obtain ⟨least, length, print⟩ := reading
      have decoded := decodeSetClock_enc seconds date hseconds (by omega)
      exact answers setClock_served granted
        (setClock_of_reading decoded ⟨Nat.lt_succ_of_le least, length, holdsUnprintable_eq_false print⟩) rfl rfl
    · rename_i reading
      by_cases short : date.length ≤ 8
      · have decoded := decodeSetClock_enc seconds date hseconds short
        refine refuses setClock_served granted (setClock_of_outOfRange decoded fun ⟨least, length, print⟩ =>
          reading ⟨Nat.le_of_lt_succ least, length, ?_⟩)
        simpa [holdsUnprintable] using print
      · exact refuses setClock_served granted
          (setClock_of_undecoded (decodeSetClock_of_long (Nat.lt_of_not_le short) hdate))
  · refine ⟨fun unset => ?_, fun c set => ?_⟩ <;> refine congrArg Host.Outcome.next ?_
    · rw [unset, Option.map_none, ← unset]
    · rw [set]
      rfl

end Sys2Proof.Machine
end

section
/-! SUPPORT. The event sets of a port (10.6) and the inputs and lights of a bridge (chapter 1). -/

namespace Sys2Proof.Machine

theorem getEvents_served : ServedBy .getEvents 0x01 getEvents := fun _ => rfl

theorem ackEvents_served : ServedBy .ackEvents 0x02 ackEvents := fun _ => rfl

theorem setMask_served : ServedBy .setMask 0x03 setMask := fun _ => rfl

theorem clearScaleFault_served : ServedBy .clearScaleFault 0x21 clearScaleFault := fun _ => rfl

/-! ### The event requests (R175, R176) -/

section
variable {r : Req} {s : State} {e : EventSet}

theorem getEvents_of_form (data : r.data = []) :
    getEvents r s = answer r .ok (encEventState s.ports[r.port] s.journal.length) s := by
  simp only [getEvents, data, decodeNothing]

theorem namesEventsOnly_iff : namesEventsOnly e = true ↔ e &&& ~~~(0x07FF : EventSet) = 0 := beq_iff_eq

theorem ackEvents_of_outside (data : r.data = encEvents e) (outside : e &&& ~~~(0x07FF : EventSet) ≠ 0) :
    ackEvents r s = answer r .badParam [] s := by
  simp only [ackEvents, data, decodeEvents_enc]
  exact if_neg fun h => outside (namesEventsOnly_iff.mp h)

theorem ackEvents_of_events (data : r.data = encEvents e) (events : e &&& ~~~(0x07FF : EventSet) = 0) :
    ackEvents r s = answer r .ok (encEvents (s.ports[r.port].acknowledge e).latched)
      (s.setPort r.port (s.ports[r.port].acknowledge e)) := by
  simp only [ackEvents, data, decodeEvents_enc]
  exact if_pos (namesEventsOnly_iff.mpr events)

theorem setMask_of_outside (data : r.data = encEvents e) (outside : e &&& ~~~(0x07FF : EventSet) ≠ 0) :
    setMask r s = answer r .badParam [] s := by
  simp only [setMask, data, decodeEvents_enc]
  exact if_neg fun h => outside (namesEventsOnly_iff.mp h)

theorem setMask_of_events (data : r.data = encEvents e) (events : e &&& ~~~(0x07FF : EventSet) = 0) :
    setMask r s = answer r .ok (encEvents e) (s.setPort r.port { s.ports[r.port] with mask := e }) := by
  simp only [setMask, data, decodeEvents_enc]
  exact if_pos (namesEventsOnly_iff.mpr events)

/-- A request that changes its own port's record alone, and answers. -/
theorem answers_ownPort {row : Instr} {code tag : Byte} {h : Req → State → State} {p : Port} {data d : List Byte}
    {x : StationPort} (served : ServedBy row code h) (granted : GrantedTo s p tag code data)
    (rule : h ⟨p, tag, code, data⟩ s = answer ⟨p, tag, code, data⟩ .ok d (s.setPort p x)) :
    ∃ t, exec row s = .next t ∧ Apart t s ∧ (∀ q, q ≠ p → t.ports[q] = s.ports[q]) ∧
      t.ports[p] = answeredPort x ⟨tag, code, .ok, d⟩ ∧ NextGrant s t := by
  obtain ⟨t, next, apart, others, own, grant⟩ := answers_after (f := fun q y => if p = q then x else y) served granted
    rule (fun q => by rw [State.setPort_get]) rfl
  refine ⟨t, next, apart.trans rfl, fun q other => ?_, ?_, grant⟩
  · exact (others q other).trans (if_neg (Ne.symm other))
  · exact own.trans (congrArg (answeredPort · _) (if_pos rfl))

/-- Bit 0 of a set is the event START. -/
theorem holdsStart_iff : e &&& Event.start.set = 0 ↔ e.getLsbD 0 = false := by
  constructor
  · intro none
    have bit := congrArg (fun v : EventSet => v.getLsbD 0) none
    simpa [Event.set, Event.bit] using bit
  · intro clear
    refine BitVec.eq_of_getLsbD_eq fun k _ => ?_
    rw [BitVec.getLsbD_and]
    rcases Nat.eq_zero_or_pos k with rfl | positive
    · rw [clear, Bool.false_and]
      rfl
    · simp [Event.set, Event.bit, BitVec.getLsbD_twoPow, Nat.ne_of_lt positive]

theorem acknowledge_eq (x : StationPort) : x.acknowledge e =
    { x with latched := x.latched &&& ~~~e, startData := if e.getLsbD 0 then none else x.startData } := by
  have start : (if e &&& Event.start.set = 0 then x.startData else none) =
      if e.getLsbD 0 then none else x.startData := by
    cases bit : e.getLsbD 0 with
    | false => rw [if_pos (holdsStart_iff.mpr bit), if_neg Bool.false_ne_true]
    | true =>
      rw [if_neg fun h => Bool.false_ne_true ((holdsStart_iff.mp h).symm.trans bit), if_pos rfl]
  rw [StationPort.acknowledge, start]

end

/-! ### ATTN and the level events (R107, R174, R175) -/

theorem ne_zero_iff_getLsbD {w : Nat} {v : BitVec w} : v ≠ 0 ↔ ∃ k, v.getLsbD k = true := by
  constructor
  · intro nonzero
    by_contra none
    refine nonzero (BitVec.eq_of_getLsbD_eq fun k _ => ?_)
    simpa using fun bit => none ⟨k, bit⟩
  · rintro ⟨k, bit⟩ rfl
    simp at bit

theorem getLsbD_event_iff (e : Event) (k : Nat) : e.set.getLsbD k = true ↔ k = e.bit := by
  have below : e.bit < 16 := by cases e <;> decide
  simp [Event.set, BitVec.getLsbD_twoPow, below, eq_comm]

/-- An event that is there under a condition. -/
theorem getLsbD_eventIf_iff (P : Prop) [Decidable P] (e : Event) (k : Nat) :
    (if P then e.set else 0).getLsbD k = true ↔ k = e.bit ∧ P := by
  by_cases h : P
  · rw [if_pos h, getLsbD_event_iff, and_iff_left h]
  · rw [if_neg h]
    simp [h]

theorem levelEvents_iff (role : Role) (records k : Nat) : (levelEvents role records).getLsbD k = true ↔
    role = .office ∧ ((k = 9 ∧ 1 ≤ records) ∨ (k = 10 ∧ 112 ≤ records)) := by
  unfold levelEvents
  by_cases office : role = .office
  · rw [if_pos office, BitVec.getLsbD_or, Bool.or_eq_true, getLsbD_eventIf_iff, getLsbD_eventIf_iff,
      and_iff_right office]
    exact Iff.rfl
  · rw [if_neg office]
    simp [office]

/-- Settles O20: each request on events reads or sets its own port's record; ATTN follows the sets of the state. -/
theorem eventSetsAreReadAckedAndMasked : Obligations.EventSetsAreReadAckedAndMasked := by
  refine ⟨fun s p tag granted => ?_, fun s p tag e => ⟨fun granted => ?_, fun granted => ?_⟩,
    fun s p => ⟨fun powered => ?_, fun dark => ?_⟩, levelEvents_iff⟩
  · exact answers getEvents_served granted (getEvents_of_form rfl) rfl rfl
  · refine ⟨fun outside => refuses ackEvents_served granted (ackEvents_of_outside rfl outside), fun events => ?_⟩
    have answered := answers_ownPort ackEvents_served granted (ackEvents_of_events rfl events)
    rw [acknowledge_eq] at answered
    exact answered
  · exact ⟨fun outside => refuses setMask_served granted (setMask_of_outside rfl outside),
      fun events => answers_ownPort setMask_served granted (setMask_of_events rfl events)⟩
  · rw [attnDriven, powered, Bool.true_and, bne_iff_ne, ne_zero_iff_getLsbD]
    refine exists_congr fun k => ?_
    rw [BitVec.getLsbD_and, Bool.and_eq_true]
    rfl
  · rw [attnDriven, dark, Bool.false_and]

/-! ### CLEAR_SCALE_FAULT (R12) -/

section
variable {r : Req} {s : State} {c : Chan}

theorem clearScaleFault_of_channel (data : r.data = enc1 c.val) :
    clearScaleFault r s = answer r .ok [] (clearFault c s) := by
  have below : c.val < 256 := by omega
  simp only [clearScaleFault, data, decodeOne_enc c.val below, c.isLt, dif_pos]

theorem clearScaleFault_of_outOfRange {n : Nat} (hn : n < 256) (outside : ¬ n < 3) (data : r.data = enc1 n) :
    clearScaleFault r s = answer r .badParam [] s := by
  simp only [clearScaleFault, data, decodeOne_enc n hn, outside, dif_neg, not_false_eq_true]

/-- Who hears of a channel that loses its signal. -/
theorem State.scaleFault_get (s : State) (q : Port) :
    s.scaleFault.ports[q] =
      latchedIf (s.ports[q].role == .scale || s.ports[q].role == .office) .scaleFault s.ports[q] := by
  have heard : [Role.scale, .office].contains s.ports[q].role =
      (s.ports[q].role == .scale || s.ports[q].role == .office) := by
    simp [beq_eq_decide]
  rw [State.scaleFault, State.latchRoles, State.latchWhere_get, heard]
  rfl

/-- The channel after its fault has been cleared. -/
def Channel.cleared (x : Channel) : Channel :=
  if x.state = .fault then { x with errorCount := 0, state := .noSignal, run := 0, freshness := none }
  else { x with errorCount := 0 }

theorem clearFault_eq : clearFault c s =
    if s.channels[c].state = .fault then (s.setChannel c (s.channels[c]).cleared).scaleFault
    else s.setChannel c (s.channels[c]).cleared := by
  unfold clearFault Channel.cleared
  dsimp only
  split <;> rfl

theorem apart_clearFault : Apart (clearFault c s) { s with channels := s.channels.set c (s.channels[c]).cleared } := by
  rw [clearFault_eq]
  split <;> rfl

theorem clearFault_get (q : Port) :
    (clearFault c s).ports[q] = latchedIf
      (decide (s.channels[c].state = .fault) && (s.ports[q].role == .scale || s.ports[q].role == .office)) .scaleFault
      s.ports[q] := by
  rw [clearFault_eq]
  split <;> rename_i state
  · rw [State.scaleFault_get, decide_eq_true state, Bool.true_and]
    rfl
  · rw [decide_eq_false state, Bool.false_and]
    rfl

end

/-! ### Beams and lights (R13, R14) -/

section
variable {s : State} {b : Bridge} {x y : Beam} (beams : s.channels[b.chan].beams = some (x, y))
include beams

theorem updateBeam_of_beams (e : BeamEnd) (f : Beam → Beam) : s.updateBeam b e f =
    s.setChannel b.chan { s.channels[b.chan] with beams := some (setBeam e (f (beamOf e (x, y))) (x, y)) } := by
  simp only [State.updateBeam, beams]

/-- What the RED light shows. -/
theorem lightRed_iff : (s.channels[b.chan]).lightRed = true ↔
    s.channels[b.chan].capture ≠ none ∨ x.debounced = .broken ∨ y.debounced = .broken ∨
      s.channels[b.chan].state = .fault ∨ s.channels[b.chan].state = .noSignal := by
  have notClear (z : Beam) : z.debounced ≠ .clear ↔ z.debounced = .broken := by cases z.debounced <;> simp
  have broken : (!(s.channels[b.chan]).beamsClear) = true ↔ x.debounced = .broken ∨ y.debounced = .broken := by
    rw [← notClear x, ← notClear y, ← not_and_or]
    simp only [Channel.beamsClear, beams, Bool.not_eq_true', ← Bool.not_eq_true, Bool.and_eq_true, decide_eq_true_eq]
  simp only [Channel.lightRed, Bool.or_eq_true, broken, decide_eq_true_eq, or_assoc, Option.isSome_iff_ne_none]

end

/-- Settles O31: CLEAR_SCALE_FAULT takes a channel out of FAULT, beams follow their levels, and the lights the state. -/
theorem scaleFaultAndBeams : Obligations.ScaleFaultAndBeams := by
  refine ⟨⟨rfl, fun s p tag n hn granted => ?_⟩, fun s b e l x y beams => ?_, fun s b x y beams => ⟨fun powered => ?_, fun dark => ?_⟩⟩
  · split
    · rename_i below
      obtain ⟨t, next, apart, answered⟩ := answers_after clearScaleFault_served granted
        (clearScaleFault_of_channel (c := ⟨n, below⟩) rfl) (fun q => clearFault_get q)
        (by rw [clearFault_eq]; split <;> rfl)
      exact ⟨t, next, apart.trans apart_clearFault, answered⟩
    · rename_i outside
      exact refuses clearScaleFault_served granted (clearScaleFault_of_outOfRange hn outside rfl)
  · refine ⟨fun taking => ?_, fun taking running => ?_⟩
    · change Host.Outcome.next (s.updateBeam b e (if s.taking then Beam.change l else _)) = _
      rw [if_pos taking, updateBeam_of_beams beams]
      cases e <;> rfl
    · change Host.Outcome.next (whileTaking (fun s => s.updateBeam b e Beam.settle) s) = _
      rw [whileTaking_of_taking taking, updateBeam_of_beams beams]
      have settled (z : Beam) (h : z.debounce ≠ none) : z.settle = { z with debounced := z.raw, debounce := none } :=
        if_pos (Option.isSome_iff_ne_none.mpr h)
      cases e with
      | entry => rw [beamOf, settled x running]; rfl
      | exit => rw [beamOf, settled y running]; rfl
  · simp only [lights, powered, Bool.true_and, lightRed_iff beams, and_self]
  · simp only [lights, dark, Bool.false_and]

end Sys2Proof.Machine
end

section
/-! SUPPORT. The requests that read (2.9, 1.8, 4.2, 5.8, 6.2, 6.4, 8.7, 8.8, 11.6): each answers what it reads. -/

namespace Sys2Proof.Machine

theorem listTickets_served : ServedBy .listTickets 0x1A listTickets := fun _ => rfl

theorem readScale_served : ServedBy .readScale 0x20 readScale := fun _ => rfl

theorem getTicket_served : ServedBy .getTicket 0x19 getTicket := fun _ => rfl

theorem journalPeek_served : ServedBy .journalPeek 0x38 journalPeek := fun _ => rfl

theorem getTotals_served : ServedBy .getTotals 0x3A getTotals := fun _ => rfl

theorem getGrade_served : ServedBy .getGrade 0x2A getGrade := fun _ => rfl

theorem getTally_served : ServedBy .getTally 0x34 getTally := fun _ => rfl

theorem jobStatus_served : ServedBy .jobStatus 0x45 jobStatus := fun _ => rfl

theorem printerStatus_served : ServedBy .printerStatus 0x4B printerStatus := fun _ => rfl

theorem getParam_served : ServedBy .getParam 0x51 getParam := fun _ => rfl

section
variable {r : Req} {s : State}

/-! ### Tickets and scales (R19, R41, R42) -/

theorem listTickets_of_form {first : Nat} (hfirst : first < 256) (data : r.data = enc1 first) :
    listTickets r s = if first ≤ 47 then answer r .ok (listResponse s first) s else answer r .badParam [] s := by
  simp only [listTickets, data, decodeOne_enc first hfirst]

theorem readScale_of_outOfRange {n : Nat} (hn : n < 256) (outside : 3 ≤ n) (data : r.data = enc1 n) :
    readScale r s = answer r .badParam [] s := by
  simp only [readScale, data, decodeOne_enc n hn]
  exact dif_neg (not_lt.mpr outside)

theorem readScale_of_channel {c : Chan} (data : r.data = enc1 c.val) :
    readScale r s = answer r .ok (s.channels[c]).encView s := by
  have below : c.val < 256 := by omega
  simp only [readScale, data, decodeOne_enc c.val below]
  exact dif_pos c.isLt

section
variable {n part : Nat} (hn : n < 4294967296) (hpart : part < 256) (data : r.data = enc4 n ++ enc1 part)
include hn hpart data

theorem getTicket_of_noPart (above : 3 < part) : getTicket r s = answer r .badParam [] s := by
  simp only [getTicket, data, decodeNumberOne_enc n part hn hpart]
  exact if_neg (not_le.mpr above)

theorem getTicket_of_form (most : part ≤ 3) : getTicket r s =
    onTicket r n s fun _ t => answer r .ok (encTicketPart s t part) (s.countFreeRead t part) := by
  simp only [getTicket, data, decodeNumberOne_enc n part hn hpart]
  exact if_pos most

end

theorem countFreeRead_eq (t : Ticket) (part : Nat) : s.countFreeRead t part =
    { s with freeReads := s.freeReads + (if part = 0 ∧ t.window.isSome then 1 else 0) } := by
  unfold State.countFreeRead
  split <;> rfl

/-! ### Journal and totals (R105, R111) -/

section
variable {part : Nat} (hpart : part < 256) (data : r.data = enc1 part)
include hpart data

theorem journalPeek_of_noPart (above : 3 < part) : journalPeek r s = answer r .badParam [] s := by
  simp only [journalPeek, data, decodeOne_enc part hpart]
  exact if_neg (not_le.mpr above)

theorem journalPeek_of_empty (most : part ≤ 3) (journal : s.journal = []) :
    journalPeek r s = answer r .journalEmpty [] s := by
  simp only [journalPeek, data, decodeOne_enc part hpart, journal]
  exact if_pos most

theorem journalPeek_of_head (most : part ≤ 3) {head : Record} {rest : List Record} (journal : s.journal = head :: rest) :
    journalPeek r s = answer r .ok (enc1 (rest.length + 1) ++ head.encPart part) s := by
  simp only [journalPeek, data, decodeOne_enc part hpart, journal]
  exact if_pos most

end

theorem getTotals_of_outOfRange {g : Nat} (hg : g < 256) (outside : 65 ≤ g) (data : r.data = enc1 g) :
    getTotals r s = answer r .badParam [] s := by
  simp only [getTotals, data, decodeOne_enc g hg]
  exact dif_neg (by omega)

theorem getTotals_of_overall (data : r.data = enc1 0) : getTotals r s = answer r .ok (encOverall s) s := by
  simp only [getTotals, data, decodeOne_enc 0 (by omega)]
  rfl

theorem getTotals_of_grade {g : GradeIx} (data : r.data = enc1 g.number) :
    getTotals r s = answer r .ok (encGradeTotals s g) s := by
  have most : g.number ≤ 64 := g.isLt
  have below : g.number < 256 := lt_of_le_of_lt most (by omega)
  simp only [getTotals, data, decodeOne_enc g.number below]
  exact (dif_pos most).trans (dif_neg (Nat.succ_ne_zero g.val))

/-! ### Grades and tallies (R69, R98) -/

theorem decodeGetGrade_of_noBank {bank : Nat} (g : Nat) (above : 2 ≤ bank) (h : bank < 256) :
    decodeGetGrade (enc1 bank ++ enc1 g) = none := by
  have zero : BitVec.ofNat 8 bank ≠ 0 := fun e => by
    have := congrArg BitVec.toNat e
    simp at this
    omega
  have one : BitVec.ofNat 8 bank ≠ 1 := fun e => by
    have := congrArg BitVec.toNat e
    simp at this
    omega
  simp only [enc1_eq, List.cons_append, List.nil_append, decodeGetGrade, decFlag, if_neg zero, if_neg one, Option.map_none]

theorem getGrade_of_undecoded (data : decodeGetGrade r.data = none) : getGrade r s = answer r .badParam [] s := by
  simp only [getGrade, data]

theorem getGrade_of_outOfRange {staged : Bool} {g : Nat} (data : decodeGetGrade r.data = some (staged, g))
    (outside : g = 0 ∨ 65 ≤ g) : getGrade r s = answer r .badParam [] s := by
  simp only [getGrade, data]
  exact dif_neg (by omega)

theorem getGrade_of_grade {staged : Bool} {g : GradeIx} (data : r.data = encFlag staged ++ enc1 g.number) :
    getGrade r s = answer r .ok
      (encEntry (if staged then s.staged[g] else s.settings.active[g]) ++ enc2 s.settings.epoch ++
        encFlag (decide (s.staged[g] ≠ s.settings.active[g]))) s := by
  have below : g.number < 256 := by unfold GradeIx.number; omega
  simp only [getGrade, data, decodeGetGrade_enc staged g.number below]
  rw [dif_pos (by unfold GradeIx.number; omega)]
  rfl

theorem decodeText_of_long {x : Text} (long : 16 < x.length) (h : x.length < 256) : decodeText 16 (encText x) = none := by
  simp only [decodeText, takeText_of_long long h]

theorem getTally_of_noText {id : Text} (hid : id.length < 256)
    (bad : id = [] ∨ 16 < id.length ∨ ∃ b ∈ id, printable b = false) (data : r.data = encText id) :
    getTally r s = answer r .badParam [] s := by
  by_cases long : 16 < id.length
  · simp only [getTally, data, decodeText_of_long long hid]
  · simp only [getTally, data, decodeText_enc 16 id (not_lt.mp long) hid]
    refine if_pos (bad.imp (fun empty => by rw [empty]; rfl) fun h => ?_)
    exact holdsUnprintable_iff.mpr (h.resolve_left long)

/-- The entry of a seller in the bucket, with its way. -/
def State.foundTally (s : State) (id : Text) : Option (Fin 4 × TallyEntry) :=
  (s.tallyWay id).bind fun w => (s.tally[tallyBucket id][w]).map fun e => (w, e)

theorem foundTally_eq_some_iff {id : Text} {w : Fin 4} {e : TallyEntry} :
    s.foundTally id = some (w, e) ↔ s.tallyWay id = some w ∧ s.tally[tallyBucket id][w] = some e := by
  unfold State.foundTally
  constructor
  · intro found
    obtain ⟨w', way, mapped⟩ := Option.bind_eq_some_iff.mp found
    obtain ⟨e', entry, same⟩ := Option.map_eq_some_iff.mp mapped
    cases same
    exact ⟨way, entry⟩
  · rintro ⟨way, entry⟩
    exact Option.bind_eq_some_iff.mpr ⟨w, way, Option.map_eq_some_iff.mpr ⟨e, entry, rfl⟩⟩

theorem getTally_of_form {id : Text} (least : 1 ≤ id.length) (most : id.length ≤ 16)
    (print : ∀ b ∈ id, printable b = true) (data : r.data = encText id) :
    getTally r s = answer r .ok
      (encText (id.map foldUpper) ++ enc1 (tallyBucket (id.map foldUpper)).val ++
        enc1 (s.emptyWays (tallyBucket (id.map foldUpper))) ++ encOpt encTallyEntry (s.foundTally (id.map foldUpper)) ++
        enc5 (s.allowance (id.map foldUpper))) s := by
  have given : ¬ (id.isEmpty ∨ holdsUnprintable id) := by
    rw [holdsUnprintable_eq_false print, List.isEmpty_iff]
    rintro (rfl | h)
    · cases least
    · cases h
  simp only [getTally, data, decodeText_enc 16 id most (by omega)]
  exact if_neg given

/-! ### Jobs, printers and parameters (R145, R150, R182) -/

theorem jobStatus_of_form {n : Nat} (hn : n < 256) (data : r.data = enc1 n) :
    jobStatus r s = onJob r n s fun jn j => answer r .ok (encJob s jn j) s := by
  simp only [jobStatus, data, decodeOne_enc n hn]

section
variable {n ix : Nat} (hn : n < 256) (hix : ix < 256) (data : r.data = enc1 n ++ enc1 ix)
include hn hix data

theorem getParam_of_none (none : paramItem s n ix = none) : getParam r s = answer r .badParam [] s := by
  simp only [getParam, data, decodeTwo_enc n ix hn hix, none]

theorem getParam_of_item {d : List Byte} (item : paramItem s n ix = some d) : getParam r s = answer r .ok d s := by
  simp only [getParam, data, decodeTwo_enc n ix hn hix, item]

end
end

/-- Settles O17: LIST_TICKETS, READ_SCALE and GET_TICKET answer what they read. -/
theorem ticketsAndScalesAreRead : Obligations.TicketsAndScalesAreRead := by
  refine ⟨fun s p tag => ⟨fun first hfirst granted => ?_, fun n outside hn granted => ?_, fun c granted => ?_⟩,
    fun s p tag n part hn hpart granted => ⟨fun range => ?_, fun most unheld => ?_, fun i t most ticket => ⟨?_, ?_⟩⟩⟩
  · have formed : listTickets ⟨p, tag, 0x1A, enc1 first⟩ s = _ := listTickets_of_form hfirst rfl
    split
    · rename_i slot
      exact answers listTickets_served granted (formed.trans (if_pos slot)) rfl rfl
    · rename_i slot
      exact refuses listTickets_served granted (formed.trans (if_neg slot))
  · exact refuses readScale_served granted (readScale_of_outOfRange hn outside rfl)
  · exact answers readScale_served granted (readScale_of_channel rfl) rfl rfl
  · by_cases most : part ≤ 3
    · refine refuses getTicket_served granted ((getTicket_of_form hn hpart rfl most).trans
        (onTicket_of_outOfRange _ _ ?_))
      omega
    · exact refuses getTicket_served granted (getTicket_of_noPart hn hpart rfl (not_le.mp most))
  · exact refuses getTicket_served granted ((getTicket_of_form hn hpart rfl most).trans
      (onTicket_of_noTicket _ _ unheld))
  · have found := (getTicket_of_form hn hpart rfl most).trans
      (onTicket_of_ticketAt (r := ⟨p, tag, 0x19, enc4 n ++ enc1 part⟩) _ ticket)
    rw [countFreeRead_eq] at found
    exact answers getTicket_served granted found rfl rfl
  · exact fun w _ => min_le_right _ _

/-- Settles O18: JOURNAL_PEEK, GET_TOTALS, GET_GRADE and GET_TALLY answer what they read. -/
theorem gradesTalliesAndBooksAreRead : Obligations.GradesTalliesAndBooksAreRead := by
  refine fun s p tag => ⟨fun part hpart granted => ⟨fun above => ?_, fun most empty => ?_, fun head rest most journal => ?_⟩,
    fun g outside hg granted => ?_, fun granted => ?_, fun g granted => ?_,
    fun bank g hbank hg outside granted => ?_, fun staged g granted => ?_,
    fun id hid bad granted => ?_, fun id least most print granted => ?_⟩
  · exact refuses journalPeek_served granted (journalPeek_of_noPart hpart rfl above)
  · exact refuses journalPeek_served granted (journalPeek_of_empty hpart rfl most empty)
  · exact answers journalPeek_served granted (journalPeek_of_head hpart rfl most journal) rfl rfl
  · exact refuses getTotals_served granted (getTotals_of_outOfRange hg outside rfl)
  · exact answers getTotals_served granted (getTotals_of_overall rfl) rfl rfl
  · exact answers getTotals_served granted (getTotals_of_grade rfl) rfl rfl
  · by_cases above : 2 ≤ bank
    · exact refuses getGrade_served granted (getGrade_of_undecoded (decodeGetGrade_of_noBank g above hbank))
    · have flag : enc1 bank = encFlag (decide (bank = 1)) := by
        rcases (by omega : bank = 0 ∨ bank = 1) with rfl | rfl <;> rfl
      rw [flag] at granted
      exact refuses getGrade_served granted
        (getGrade_of_outOfRange (decodeGetGrade_enc _ g hg) (outside.resolve_left above))
  · exact answers getGrade_served granted (getGrade_of_grade rfl) rfl rfl
  · exact refuses getTally_served granted (getTally_of_noText hid bad rfl)
  · obtain ⟨t, next, apart, answered⟩ :=
      answers getTally_served granted (getTally_of_form least most print rfl) rfl rfl
    exact ⟨t, next, apart, _, answered, fun w e => foundTally_eq_some_iff⟩

/-- Settles O19: JOB_STATUS, PRINTER_STATUS and GET_PARAM answer what they read. -/
theorem jobsPrintersAndSettingsAreRead : Obligations.JobsPrintersAndSettingsAreRead := by
  refine fun s p tag => ⟨fun n outside hn granted => ?_, fun n outside hn granted => ?_,
    fun jn granted => ⟨fun free => ?_, fun j job => ?_⟩, fun k granted => ?_,
    fun n ix hn hix granted => ⟨fun none => ?_, fun d item => ?_⟩⟩
  · exact refuses jobStatus_served granted ((jobStatus_of_form hn rfl).trans (onJob_of_outOfRange _ _ outside))
  · exact refuses printerStatus_served granted (onPrinter_of_outOfRange _ hn outside rfl)
  · exact refuses jobStatus_served granted ((jobStatus_of_form (by omega) rfl).trans (onJob_of_free _ _ free))
  · exact answers jobStatus_served granted ((jobStatus_of_form (by omega) rfl).trans (onJob_of_job _ _ job)) rfl rfl
  · exact answers printerStatus_served granted (onPrinter_of_printer _ rfl) rfl rfl
  · exact refuses getParam_served granted (getParam_of_none hn hix rfl none)
  · exact answers getParam_served granted (getParam_of_item hn hix rfl item) rfl rfl

end Sys2Proof.Machine
end

section
/-! SUPPORT. The lines of a ticket (3.6, 4.3 to 4.5): what forms a line, and the requests that form lines anew. -/

namespace Sys2Proof.Machine

theorem deduct_served : ServedBy .deduct 0x15 deduct := fun _ => rfl

theorem reprice_served : ServedBy .reprice 0x2C reprice := fun _ => rfl

/-! ### The stages (R73 to R77) -/

theorem autoDeduction_of_positive {net : Int} (rate : Nat) (positive : 0 < net) :
    (autoDeduction net rate : Int) = (net * rate + 999) / 1000 := by
  rw [autoDeduction, if_pos positive]
  push_cast
  rw [Int.toNat_of_nonneg positive.le]

theorem autoDeduction_of_nonpositive {net : Int} (rate : Nat) (below : net ≤ 0) : autoDeduction net rate = 0 :=
  if_neg (not_lt.mpr below)

/-- The payable weight and its flag where the line is not NEGATIVE. -/
theorem payable_cases {negative : Bool} (net : Int) (da dm : Nat) (positive : negative = false) :
    (net - da - dm < 0 → payableWeight negative net da dm = 0 ∧ deductClamped negative net da dm = true) ∧
      (0 ≤ net - da - dm →
        (payableWeight negative net da dm : Int) = net - da - dm ∧ deductClamped negative net da dm = false) := by
  subst positive
  refine ⟨fun short => ⟨?_, ?_⟩, fun enough => ⟨?_, ?_⟩⟩
  · exact Int.toNat_of_nonpos short.le
  · exact decide_eq_true short
  · exact Int.toNat_of_nonneg enough
  · exact decide_eq_false (not_lt.mpr enough)

theorem lineAmount_bounds (w price : Nat) :
    100 * lineAmount w (some price) ≤ w * price ∧ w * price < 100 * (lineAmount w (some price) + 1) := by
  simp only [lineAmount]
  omega

theorem priceAnew_priceAnew (st : Settings) (l : Line) : (l.priceAnew st).priceAnew st = l.priceAnew st := rfl

/-! ### DEDUCT and REPRICE (R59, R60, R79, R80) -/

section
variable {r : Req} {s : State} {i : Slot} {t : Ticket} {n index dm : Nat}

theorem deduct_of_outOfRange (hn : n < 4294967296) (hi : index < 256) (hd : dm < 4294967296)
    (data : r.data = enc4 n ++ enc1 index ++ enc4 dm)
    (outside : n = 0 ∨ 99999999 < n ∨ index = 0 ∨ 8 < index ∨ 999999 < dm) :
    deduct r s = answer r .badParam [] s := by
  simp only [deduct, data, decodeDeduct_enc n index dm hn hi hd]
  split
  · exact onTicket_of_outOfRange _ _ (by omega)
  · rfl

theorem deduct_of_form (hn : n < 4294967296) (hi : index < 256) (hd : dm < 4294967296)
    (data : r.data = enc4 n ++ enc1 index ++ enc4 dm) (least : 1 ≤ index) (most : index ≤ 8) (bound : dm ≤ 999999) :
    deduct r s = onTicket r n s fun i t => deductOn r i t index dm s := by
  simp only [deduct, data, decodeDeduct_enc n index dm hn hi hd]
  exact if_pos ⟨least, most, bound⟩

theorem deductOn_busy (h : t.state = .atWindow ∨ t.marker ≠ none) :
    deductOn r i t index dm s = answer r .ticketBusy [] s := by
  rw [deductOn, if_pos (by simpa only [Option.isSome_iff_ne_none] using h)]

theorem reprice_of_form (hn : n < 4294967296) (data : r.data = enc4 n) :
    reprice r s = onTicket r n s fun i t => repriceOn r i t s := by
  simp only [reprice, data, decodeNumber_enc n hn]

theorem repriceOn_busy (h : t.state = .atWindow ∨ t.marker ≠ none) :
    repriceOn r i t s = answer r .ticketBusy [] s := by
  rw [repriceOn, if_pos (by simpa only [Option.isSome_iff_ne_none] using h)]

theorem deduct_lines {l : Line} (line : t.lines[index - 1]? = some l) :
    t.lines.modify (index - 1) (Line.deduct dm) = t.lines.set (index - 1) (l.deduct dm) := by
  rw [List.modify_eq_set_getElem?, line]
  rfl

section
variable (away : t.state ≠ .atWindow) (unmarked : t.marker = none)
include away unmarked

theorem not_busy_lines : ¬ (t.state = .atWindow ∨ t.marker.isSome) := by
  simp [away, unmarked]

theorem deductOn_noLine (short : t.lines.length < index) : deductOn r i t index dm s = answer r .badParam [] s := by
  have absent : t.lines[index - 1]? = none := List.getElem?_eq_none (by omega)
  rw [deductOn, if_neg (not_busy_lines away unmarked), absent]

theorem deductOn_accepted {l : Line} (line : t.lines[index - 1]? = some l) :
    deductOn r i t index dm s = answer r .ok
      ((l.deduct dm).enc ++ enc5 (t.deduct (index - 1) dm).total ++ encFlag (t.deduct (index - 1) dm).totalClamped)
      (s.setSlot i (some (t.deduct (index - 1) dm))) := by
  rw [deductOn, if_neg (not_busy_lines away unmarked), line]

theorem repriceOn_accepted (number : t.number = some n) : repriceOn r i t s = answer r .ok
    (enc4 n ++ enc1 t.lines.length ++ enc1 (t.reprice s.settings).unpricedCount ++
      enc2 s.settings.epoch ++ enc5 (t.reprice s.settings).total ++ encFlag (t.reprice s.settings).totalClamped)
    (s.setSlot i (some (t.reprice s.settings))) := by
  have count : (t.reprice s.settings).lines.length = t.lines.length := List.length_map ..
  rw [repriceOn, if_neg (not_busy_lines away unmarked), number, ← count]
  rfl

end
end

/-- Settles O24: lines are priced by the stages of 4.3 and 4.4, and DEDUCT and REPRICE form them, and the total, anew. -/
theorem linesAreFormedAndReformed : Obligations.LinesAreFormedAndReformed := by
  refine ⟨⟨fun st g net => ⟨rfl, rfl, rfl, decide_eq_true_iff, rfl⟩, fun st l => ?_⟩, ?_, rfl, ?_⟩
  · refine ⟨⟨rfl, rfl, rfl, rfl⟩, rfl, rfl, rfl, rfl, autoDeduction_of_positive _, autoDeduction_of_nonpositive _,
      fun negative => ⟨?_, ?_⟩, fun positive => ?_, fun unpriced => ?_, fun price priced => ?_⟩
    · exact if_pos negative
    · exact congrArg (fun b => !b && _) negative
    · exact payable_cases _ _ _ positive
    · exact congrArg (lineAmount _) unpriced
    · have amount : (l.priceAnew st).amount = lineAmount (l.priceAnew st).payable (some price) :=
        congrArg (lineAmount _) priced
      rw [amount]
      exact lineAmount_bounds _ _
  · intro s p tag n index dm hn hindex hdm granted
    refine ⟨fun outside => refuses deduct_served granted (deduct_of_outOfRange hn hindex hdm rfl outside),
      fun least most bound => ?_⟩
    have formed : deduct ⟨p, tag, 0x15, enc4 n ++ enc1 index ++ enc4 dm⟩ s = _ :=
      deduct_of_form hn hindex hdm rfl least most bound
    refine ⟨fun unheld => refuses deduct_served granted (formed.trans (onTicket_of_noTicket _ _ unheld)),
      fun i t ticket => ?_⟩
    have found := formed.trans (onTicket_of_ticketAt _ _ ticket)
    refine ⟨fun busy => refuses deduct_served granted (found.trans (deductOn_busy busy)),
      fun away unmarked => ⟨fun short => ?_, fun l line => ?_⟩⟩
    · exact refuses deduct_served granted (found.trans (deductOn_noLine away unmarked short))
    · have accepted := found.trans (deductOn_accepted away unmarked line)
      rw [Ticket.deduct, deduct_lines line] at accepted
      exact answers deduct_served granted accepted rfl rfl
  · intro s p tag n hn granted
    have formed : reprice ⟨p, tag, 0x2C, enc4 n⟩ s = _ := reprice_of_form hn rfl
    refine ⟨fun range => refuses reprice_served granted (formed.trans (onTicket_of_outOfRange _ _ range)),
      fun unheld => refuses reprice_served granted (formed.trans (onTicket_of_noTicket _ _ unheld)),
      fun i t ticket => ?_⟩
    have found := formed.trans (onTicket_of_ticketAt _ _ ticket)
    obtain ⟨-, -, -, number, -⟩ := ticket
    exact ⟨fun busy => refuses reprice_served granted (found.trans (repriceOn_busy busy)),
      fun away unmarked =>
        answers reprice_served granted (found.trans (repriceOn_accepted away unmarked number)) rfl rfl⟩

end Sys2Proof.Machine
end

section
/-! SUPPORT. The figures of chapters 5 and 6: cash, tally lookup, the check value of an ID, saturating totals. -/

namespace Sys2Proof.Machine

/-! ### The cash figure (R82) -/

theorem cashAmount_add_cashRounding (total step : Nat) : cashAmount total step + cashRounding total step = total :=
  Nat.sub_add_cancel (Nat.mod_le total step)

theorem dvd_cashAmount (total step : Nat) : step ∣ cashAmount total step := Nat.dvd_sub_mod total

theorem le_cashAmount {total step k : Nat} (multiple : step ∣ k) (most : k ≤ total) : k ≤ cashAmount total step := by
  obtain ⟨m, rfl⟩ := multiple
  have amount : cashAmount total step = step * (total / step) := by
    rw [cashAmount, cashRounding, Nat.sub_eq_iff_eq_add (Nat.mod_le _ _), Nat.div_add_mod]
  rw [amount]
  rcases Nat.eq_zero_or_pos step with rfl | positive
  · simp
  · exact Nat.mul_le_mul_left step ((Nat.le_div_iff_mul_le positive).mpr (by rwa [Nat.mul_comm]))

/-! ### The tally lookup (R83 to R85) -/

section
variable {s : State} {id : Text}

theorem tallyWay_of_entry (law : TallyLaw s) {w : Fin 4} {e : TallyEntry}
    (entry : s.tally[tallyBucket id][w] = some e) (seller : e.seller = id) : s.tallyWay id = some w := by
  cases found : s.tallyWay id with
  | none => exact absurd seller (tallyWay_none found w e entry)
  | some v =>
    obtain ⟨e', entry', seller'⟩ := tallyWay_some found
    rw [(law.2 _ _ _ _ _ _ entry' entry (seller'.trans seller.symm)).2]

theorem tallyOf_of_way {w : Fin 4} {e : TallyEntry} (way : s.tallyWay id = some w)
    (entry : s.tally[tallyBucket id][w] = some e) : s.tallyOf id = e.cashToday := by
  rw [State.tallyOf, State.tallyEntry, way, Option.bind_some, entry, Option.map_some, Option.getD_some]

theorem tallyOf_of_noWay (way : s.tallyWay id = none) : s.tallyOf id = 0 := by
  rw [State.tallyOf, State.tallyEntry, way, Option.bind_none, Option.map_none, Option.getD_none]

theorem tallyWay_eq_none (absent : ∀ (b : Fin 64) (w : Fin 4) (e : TallyEntry), s.tally[b][w] = some e → e.seller ≠ id) :
    s.tallyWay id = none := by
  cases found : s.tallyWay id with
  | none => rfl
  | some w =>
    obtain ⟨e, entry, seller⟩ := tallyWay_some found
    exact absurd seller (absent _ w e entry)

theorem emptyWay_eq_some_iff {w : Fin 4} : s.emptyWay id = some w ↔
    s.tally[tallyBucket id][w] = none ∧ ∀ v, v < w → s.tally[tallyBucket id][v] ≠ none := by
  constructor
  · intro found
    obtain ⟨empty, lowest⟩ := find?_finRange_eq_some found
    refine ⟨Option.isNone_iff_eq_none.mp empty, fun v lower full => ?_⟩
    exact Bool.false_ne_true ((lowest v lower).symm.trans (Option.isNone_iff_eq_none.mpr full))
  · rintro ⟨empty, lowest⟩
    cases found : s.emptyWay id with
    | none =>
      have full := List.find?_eq_none.mp found w (List.mem_finRange w)
      exact absurd (Option.isNone_iff_eq_none.mpr empty) full
    | some v =>
      obtain ⟨emptyV, lowestV⟩ := find?_finRange_eq_some found
      rcases lt_trichotomy v w with lower | rfl | higher
      · exact absurd (Option.isNone_iff_eq_none.mp emptyV) (lowest v lower)
      · rfl
      · exact absurd (Option.isNone_iff_eq_none.mpr empty) (ne_true_of_eq_false (lowestV w higher))

end

/-! ### The check value (R84) -/

/-- One bit of an ID on the check value, as a number. -/
def checkBit (v : Nat) (bit : Bool) : Nat :=
  if decide (32768 ≤ v) = bit then 2 * v % 65536 else (2 * v % 65536) ^^^ 0x1021

/-- The bits of a character, from the most significant down. -/
def bitsDown (b : Byte) : List Bool := (List.range 8).map fun k => b.getLsbD (7 - k)

theorem hashBit_toNat (v : BitVec 16) (bit : Bool) : (hashBit v bit).toNat = checkBit v.toNat bit := by
  have top : v.msb = decide (32768 ≤ v.toNat) := BitVec.msb_eq_decide v
  have doubled : (v <<< 1).toNat = 2 * v.toNat % 65536 := by
    rw [BitVec.toNat_shiftLeft, Nat.shiftLeft_eq, Nat.mul_comm]
  simp only [hashBit, checkBit, top, bne_iff_ne, ne_eq, ite_not]
  split
  · exact doubled
  · rw [BitVec.toNat_xor, doubled]
    rfl

theorem tallyHash_eq_foldl (id : Text) : tallyHash id = (id.flatMap bitsDown).foldl hashBit 0xFFFF := by
  rw [List.foldl_flatMap]
  rfl

theorem tallyHash_toNat (id : Text) : (tallyHash id).toNat = (id.flatMap bitsDown).foldl checkBit 0xFFFF := by
  rw [tallyHash_eq_foldl]
  exact (List.foldl_hom BitVec.toNat fun v bit => (hashBit_toNat v bit).symm).symm

/-! ### Saturating totals (R109, R110) -/

theorem Total.add_cases (max n : Nat) (t : Total) :
    (t.mark = true → t.add max n = t) ∧
      (t.mark = false → t.value + n ≤ max → t.add max n = ⟨t.value + n, false⟩) ∧
      (t.mark = false → max < t.value + n → t.add max n = ⟨max, true⟩) := by
  refine ⟨fun marked => if_pos marked, fun free room => ?_, fun free above => ?_⟩ <;>
    rw [Total.add, if_neg (ne_true_of_eq_false free)]
  · rw [if_pos room, ← free]
  · rw [if_neg (not_le.mpr above)]

theorem addLine_grade (t : Totals) (l : Line) (g : GradeIx) : (t.addLine l).grades[g] =
    if l.grade = g then
      { weight := (t.grades[g]).weight.add Config.maxSum l.payable
        amount := (t.grades[g]).amount.add Config.maxSum l.amount
        count := (t.grades[g]).count.add Config.maxCount 1 }
    else t.grades[g] := by
  rw [Totals.addLine, getElem_set_fin]
  split
  · rename_i same
    subst same
    rfl
  · rfl

theorem addLines_overall (ls : List Line) (t : Totals) :
    let u := ls.foldl Totals.addLine t
    u.paid = t.paid ∧ u.voided = t.voided ∧ u.cash = t.cash ∧ u.nonCash = t.nonCash ∧ u.rounding = t.rounding := by
  induction ls generalizing t with
  | nil => exact ⟨rfl, rfl, rfl, rfl, rfl⟩
  | cons l ls ih => exact ih (t.addLine l)

/-- Each line adds to the totals of its own grade. -/
theorem addLines_grade (ls : List Line) (t : Totals) (g : GradeIx) :
    let u := ls.foldl Totals.addLine t
    (u.grades[g]).weight = (ls.filter fun l => l.grade = g).foldl
        (fun x l => x.add Config.maxSum l.payable) (t.grades[g]).weight ∧
      (u.grades[g]).amount = (ls.filter fun l => l.grade = g).foldl
        (fun x l => x.add Config.maxSum l.amount) (t.grades[g]).amount ∧
      (u.grades[g]).count = (ls.filter fun l => l.grade = g).foldl
        (fun x _ => x.add Config.maxCount 1) (t.grades[g]).count := by
  induction ls generalizing t with
  | nil => exact ⟨rfl, rfl, rfl⟩
  | cons l ls ih =>
    have rest := ih (t.addLine l)
    by_cases same : l.grade = g
    · have kept : (l :: ls).filter (fun l => decide (l.grade = g)) = l :: ls.filter fun l => decide (l.grade = g) :=
        List.filter_cons_of_pos (decide_eq_true same)
      rw [kept]
      rw [addLine_grade, if_pos same] at rest
      exact rest
    · have left : (l :: ls).filter (fun l => decide (l.grade = g)) = ls.filter fun l => decide (l.grade = g) :=
        List.filter_cons_of_neg (by simpa using same)
      rw [left]
      rw [addLine_grade, if_neg same] at rest
      exact rest

/-- The totals of a payment before its lines. -/
def Totals.paidWith (t : Totals) (m : Method) (paid rounding : Nat) : Totals :=
  { t with
    paid := t.paid.add Config.maxCount 1, rounding := t.rounding.add Config.maxSum rounding
    cash := if m = .cash then t.cash.add Config.maxSum paid else t.cash
    nonCash := if m = .cash then t.nonCash else t.nonCash.add Config.maxSum paid }

theorem addPayment_eq (t : Totals) (m : Method) (paid rounding : Nat) (ls : List Line) :
    t.addPayment m paid rounding ls = ls.foldl Totals.addLine (t.paidWith m paid rounding) := by
  cases m <;> rfl

/-- Settles O34: the cash figure, the lookup in the tally, the check value bit by bit, and the totals of a payment. -/
theorem cashTallyAndTotalsAddUp : Obligations.CashTallyAndTotalsAddUp := by
  refine ⟨fun total step positive => ⟨⟨rfl, ?_, ?_, ?_, ?_⟩, rfl, rfl, rfl⟩, fun s id law => ⟨?_, ?_, ?_⟩,
    ⟨fun id => ?_, by decide +kernel, by decide +kernel⟩, Total.add_cases, fun t m paid rounding ls => ?_⟩
  · exact cashAmount_add_cashRounding total step
  · exact dvd_cashAmount total step
  · exact Nat.mod_lt total positive
  · exact fun k => le_cashAmount
  · intro b w e entry seller
    have bucket : b = tallyBucket id := by rw [← seller, law.1 b w e entry]
    subst bucket
    have way := tallyWay_of_entry law entry seller
    exact ⟨rfl, way, tallyOf_of_way way entry⟩
  · intro absent
    have way := tallyWay_eq_none absent
    exact ⟨way, tallyOf_of_noWay way⟩
  · exact fun w => emptyWay_eq_some_iff
  · have value := tallyHash_toNat id
    exact ⟨value, congrArg (· / 1024) value⟩
  · rw [addPayment_eq]
    obtain ⟨itsPaid, voided, cash, nonCash, itsRounding⟩ := addLines_overall ls (t.paidWith m paid rounding)
    exact ⟨itsPaid, voided, itsRounding, cash, nonCash, addLines_grade ls (t.paidWith m paid rounding)⟩

end Sys2Proof.Machine
end

section
/-! SUPPORT. The parameter table (11.6): the numbers of its rows, the values each takes and the value it is set to. -/

namespace Sys2Proof.Machine

/-! ### The fitted value (R181) -/

theorem clamp_cases {lo hi : Nat} (n : Nat) (order : lo ≤ hi) :
    (lo ≤ n → n ≤ hi → clamp lo hi n = n) ∧ (n < lo → clamp lo hi n = lo) ∧ (hi < n → clamp lo hi n = hi) := by
  unfold clamp
  refine ⟨fun least most => ?_, fun below => if_pos below, fun above => ?_⟩
  · rw [if_neg (not_lt.mpr least), if_neg (not_lt.mpr most)]
  · rw [if_neg (not_lt.mpr (order.trans above.le)), if_pos above]

theorem lowerTo_isGreatest {allowed : List Nat} {n : Nat} (one : 1 ∈ allowed) (least : 1 ≤ n) :
    IsGreatest {k | k ∈ allowed ∧ k ≤ n} (lowerTo allowed n) := by
  have kept : 1 ∈ allowed.filter (· ≤ n) := List.mem_filter.mpr ⟨one, decide_eq_true least⟩
  obtain ⟨member, below⟩ := List.mem_filter.mp (foldl_max_mem (List.ne_nil_of_mem kept))
  refine ⟨⟨member, of_decide_eq_true below⟩, fun k ⟨listed, most⟩ => ?_⟩
  exact (le_foldl_max _ 0).2 k (List.mem_filter.mpr ⟨listed, decide_eq_true most⟩)

theorem multipleOfTen_isGreatest (m : Nat) : IsGreatest {k | 10 ∣ k ∧ k ≤ m} (m / 10 * 10) := by
  refine ⟨⟨Nat.dvd_mul_left 10 _, Nat.div_mul_le_self m 10⟩, fun k ⟨multiple, most⟩ => ?_⟩
  omega

/-! ### The rows of the table (R181, 11.6) -/

/-- The parameters that every channel has. -/
def channelRows : List (Nat × ChannelItem) :=
  [(1, .capacity), (2, .division), (3, .motionBand), (4, .stableCount), (5, .captureWindow), (6, .minimum),
    (7, .freshness), (8, .errorThreshold)]

/-- The numbers of index 0. -/
def numericRows : List (Nat × NumericItem) :=
  [(16, .holdTime), (17, .cashStep), (18, .cashLimit), (19, .anonThreshold), (20, .receiptCopies), (32, .stallTime),
    (33, .inhibitLimit), (34, .refusalLimit), (35, .drawerOn), (36, .drawerOff), (37, .drawerCount)]

/-- Every parameter that may be set, with its number and index. -/
def paramRows : List (Nat × Nat × Param) :=
  (channelRows.flatMap fun x => (List.finRange 3).map fun c => (x.1, c.val, Param.channel x.2 c)) ++
    (numericRows.map fun x => (x.1, 0, Param.numeric x.2)) ++
    ((List.finRange 4).map fun i => (24, i.val + 1, Param.header i)) ++
    ((List.finRange 2).map fun i => (25, i.val + 1, Param.footer i)) ++
    ((List.finRange 3).map fun k => (38, k.val, Param.enable k)) ++
    ((List.finRange 4).map fun k => (40, k.val, Param.role k))

theorem channelItemOf_mem {n : Nat} {item : ChannelItem} (h : channelItemOf n = some item) :
    (n, item) ∈ channelRows := by
  unfold channelItemOf at h
  split at h <;> cases h <;> decide

theorem numericItemOf_mem {n : Nat} {item : NumericItem} (h : numericItemOf n = some item) :
    (n, item) ∈ numericRows := by
  unfold numericItemOf at h
  split at h <;> cases h <;> decide

theorem paramOf_mem {n ix : Nat} {q : Param} (h : paramOf n ix = some q) : (n, ix, q) ∈ paramRows := by
  simp only [paramRows, List.mem_append, or_assoc]
  unfold paramOf at h
  split at h
  · rename_i item channel
    split at h <;> cases h
    rename_i below
    exact .inl (List.mem_flatMap.mpr ⟨(n, item), channelItemOf_mem channel,
      List.mem_map.mpr ⟨⟨ix, below⟩, List.mem_finRange _, rfl⟩⟩)
  · rename_i item _ numeric
    split at h <;> cases h
    rename_i zero
    exact .inr (.inl (List.mem_map.mpr ⟨(n, item), numericItemOf_mem numeric, by rw [zero]⟩))
  · split at h
    · split at h <;> cases h
      rename_i range
      exact .inr (.inr (.inl (List.mem_map.mpr ⟨⟨ix - 1, by omega⟩, List.mem_finRange _,
        Prod.ext rfl (Prod.ext (Nat.sub_add_cancel range.1) rfl)⟩)))
    · split at h <;> cases h
      rename_i range
      exact .inr (.inr (.inr (.inl (List.mem_map.mpr ⟨⟨ix - 1, by omega⟩, List.mem_finRange _,
        Prod.ext rfl (Prod.ext (Nat.sub_add_cancel range.1) rfl)⟩))))
    · split at h <;> cases h
      rename_i below
      exact .inr (.inr (.inr (.inr (.inl (List.mem_map.mpr ⟨⟨ix, below⟩, List.mem_finRange _, rfl⟩)))))
    · split at h <;> cases h
      rename_i below
      exact .inr (.inr (.inr (.inr (.inr (List.mem_map.mpr ⟨⟨ix, below⟩, List.mem_finRange _, rfl⟩)))))
    · cases h

theorem paramOf_iff (n ix : Nat) (q : Param) : paramOf n ix = some q ↔ (n, ix, q) ∈ paramRows := by
  have named : ∀ x ∈ paramRows, paramOf x.1 x.2.1 = some x.2.2 := by decide
  exact ⟨paramOf_mem, fun member => named _ member⟩

/-! ### The form of a value (R181, assumptions 13 and 14) -/

theorem ofNat_eq_of_toNat {b : Byte} {n : Nat} (h : n % 256 = b.toNat) : BitVec.ofNat 8 n = b :=
  BitVec.eq_of_toNat_eq (by rw [toNat_ofNat8, h])

theorem decodeNumeric_eq_some_iff {d : List Byte} {n : Nat} :
    decodeNumeric d = some n ↔ d = enc5 n ∧ n < 2 ^ 40 := by
  constructor
  · intro decoded
    unfold decodeNumeric at decoded
    split at decoded
    · rename_i a b c d e
      obtain rfl := Option.some.inj decoded
      have ha := a.isLt
      have hb := b.isLt
      have hc := c.isLt
      have hd := d.isLt
      have he := e.isLt
      simp only [enc5_eq, fromBytes, List.foldl]
      refine ⟨?_, by omega⟩
      rw [ofNat_eq_of_toNat (b := a) (by omega), ofNat_eq_of_toNat (b := b) (by omega),
        ofNat_eq_of_toNat (b := c) (by omega), ofNat_eq_of_toNat (b := d) (by omega),
        ofNat_eq_of_toNat (b := e) (by omega)]
    · cases decoded
  · rintro ⟨rfl, bound⟩
    exact decodeNumeric_enc n (by omega)

/-- What is taken of a text spells it and what follows. -/
theorem takeText_eq_some {max : Nat} {d t rest : List Byte} (h : takeText max d = some (t, rest)) :
    d = encText t ++ rest ∧ t.length ≤ max := by
  unfold takeText at h
  split at h
  · cases h
  · rename_i n tail
    split at h <;> cases h
    rename_i bound
    have length : (tail.take n.toNat).length = n.toNat := by rw [List.length_take, min_eq_left bound.2]
    refine ⟨?_, length.le.trans bound.1⟩
    simp [encText, enc1_eq, length]

theorem decodeText_eq_some {max : Nat} {d t : List Byte} (h : decodeText max d = some t) :
    d = encText t ∧ t.length ≤ max := by
  unfold decodeText at h
  split at h
  · rename_i x taken
    obtain rfl := Option.some.inj h
    obtain ⟨spelled, most⟩ := takeText_eq_some taken
    exact ⟨spelled.trans (List.append_nil _), most⟩
  · cases h

theorem decodeOptText_eq_some_iff {d : List Byte} {t : Option Text} :
    decodeOptText d = some t ↔ d = encOpt encText t ∧ ∀ x, t = some x → x.length ≤ 32 := by
  constructor
  · intro decoded
    unfold decodeOptText at decoded
    split at decoded
    · obtain rfl := Option.some.inj decoded
      exact ⟨rfl, nofun⟩
    · rename_i rest
      obtain ⟨x, taken, rfl⟩ := Option.map_eq_some_iff.mp decoded
      obtain ⟨rfl, most⟩ := decodeText_eq_some taken
      exact ⟨rfl, fun y same => Option.some.inj same ▸ most⟩
    · cases decoded
  · rintro ⟨rfl, most⟩
    exact decodeOptText_enc t most

theorem textAllowed_eq (t : Option Text) :
    textAllowed t = t.all fun y => decide (1 ≤ y.length ∧ y.length ≤ 32) && y.all printable := by
  cases t with
  | none => rfl
  | some y =>
    have print : (!holdsUnprintable y) = y.all printable := by
      simp [holdsUnprintable, List.not_any_eq_all_not]
    simp only [textAllowed, print, Option.all_some, Bool.decide_and]

theorem decEnable_eq_some_iff {b : Byte} {x : Bool} : decEnable b = some x ↔ [b] = encEnable x := by
  revert b x
  decide

theorem decRole_eq_some_iff {b : Byte} {x : Role} : decRole b = some x ↔ [b] = encRole x := by
  revert b
  cases x <;> decide

/-- The values a parameter takes: those of its type, a text within its bounds. -/
inductive Param.Takes : Param → ParamValue → Prop
  | channel (item : ChannelItem) (c : Chan) {n : Nat} : n < 2 ^ 40 → Takes (.channel item c) (.number n)
  | numeric (item : NumericItem) {n : Nat} : n < 2 ^ 40 → Takes (.numeric item) (.number n)
  | header (i : Fin 4) {t : Option Text} : textAllowed t = true → Takes (.header i) (.text t)
  | footer (i : Fin 2) {t : Option Text} : textAllowed t = true → Takes (.footer i) (.text t)
  | enable (k : Printer) (b : Bool) : Takes (.enable k) (.enable b)
  | role (k : Port) (x : Role) : Takes (.role k) (.role x)

theorem Param.takes_iff (q : Param) (v : ParamValue) : q.Takes v ↔
    match q, v with
    | .channel .., .number n => n < 2 ^ 40
    | .numeric _, .number n => n < 2 ^ 40
    | .header _, .text x => x.all (fun y => decide (1 ≤ y.length ∧ y.length ≤ 32) && y.all printable) = true
    | .footer _, .text x => x.all (fun y => decide (1 ≤ y.length ∧ y.length ≤ 32) && y.all printable) = true
    | .enable _, .enable _ => True
    | .role _, .role _ => True
    | _, _ => False := by
  constructor
  · intro taken
    cases taken with
    | channel item c bound => exact bound
    | numeric item bound => exact bound
    | header i allowed => exact (textAllowed_eq _).symm.trans allowed
    | footer i allowed => exact (textAllowed_eq _).symm.trans allowed
    | enable k b => trivial
    | role k x => trivial
  · intro value
    cases q with
    | channel item c =>
      cases v with
      | number n => exact .channel item c value
      | text | enable | role => exact value.elim
    | numeric item =>
      cases v with
      | number n => exact .numeric item value
      | text | enable | role => exact value.elim
    | header i =>
      cases v with
      | text t => exact .header i ((textAllowed_eq t).trans value)
      | number | enable | role => exact value.elim
    | footer i =>
      cases v with
      | text t => exact .footer i ((textAllowed_eq t).trans value)
      | number | enable | role => exact value.elim
    | enable k =>
      cases v with
      | enable b => exact .enable k b
      | number | text | role => exact value.elim
    | role k =>
      cases v with
      | role x => exact .role k x
      | number | text | enable => exact value.elim

/-- A number of the table decodes from the five bytes that spell it. -/
theorem decode_number_some {d : List Byte} {v : ParamValue} (h : (decodeNumeric d).map ParamValue.number = some v) :
    ∃ n, v = .number n ∧ d = enc5 n ∧ n < 2 ^ 40 := by
  obtain ⟨n, decoded, rfl⟩ := Option.map_eq_some_iff.mp h
  exact ⟨n, rfl, decodeNumeric_eq_some_iff.mp decoded⟩

theorem decode_text_some {d : List Byte} {v : ParamValue}
    (h : ((decodeOptText d).bind fun t => if textAllowed t then some (ParamValue.text t) else none) = some v) :
    ∃ t, v = .text t ∧ d = encOpt encText t ∧ textAllowed t = true := by
  obtain ⟨t, decoded, kept⟩ := Option.bind_eq_some_iff.mp h
  split at kept
  · rename_i allowed
    exact ⟨t, (Option.some.inj kept).symm, (decodeOptText_eq_some_iff.mp decoded).1, allowed⟩
  · cases kept

theorem decode_text_enc {t : Option Text} (allowed : textAllowed t = true) :
    ((decodeOptText (encOpt encText t)).bind fun t => if textAllowed t then some (ParamValue.text t) else none) =
      some (.text t) := by
  have short : ∀ x, t = some x → x.length ≤ 32 := by
    rintro x rfl
    simp only [textAllowed, Bool.and_eq_true, decide_eq_true_eq] at allowed
    exact allowed.1.2
  rw [decodeOptText_eq_some_iff.mpr ⟨rfl, short⟩, Option.bind_some, if_pos allowed]

/-- Data that decodes is the encoding of a value that the parameter takes. -/
theorem Param.takes_of_decode {q : Param} {d : List Byte} {v : ParamValue} (h : q.decode d = some v) :
    d = v.enc ∧ q.Takes v := by
  cases q with
  | channel item c =>
    obtain ⟨n, rfl, rfl, bound⟩ := decode_number_some h
    exact ⟨rfl, .channel item c bound⟩
  | numeric item =>
    obtain ⟨n, rfl, rfl, bound⟩ := decode_number_some h
    exact ⟨rfl, .numeric item bound⟩
  | header i =>
    obtain ⟨t, rfl, rfl, allowed⟩ := decode_text_some h
    exact ⟨rfl, .header i allowed⟩
  | footer i =>
    obtain ⟨t, rfl, rfl, allowed⟩ := decode_text_some h
    exact ⟨rfl, .footer i allowed⟩
  | enable k =>
    obtain ⟨b, rfl⟩ : ∃ b, d = [b] := by
      match d, h with
      | [b], _ => exact ⟨b, rfl⟩
    obtain ⟨x, decoded, rfl⟩ := Option.map_eq_some_iff.mp h
    exact ⟨decEnable_eq_some_iff.mp decoded, .enable k x⟩
  | role k =>
    obtain ⟨b, rfl⟩ : ∃ b, d = [b] := by
      match d, h with
      | [b], _ => exact ⟨b, rfl⟩
    obtain ⟨x, decoded, rfl⟩ := Option.map_eq_some_iff.mp h
    exact ⟨decRole_eq_some_iff.mp decoded, .role k x⟩

theorem Param.Takes.decode_enc {q : Param} {v : ParamValue} (h : q.Takes v) : q.decode v.enc = some v := by
  cases h with
  | channel item c bound => exact congrArg (Option.map ParamValue.number) (decodeNumeric_eq_some_iff.mpr ⟨rfl, bound⟩)
  | numeric item bound => exact congrArg (Option.map ParamValue.number) (decodeNumeric_eq_some_iff.mpr ⟨rfl, bound⟩)
  | header i allowed => exact decode_text_enc allowed
  | footer i allowed => exact decode_text_enc allowed
  | enable k b => cases b <;> rfl
  | role k x => cases x <;> rfl

/-- Data decodes to the value that it spells, if the parameter takes that. -/
theorem Param.decode_eq_some_iff {q : Param} {d : List Byte} {v : ParamValue} :
    q.decode d = some v ↔ d = v.enc ∧ q.Takes v := by
  refine ⟨Param.takes_of_decode, ?_⟩
  rintro ⟨rfl, taken⟩
  exact taken.decode_enc

end Sys2Proof.Machine
end

section
/-! SUPPORT. The working settings read and written by parameter (11.1, 11.6), and SET_PARAM. -/

namespace Sys2Proof.Machine

theorem setParam_served : ServedBy .setParam 0x50 setParam := fun _ => rfl

/-! ### One item of the settings (R181, R182) -/

theorem getChannelItem_put (st : ChannelSettings) (n : Nat) (item item' : ChannelItem) :
    getChannelItem (putChannelItem st n item) item' = if item' = item then n else getChannelItem st item' := by
  cases item <;> cases item' <;> rfl

theorem getNumericItem_put (st : Settings) (n : Nat) (item item' : NumericItem) :
    getNumericItem (putNumericItem st n item) item' = if item' = item then n else getNumericItem st item' := by
  cases item <;> cases item' <;> rfl

/-- A number of index 0 leaves every table of the settings as it was. -/
theorem putNumericItem_tables (st : Settings) (n : Nat) (item : NumericItem) :
    (putNumericItem st n item).channels = st.channels ∧ (putNumericItem st n item).headers = st.headers ∧
      (putNumericItem st n item).footers = st.footers ∧ (putNumericItem st n item).enables = st.enables ∧
      (putNumericItem st n item).roles = st.roles ∧ (putNumericItem st n item).printersOf = st.printersOf ∧
      (putNumericItem st n item).active = st.active ∧ (putNumericItem st n item).epoch = st.epoch ∧
      (putNumericItem st n item).tares = st.tares := by
  cases item <;> exact ⟨rfl, rfl, rfl, rfl, rfl, rfl, rfl, rfl, rfl⟩

/-- Reading one entry of a table by its parameter after another entry was set. -/
theorem value_set_entry {α : Type} {n : Nat} (v : Vector α n) (x : α) (value : α → ParamValue) (name : Fin n → Param)
    {i k : Fin n} (names : name k = name i ↔ k = i) :
    value (v.set i x)[k] = if name k = name i then value x else value v[k] := by
  rw [getElem_set_fin]
  by_cases same : k = i
  · rw [if_pos same.symm, if_pos (names.mpr same)]
  · rw [if_neg (Ne.symm same), if_neg (mt names.mp same)]

section
variable {st : Settings} {q : Param} {v : ParamValue}

/-- A parameter set reads as what it was set to, and every other as before. -/
theorem getSetting_putSetting (taken : q.Takes v) (q' : Param) :
    getSetting (putSetting st q v) q' = if q' = q then v else getSetting st q' := by
  cases taken with
  | @channel item c n =>
    cases q' with
    | channel item' c' =>
      change ParamValue.number (getChannelItem (st.channels.set c (putChannelItem st.channels[c] n item))[c'] item') = _
      rw [getElem_set_fin]
      by_cases here : c' = c
      · subst here
        rw [if_pos rfl, getChannelItem_put]
        by_cases same : item' = item
        · rw [if_pos same, if_pos (by rw [same])]
        · rw [if_neg same, if_neg (fun h => same (Param.channel.inj h).1)]
          rfl
      · rw [if_neg (Ne.symm here), if_neg (fun h => here (Param.channel.inj h).2)]
        rfl
    | numeric | header | footer | enable | role => rfl
  | @numeric item n =>
    obtain ⟨channels, headers, footers, enables, roles, -⟩ := putNumericItem_tables st n item
    cases q' with
    | numeric item' =>
      change ParamValue.number (getNumericItem (putNumericItem st n item) item') = _
      rw [getNumericItem_put]
      by_cases same : item' = item
      · rw [if_pos same, if_pos (by rw [same])]
      · rw [if_neg same, if_neg (fun h => same (Param.numeric.inj h))]
        rfl
    | channel item' c' => exact congrArg (fun x => ParamValue.number (getChannelItem x[c'] item')) channels
    | header i => exact congrArg (fun x => ParamValue.text x[i]) headers
    | footer i => exact congrArg (fun x => ParamValue.text x[i]) footers
    | enable k => exact congrArg (fun x => ParamValue.enable x[k]) enables
    | role k => exact congrArg (fun x => ParamValue.role x[k]) roles
  | @header i t =>
    cases q' with
    | header k => exact value_set_entry st.headers t .text .header ⟨Param.header.inj, congrArg _⟩
    | channel | numeric | footer | enable | role => rfl
  | @footer i t =>
    cases q' with
    | footer k => exact value_set_entry st.footers t .text .footer ⟨Param.footer.inj, congrArg _⟩
    | channel | numeric | header | enable | role => rfl
  | enable k b =>
    cases q' with
    | enable k' => exact value_set_entry st.enables b .enable .enable ⟨Param.enable.inj, congrArg _⟩
    | channel | numeric | header | footer | role => rfl
  | role k x =>
    cases q' with
    | role k' => exact value_set_entry st.roles x .role .role ⟨Param.role.inj, congrArg _⟩
    | channel | numeric | header | footer | enable => rfl

/-- What SET_PARAM leaves of the settings. -/
theorem putSetting_frame (taken : q.Takes v) :
    (putSetting st q v).printersOf = st.printersOf ∧ (putSetting st q v).active = st.active ∧
      (putSetting st q v).epoch = st.epoch ∧ (putSetting st q v).tares = st.tares := by
  cases taken with
  | @numeric item n =>
    obtain ⟨-, -, -, -, -, others⟩ := putNumericItem_tables st n item
    exact others
  | channel | header | footer | enable | role => exact ⟨rfl, rfl, rfl, rfl⟩

theorem clamp_lt {lo hi n bound : Nat} (order : lo ≤ hi) (most : hi < bound) : clamp lo hi n < bound :=
  lt_of_le_of_lt (clamp_le order) most

theorem ChannelItem.fit_lt (n : Nat) (item : ChannelItem) : item.fit n < 2 ^ 40 := by
  cases item with
  | division =>
    obtain ⟨⟨-, most⟩, -⟩ := lowerTo_isGreatest (allowed := allowedDivisions) (by decide)
      (le_clamp (lo := 1) (hi := 500) (n := n) (by decide))
    exact lt_of_le_of_lt most (clamp_lt (by decide) (by decide))
  | capacity | motionBand | stableCount | captureWindow | minimum | freshness | errorThreshold =>
    exact clamp_lt (by decide) (by decide)

theorem NumericItem.fit_lt (n : Nat) (item : NumericItem) : item.fit n < 2 ^ 40 := by
  have drawer : drawerTime n < 2 ^ 40 :=
    lt_of_le_of_lt (Nat.div_mul_le_self _ 10) (clamp_lt (by decide) (by decide))
  cases item with
  | cashStep =>
    obtain ⟨⟨-, most⟩, -⟩ := lowerTo_isGreatest (allowed := allowedSteps) (by decide)
      (le_clamp (lo := 1) (hi := 100) (n := n) (by decide))
    exact lt_of_le_of_lt most (clamp_lt (by decide) (by decide))
  | drawerOn | drawerOff => exact drawer
  | holdTime | cashLimit | anonThreshold | receiptCopies | stallTime | inhibitLimit | refusalLimit | drawerCount =>
    exact clamp_lt (by decide) (by decide)

theorem Param.Takes.fit (taken : q.Takes v) : q.Takes (q.fit v) := by
  cases taken with
  | channel item c => exact .channel item c (ChannelItem.fit_lt _ item)
  | numeric item => exact .numeric item (NumericItem.fit_lt _ item)
  | header i allowed => exact .header i allowed
  | footer i allowed => exact .footer i allowed
  | enable k b => exact .enable k b
  | role k x => exact .role k x

end

/-! ### The items read only (R182) -/

section
variable {s : State} {n ix : Nat}

theorem paramItem_of_param {q : Param} (h : paramOf n ix = some q) :
    paramItem s n ix = some (getSetting s.settings q).enc := by
  simp only [paramItem, h]

theorem paramItem_of_none (h : paramOf n ix = none) : paramItem s n ix = readOnlyItem s n ix := by
  simp only [paramItem, h]

theorem paramItem_printersOf (k : Port) (entry : Fin 4) : paramItem s 48 (4 * k.val + entry.val) =
    some (encOpt (fun x : Printer => enc1 x.val) s.settings.printersOf[k][entry]) := by
  have quotient : (4 * k.val + entry.val) / 4 = k.val := by omega
  have remainder : (4 * k.val + entry.val) % 4 = entry.val := by omega
  have port : (⟨(4 * k.val + entry.val) / 4, by omega⟩ : Port) = k := Fin.ext quotient
  have place : (⟨(4 * k.val + entry.val) % 4, by omega⟩ : Fin 4) = entry := Fin.ext remainder
  have read : readOnlyItem s 48 (4 * k.val + entry.val) = some (encOpt (fun x : Printer => enc1 x.val)
      (s.printerOf ⟨(4 * k.val + entry.val) / 4, by omega⟩ ⟨(4 * k.val + entry.val) % 4, by omega⟩)) :=
    dif_pos (by omega)
  rw [port, place] at read
  exact (paramItem_of_none rfl).trans read

theorem paramItem_tare (c : Container) :
    paramItem s 49 c.val = some (enc5 (if c = 0 then 0 else s.settings.tares[c])) :=
  (paramItem_of_none rfl).trans (dif_pos c.isLt)

theorem paramItem_counter : paramItem s 56 0 = some (match s.counter with
    | .valid next => [0, 1] ++ enc4 next
    | .invalid => [1, 0]
    | .exhausted => [2, 0]) := by
  change some s.counter.enc = _
  cases s.counter <;> rfl

theorem paramItem_clock : paramItem s 57 0 = some (match s.clock with
    | none => [0]
    | some c => [1] ++ enc4 c.seconds ++ encText c.date) := by
  change some (encOpt ClockReading.enc s.clock) = _
  cases s.clock <;> rfl

theorem paramItem_save : paramItem s 58 0 = some (if s.save = none then [0] else [1]) := by
  change some (encFlag s.save.isSome) = _
  cases s.save <;> rfl

theorem paramItem_of_noRow (unset : paramOf n ix = none) (printers : ¬ (n = 48 ∧ ix < 16)) (tares : ¬ (n = 49 ∧ ix < 16))
    (single : ¬ ((n = 56 ∨ n = 57 ∨ n = 58) ∧ ix = 0)) : paramItem s n ix = none := by
  rw [paramItem_of_none unset]
  unfold readOnlyItem
  split
  · exact dif_neg fun h => printers ⟨rfl, h⟩
  · exact dif_neg fun h => tares ⟨rfl, h⟩
  · exact if_neg fun h => single ⟨.inl rfl, h⟩
  · exact if_neg fun h => single ⟨.inr (.inl rfl), h⟩
  · exact if_neg fun h => single ⟨.inr (.inr rfl), h⟩
  · rfl

end

/-! ### SET_PARAM (R181) -/

section
variable {r : Req} {s : State} {q : Param} {v : ParamValue}

theorem decodeSetParam_of_short {d : List Byte} (short : d.length < 2) : decodeSetParam d = none := by
  match d, short with
  | [], _ => rfl
  | [_], _ => rfl

theorem setParam_of_undecoded (data : decodeSetParam r.data = none) : setParam r s = answer r .badParam [] s := by
  simp only [setParam, data]

theorem decodeSetParam_of_noValue {n ix : Byte} {d : List Byte}
    (unread : ((paramOf n.toNat ix.toNat).bind fun q => q.decode d) = none) :
    decodeSetParam (n :: ix :: d) = none := by
  rw [decodeSetParam]
  cases named : paramOf n.toNat ix.toNat with
  | none => rfl
  | some q =>
    rw [named, Option.bind_some] at unread
    rw [Option.bind_some, unread, Option.map_none]

theorem setParam_of_value {n ix : Byte} (named : paramOf n.toNat ix.toNat = some q) (taken : q.decode v.enc = some v)
    (data : r.data = n :: ix :: v.enc) : setParam r s = setParamTo r q v s := by
  have decoded : decodeSetParam r.data = some (q, v) := by
    rw [data, decodeSetParam, named, Option.bind_some, taken, Option.map_some]
  simp only [setParam, decoded]

theorem hasOffice_eq_false_iff (st : Settings) : hasOffice st = false ↔ ∀ k : Port, st.roles[k] ≠ .office := by
  rw [hasOffice, Bool.eq_false_iff, ne_eq, List.contains_iff_mem, Vector.mem_toList_iff, Vector.mem_iff_getElem]
  exact ⟨fun none k office => none ⟨k.val, k.isLt, office⟩, fun none ⟨k, below, office⟩ => none ⟨k, below⟩ office⟩

theorem setParamTo_of_noOffice (none : ∀ k : Port, (putSetting s.settings q (q.fit v)).roles[k] ≠ .office) :
    setParamTo r q v s = answer r .badParam [] s := by
  rw [setParamTo, if_neg (ne_true_of_eq_false ((hasOffice_eq_false_iff _).mpr none))]

section
variable (office : ¬ ∀ k : Port, (putSetting s.settings q (q.fit v)).roles[k] ≠ .office)
include office

theorem setParamTo_of_saving (saving : s.save ≠ none) : setParamTo r q v s = answer r .settingsBusy [] s := by
  have some := (Bool.not_eq_false _).mp (mt (hasOffice_eq_false_iff _).mp office)
  rw [setParamTo, if_pos some, if_pos (Option.isSome_iff_ne_none.mpr saving)]

theorem setParamTo_of_free (free : s.save = none) : setParamTo r q v s =
    answer r (if q.fit v = v then OutcomeCode.ok else OutcomeCode.clamped) (q.fit v).enc (applyParam q (q.fit v) s) := by
  have some := (Bool.not_eq_false _).mp (mt (hasOffice_eq_false_iff _).mp office)
  rw [setParamTo, if_pos some, if_neg (by simp [free])]

end

/-- The state with a parameter set, before an enable reaches its engine. -/
def State.withParam (s : State) (q : Param) (v : ParamValue) : State :=
  { s with settings := putSetting s.settings q v }

theorem reachEngine_actsOnSpool (q : Param) : ActsOnSpool (reachEngine q) := by
  cases q with
  | enable k =>
    intro u s same
    have enables : (withSpool u s).settings.enables[k] = s.settings.enables[k] := congrArg (·.enables[k]) same
    have engine : (withSpool u s).printers[k] = s.printers[k] := rfl
    simp only [reachEngine, enables, engine]
    split
    · rfl
    · split
      · exact offer_actsOnSpool k u (s.setEngine k { s.printers[k] with state := .idle }) same
      · rfl
  | channel | numeric | header | footer | role => exact .unchanged

theorem applyParam_eq (q : Param) (v : ParamValue) (s : State) :
    applyParam q v s = withSpool (s.withParam q v) (applyParam q v s) :=
  (reachEngine_actsOnSpool q).frame (s.withParam q v)

theorem applyParam_of_other (other : ∀ k, q ≠ .enable k) : applyParam q v s = s.withParam q v := by
  cases q with
  | enable k => exact absurd rfl (other k)
  | channel | numeric | header | footer | role => rfl

section
variable {k : Printer} {b : Bool}

theorem enables_withParam : (s.withParam (.enable k) (.enable b)).settings.enables[k] = b :=
  (getElem_set_fin s.settings.enables k k b).trans (if_pos rfl)

theorem applyParam_idle (idle : s.printers[k].state = .idle) (disabled : b = false) :
    applyParam (.enable k) (.enable b) s =
      (s.withParam (.enable k) (.enable b)).setEngine k { s.printers[k] with state := .off } :=
  if_pos ⟨idle, enables_withParam.trans disabled⟩

theorem applyParam_off (off : s.printers[k].state = .off) (enabled : b = true) :
    applyParam (.enable k) (.enable b) s =
      ((s.withParam (.enable k) (.enable b)).setEngine k { s.printers[k] with state := .idle }).offer k := by
  refine (if_neg fun ⟨idle, _⟩ => ?_).trans (if_pos ⟨off, enables_withParam.trans enabled⟩)
  exact nomatch off.symm.trans idle

theorem applyParam_kept (kept : (s.printers[k].state = .idle ∧ b = true) ∨ (s.printers[k].state = .off ∧ b = false) ∨
    (s.printers[k].state ≠ .idle ∧ s.printers[k].state ≠ .off)) :
    applyParam (.enable k) (.enable b) s = s.withParam (.enable k) (.enable b) := by
  refine (if_neg fun ⟨idle, disabled⟩ => ?_).trans (if_neg fun ⟨off, enabled⟩ => ?_)
  · have disabled := enables_withParam.symm.trans disabled
    rcases kept with ⟨-, enabled⟩ | ⟨off, -⟩ | ⟨notIdle, -⟩
    · exact Bool.false_ne_true (disabled.symm.trans enabled)
    · exact nomatch off.symm.trans idle
    · exact notIdle idle
  · have enabled := enables_withParam.symm.trans enabled
    rcases kept with ⟨idle, -⟩ | ⟨-, disabled⟩ | ⟨-, notOff⟩
    · exact nomatch off.symm.trans idle
    · exact Bool.false_ne_true (disabled.symm.trans enabled)
    · exact notOff off

end

end

/-- An accepted SET_PARAM answers, and a printer's enable reaches its engine. -/
theorem setParam_accepted {s : State} {p : Port} {tag n ix : Byte} {q : Param} {v : ParamValue}
    (named : paramOf n.toNat ix.toNat = some q) (taken : q.decode v.enc = some v)
    (granted : GrantedTo s p tag 0x50 (n :: ix :: v.enc))
    (office : ¬ ∀ k : Port, (putSetting s.settings q (q.fit v)).roles[k] ≠ .office) (free : s.save = none) :
    ∃ t, exec .setParam s = .next t ∧
      Answered s t p ⟨tag, 0x50, if q.fit v = v then .ok else .clamped, (q.fit v).enc⟩ ∧
      ((∀ k, q ≠ .enable k) → Apart t (s.withParam q (q.fit v))) ∧
      ∀ k b, q = .enable k → v = .enable b →
        (s.printers[k].state = .idle → b = false →
          Apart t { s.withParam q (q.fit v) with printers := s.printers.set k { s.printers[k] with state := .off } }) ∧
        (s.printers[k].state = .off → b = true →
          Apart t (withSpool (s.withParam q (q.fit v))
            (({ s.withParam q (q.fit v) with
              printers := s.printers.set k { s.printers[k] with state := .idle } } : State).offer k))) ∧
        ((s.printers[k].state = .idle ∧ b = true) ∨ (s.printers[k].state = .off ∧ b = false) ∨
          (s.printers[k].state ≠ .idle ∧ s.printers[k].state ≠ .off) → Apart t (s.withParam q (q.fit v))) := by
  have applied := (setParam_of_value named taken (r := ⟨p, tag, 0x50, n :: ix :: v.enc⟩) rfl).trans
    (setParamTo_of_free office free)
  have frame := applyParam_eq q (q.fit v) s
  obtain ⟨t, next, apart, answered⟩ := answers setParam_served granted applied (by rw [frame]; rfl)
    (by rw [frame]; rfl)
  refine ⟨t, next, answered, fun other => ?_, ?_⟩
  · rwa [applyParam_of_other other] at apart
  · rintro k b rfl rfl
    have fits : (Param.enable k).fit (.enable b) = .enable b := rfl
    rw [fits] at apart frame ⊢
    refine ⟨fun idle disabled => ?_, fun off enabled => ?_, fun kept => ?_⟩
    · rwa [applyParam_idle idle disabled] at apart
    · rwa [frame, applyParam_off off enabled] at apart
    · rwa [applyParam_kept kept] at apart

/-- Settles O53: SET_PARAM sets the fitted value of the parameter its data names; the table of 11.6 gives the rows,
ranges, forms and items. -/
theorem setParamSetsTheFittedValue : Obligations.SetParamSetsTheFittedValue := by
  refine ⟨⟨fun s p tag data short granted => ?_, fun s p tag n ix data granted unread => ?_, ?_⟩,
    ⟨fun lo hi n => clamp_cases n, ?_, ?_, fun n => ?_, fun n => ?_, fun n => ⟨multipleOfTen_isGreatest _, rfl⟩⟩,
    paramOf_iff, ⟨fun q data v => ?_, ?_⟩, ?_, ?_, ?_⟩
  · exact refuses setParam_served granted (setParam_of_undecoded (decodeSetParam_of_short short))
  · exact refuses setParam_served granted (setParam_of_undecoded (decodeSetParam_of_noValue unread))
  · intro s p tag n ix q v named taken granted settings
    have valued := setParam_of_value named taken (r := ⟨p, tag, 0x50, n :: ix :: v.enc⟩) (s := s) rfl
    split
    · rename_i none
      exact refuses setParam_served granted (valued.trans (setParamTo_of_noOffice none))
    · rename_i office
      split
      · rename_i saving
        exact refuses setParam_served granted (valued.trans (setParamTo_of_saving office saving))
      · rename_i free
        exact setParam_accepted named taken granted office (not_not.mp free)
  · exact fun n => ⟨rfl, rfl, rfl, rfl, rfl, rfl, rfl⟩
  · exact fun n => ⟨rfl, rfl, rfl, rfl, rfl, rfl, rfl, rfl⟩
  · exact lowerTo_isGreatest (allowed := allowedDivisions) (by decide) (le_clamp (by decide))
  · exact lowerTo_isGreatest (allowed := allowedSteps) (by decide) (le_clamp (by decide))
  · exact Param.decode_eq_some_iff.trans (and_congr_right fun _ => Param.takes_iff q v)
  · exact ⟨fun n => rfl, rfl, fun x => congrArg (1 :: · ++ x) (enc1_eq x.length), rfl, rfl, rfl, rfl, rfl, rfl⟩
  · rintro st q v w decoded rfl
    have taken := (Param.takes_of_decode decoded).2.fit
    refine ⟨(getSetting_putSetting taken q).trans (if_pos rfl),
      fun q' other => (getSetting_putSetting taken q').trans (if_neg other), putSetting_frame taken⟩
  · exact fun st => ⟨fun c => ⟨⟨rfl, rfl, rfl, rfl⟩, rfl, rfl, rfl, rfl⟩, ⟨rfl, rfl, rfl, rfl, rfl⟩,
      ⟨rfl, rfl, rfl, rfl, rfl, rfl⟩, fun i => rfl, fun i => rfl, fun k => rfl, fun k => rfl⟩
  · exact fun s n ix => ⟨fun q => paramItem_of_param, paramItem_printersOf, paramItem_tare, paramItem_counter,
      paramItem_clock, paramItem_save, paramItem_of_noRow⟩

end Sys2Proof.Machine
end

section
/-! SUPPORT. The starts as they are called for, the supply and the RESET line (11.5). -/

namespace Sys2Proof.Machine

theorem restart_served : ServedBy .restart 0x55 restart := fun _ => rfl

theorem coldClear_served : ServedBy .coldClear 0x56 coldClear := fun _ => rfl

/-! ### RESTART and COLD_CLEAR (R187) -/

section
variable {r : Req} {s : State}

theorem restart_of_saving (data : r.data = []) (saving : s.save ≠ none) : restart r s = answer r .settingsBusy [] s := by
  simp only [restart, data, decodeNothing]
  exact if_pos (Option.isSome_iff_ne_none.mpr saving)

theorem restart_of_free (data : r.data = []) (free : s.save = none) :
    restart r s = answer r .ok [] (s.callStart .warm) := by
  simp only [restart, data, decodeNothing]
  exact if_neg (by simp [free])

theorem coldClear_of_saving (data : r.data = []) (saving : s.save ≠ none) :
    coldClear r s = answer r .settingsBusy [] s := by
  simp only [coldClear, data, decodeNothing]
  exact if_pos (Option.isSome_iff_ne_none.mpr saving)

theorem holdsBusiness_iff : s.holdsBusiness = true ↔ (∃ i : Slot, s.slots[i] ≠ none) ∨ s.journal ≠ [] := by
  rw [State.holdsBusiness, Bool.or_eq_true, List.any_eq_true]
  refine or_congr ⟨?_, ?_⟩ (by simp)
  · rintro ⟨x, member, held⟩
    obtain ⟨i, below, slot⟩ := Vector.getElem_of_mem (Vector.mem_toList_iff.mp member)
    exact ⟨⟨i, below⟩, fun free => by rw [← slot] at held; exact absurd held (by simpa using free)⟩
  · rintro ⟨i, held⟩
    exact ⟨_, Vector.mem_toList_iff.mpr (Vector.getElem_mem i.isLt), Option.isSome_iff_ne_none.mpr held⟩

theorem coldClear_of_business (data : r.data = []) (free : s.save = none)
    (business : (∃ i : Slot, s.slots[i] ≠ none) ∨ s.journal ≠ []) : coldClear r s = answer r .wrongState [] s := by
  simp only [coldClear, data, decodeNothing]
  exact (if_neg (by simp [free])).trans (if_pos (holdsBusiness_iff.mpr business))

theorem coldClear_of_empty (data : r.data = []) (free : s.save = none) (slots : ∀ i : Slot, s.slots[i] = none)
    (journal : s.journal = []) :
    coldClear r s = answer r .ok [] ((s.writeCounter .invalid).callStart .cold) := by
  simp only [coldClear, data, decodeNothing]
  refine (if_neg (by simp [free])).trans (if_neg fun business => ?_)
  rcases holdsBusiness_iff.mp business with ⟨i, held⟩ | records
  · exact held (slots i)
  · exact records journal

end

/-- From the acceptance of a start nothing more is granted. -/
theorem ungranted_of_called {s t u : State} {p : Port} {a : Response} (apart : Apart t u) (answered : Answered s t p a)
    (called : u.pendingStart ≠ none) : t.requestEngine = none := by
  obtain ⟨-, -, grant⟩ := answered
  have same : t.pendingStart = u.pendingStart := by
    obtain ⟨_, _, _, same⟩ := apart_iff.mp apart
    rw [same]
  unfold NextGrant at grant
  rw [same, if_pos (Option.isSome_iff_ne_none.mpr called)] at grant
  exact grant.1

/-- A start that is called for is answered OK, and nothing more is granted. -/
theorem answers_called {row : Instr} {code tag : Byte} {h : Req → State → State} {s u : State} {p : Port}
    {data : List Byte} (served : ServedBy row code h) (granted : GrantedTo s p tag code data)
    (rule : h ⟨p, tag, code, data⟩ s = answer ⟨p, tag, code, data⟩ .ok [] u) (ports : u.ports = s.ports)
    (pointer : u.pointer = s.pointer) (called : u.pendingStart ≠ none) :
    ∃ t, exec row s = .next t ∧ Apart t u ∧ Answered s t p ⟨tag, code, .ok, []⟩ ∧ t.requestEngine = none := by
  obtain ⟨t, next, apart, answered⟩ := answers served granted rule ports pointer
  exact ⟨t, next, apart, answered, ungranted_of_called apart answered called⟩

/-! ### Supply and RESET (R183, R184, R186) -/

section
variable {s : State}

theorem imageAfterSave_eq : s.imageAfterSave =
    if s.save = none then s.image else { s.image with checkGood := false } := by
  unfold State.imageAfterSave
  cases s.save <;> rfl

theorem losePower_of_powered (powered : s.powered = true) (holds cut : Bool) : losePower holds cut s = { s with
    powered := false
    image := if s.save = none then s.image else { s.image with checkGood := false }
    save := none
    numberWord := if cut then .invalid else s.numberWord
    markerValid := s.markerValid && holds } := by
  rw [losePower, if_pos powered, imageAfterSave_eq]

theorem losePower_of_dark (dark : s.powered = false) (holds cut : Bool) :
    losePower holds cut s = { s with markerValid := s.markerValid && holds } := by
  rw [losePower, if_neg (ne_true_of_eq_false dark)]

theorem resetLine_of_dark (dark : s.powered = false) (free : s.resetDriven = false) :
    resetLine s = { s with resetDriven := true } := by
  rw [resetLine, if_neg (ne_true_of_eq_false free), if_neg (ne_true_of_eq_false dark)]

/-- The state at the release of RESET before the clock lines are taken. -/
def State.released (s : State) : State :=
  { s with resetDriven := false, channels := mapEntries (fun _ c => c.takeBeams) s.channels }

theorem resetRelease_of_powered (powered : s.powered = true) (driven : s.resetDriven = true) :
    resetRelease s = (List.finRange 3).foldl takeClock s.released := by
  rw [resetRelease, if_pos driven]
  exact if_pos powered

theorem resetRelease_of_dark (dark : s.powered = false) (driven : s.resetDriven = true) :
    resetRelease s = { s with resetDriven := false } := by
  rw [resetRelease, if_pos driven]
  exact if_neg (ne_true_of_eq_false dark)

/-! ### The clock lines at the release (R156, R157, assumption 10) -/

theorem takeClock_of_high {k : Printer} (high : (s.printers[k]).clockLow = false)
    (other : (s.printers[k]).state ≠ .inhibited) : takeClock s k = s := by
  rw [takeClock, if_neg (ne_true_of_eq_false high), clockReleased_of_other other]

theorem takeClocks_of_high (ks : List Printer)
    (high : ∀ k : Printer, (s.printers[k]).clockLow = false ∧ (s.printers[k]).state ≠ .inhibited) :
    ks.foldl takeClock s = s := by
  induction ks with
  | nil => rfl
  | cons k ks ih => rw [List.foldl_cons, takeClock_of_high (high k).1 (high k).2, ih]

/-- The clock line's level as a command that brings it now. -/
def clockArrives (u : State) (k : Printer) : State :=
  let arrives (low : Bool) (i : Instr) : State :=
    match exec i { u with printers := u.printers.set k { u.printers[k] with clockLow := low } } with
    | .next v => v
    | _ => u
  if u.printers[k].clockLow then arrives false (.clockLineLow k (u.printers[k].frame.getD 1))
  else arrives true (.clockLineRelease k)

/-- A line turned and turned back stands as it stood. -/
theorem setClockLine_back {k : Printer} {low : Bool} (stands : (s.printers[k]).clockLow = low) (other : Bool) :
    (s.setClockLine k other).setClockLine k low = s := by
  subst stands
  have engine : (s.setClockLine k other).printers[k] = { s.printers[k] with clockLow := other } :=
    State.setEngine_get_self s k _
  rw [State.setClockLine, engine, State.setClockLine, State.setEngine_setEngine]
  exact State.setEngine_self s k

theorem clockArrives_eq (taking : s.taking = true) (k : Printer) : clockArrives s k = takeClock s k := by
  unfold clockArrives takeClock
  cases stands : (s.printers[k]).clockLow with
  | true =>
    change clockLow k ((s.printers[k]).frame.getD 1) (s.setClockLine k false) = _
    have high : ((s.setClockLine k false).printers[k]).clockLow = false :=
      congrArg Engine.clockLow (State.setEngine_get_self s k _)
    have turned : clockLow k ((s.printers[k]).frame.getD 1) (s.setClockLine k false) =
        clockPulled k ((s.printers[k]).frame.getD 1) ((s.setClockLine k false).setClockLine k true) :=
      clockLow_of_high (s := s.setClockLine k false) taking high _
    rw [turned, setClockLine_back stands]
    rfl
  | false =>
    change clockRelease k (s.setClockLine k true) = _
    have low : ((s.setClockLine k true).printers[k]).clockLow = true :=
      congrArg Engine.clockLow (State.setEngine_get_self s k _)
    have turned : clockRelease k (s.setClockLine k true) =
        clockReleased k ((s.setClockLine k true).setClockLine k false) :=
      clockRelease_of_low (s := s.setClockLine k true) taking low
    rw [turned, setClockLine_back stands]
    rfl

theorem takeClock_taking (k : Printer) : (takeClock s k).taking = s.taking := by
  have frame : takeClock s k = { withSpool s (takeClock s k) with ports := (takeClock s k).ports } :=
    (SpoolMoves.takeClock .unmoved).frame
  rw [frame]
  rfl

theorem clocksArrive_eq (ks : List Printer) (taking : s.taking = true) :
    ks.foldl clockArrives s = ks.foldl takeClock s := by
  induction ks generalizing s with
  | nil => rfl
  | cons k ks ih =>
    rw [List.foldl_cons, List.foldl_cons, clockArrives_eq taking, ih ((takeClock_taking k).trans taking)]

/-! ### Pins without power or with RESET driven (assumptions 10, 11) -/

theorem clockLow_of_dark (dark : s.taking = false) (k : Printer) (period : Nat) :
    clockLow k period s = s.setClockLine k true := by
  unfold clockLow
  split
  · rename_i low
    exact (State.setEngine_self s k).symm.trans (congrArg (s.setEngine k) (by rw [← low]))
  · exact whileTaking_of_dark dark

theorem clockRelease_of_dark (dark : s.taking = false) (k : Printer) : clockRelease k s = s.setClockLine k false := by
  unfold clockRelease
  split
  · exact whileTaking_of_dark dark
  · rename_i high
    have high := Bool.eq_false_iff.mpr high
    exact (State.setEngine_self s k).symm.trans (congrArg (s.setEngine k) (by rw [← high]))

theorem calledStart_of_uncalled {k : StartKind} (uncalled : ∀ x, s.pendingStart ≠ some ⟨x, true⟩) :
    calledStart k s = s := if_neg (uncalled k)

end

/-- Settles O56: RESTART and COLD_CLEAR call their start; a loss of power, RESET and its release do what 11.5 says. -/
theorem startsAreCalledAndPowerIsLost : Obligations.StartsAreCalledAndPowerIsLost := by
  refine ⟨fun s p tag => ⟨fun granted => ⟨fun saving => ?_, fun free => ?_⟩,
      fun granted => ⟨fun saving => ?_, fun free business => ?_, fun free slots journal => ?_⟩⟩,
    fun s => ⟨fun holds cut powered => ?_, fun holds cut dark => ?_, fun powered => ?_, fun driven => ?_,
      fun dark free => ?_, fun free => ?_, fun dark driven => ?_, fun powered driven high => ?_,
      fun b e l x y dark beams => ?_, ?_, fun k period dark => ⟨?_, ?_⟩, fun uncalled => ⟨?_, ?_⟩⟩⟩
  · exact refuses restart_served granted (restart_of_saving rfl saving)
  · exact answers_called restart_served granted (restart_of_free rfl free) rfl rfl (Option.some_ne_none _)
  · exact refuses coldClear_served granted (coldClear_of_saving rfl saving)
  · exact refuses coldClear_served granted (coldClear_of_business rfl free business)
  · exact answers_called coldClear_served granted (coldClear_of_empty rfl free slots journal) rfl rfl
      (Option.some_ne_none _)
  · exact congrArg Host.Outcome.next (losePower_of_powered powered holds cut)
  · exact congrArg Host.Outcome.next (losePower_of_dark dark holds cut)
  · exact congrArg Host.Outcome.next (if_pos powered)
  · exact congrArg Host.Outcome.next (if_pos driven)
  · exact congrArg Host.Outcome.next (resetLine_of_dark dark free)
  · exact congrArg Host.Outcome.next (if_neg (ne_true_of_eq_false free))
  · exact congrArg Host.Outcome.next (resetRelease_of_dark dark driven)
  · exact congrArg Host.Outcome.next ((resetRelease_of_powered powered driven).trans
      (takeClocks_of_high (s := s.released) _ high))
  · change Host.Outcome.next (s.updateBeam b e (if s.taking then Beam.change l else _)) = _
    rw [if_neg (ne_true_of_eq_false dark), updateBeam_of_beams beams]
    cases e <;> rfl
  · intro powered driven released standing
    have taking : s.released.taking = true := by
      change (s.powered && !false) = true
      rw [powered]
      rfl
    exact congrArg Host.Outcome.next ((resetRelease_of_powered powered driven).trans (clocksArrive_eq _ taking).symm)
  · exact congrArg Host.Outcome.next (clockLow_of_dark dark k period)
  · exact congrArg Host.Outcome.next (clockRelease_of_dark dark k)
  · refine congrArg Host.Outcome.next ?_
    rcases whileTaking_cases (calledStart .warm) s with same | ⟨-, called⟩
    · exact same
    · exact called.trans (calledStart_of_uncalled uncalled)
  · refine congrArg Host.Outcome.next ?_
    rcases whileTaking_cases (calledStart .cold) s with same | ⟨-, called⟩
    · exact same
    · exact called.trans (calledStart_of_uncalled uncalled)

/-! ### The cold start (R186, R187) -/

section
variable {s : State}

theorem offerAll_of_noHeads (empty : ∀ p : Printer, s.headJob p = none) : s.offerAll = s := by
  have offers (ps : List Printer) : ps.foldl State.offer s = s := by
    induction ps with
    | nil => rfl
    | cons p ps ih => rw [List.foldl_cons, offer_of_none (empty p), ih]
  exact offers _

theorem coldStart_eq_base (s : State) : s.coldStart = s.coldBase := by
  refine (coldStart_eq s).trans (offerAll_of_noHeads fun p => ?_)
  have empty : s.coldBase.queues[p] = [] := Vector.getElem_replicate p.isLt
  rw [State.headJob, empty]

theorem powerOn_cold (dark : s.powered = false) (invalid : s.markerValid = false) :
    powerOn s = ({ s with powered := true } : State).coldBase := by
  rw [powerOn, if_neg (ne_true_of_eq_false dark), invalid]
  exact coldStart_eq_base _

theorem powerOn_warm (dark : s.powered = false) (valid : s.markerValid = true) :
    powerOn s = ({ s with powered := true } : State).warmStart := by
  rw [powerOn, if_neg (ne_true_of_eq_false dark), valid]
  rfl

theorem calledStart_of_called {k : StartKind} (called : s.pendingStart = some ⟨k, true⟩) : calledStart k s = s.start k :=
  if_pos called

/-- The state after a cold start of a part with power, piece by piece. -/
def State.coldState (s : State) : State :=
  let image : SettingsImage := if s.save = none then s.image else { s.image with checkGood := false }
  let settings := if image.checkGood then image.content else factorySettings
  { s with
    powered := true, markerValid := true, image := image, settings := settings, counter := s.numberWord
    save := none, clock := none, pendingStart := none, requestEngine := none, pointer := 3
    ports := Vector.ofFn fun p =>
      { role := settings.roles[p], receiver := .hunt, request := none, output := [], latched := 1
        startData := some ⟨.cold, !image.checkGood⟩, mask := 0x07FF, badFrames := 0 }
    channels := Vector.ofFn fun c =>
      { state := .noSignal, lastReading := none, ref := 0, run := 0, errorCount := 0, freshness := none
        receiver := .idle, capture := none
        beams := s.channels[c].beams.map fun b => (⟨b.1.raw, b.1.raw, none⟩, ⟨b.2.raw, b.2.raw, none⟩) }
    slots := Vector.replicate 48 none
    staged := settings.active
    tally := Vector.replicate 64 (Vector.replicate 4 none)
    journal := [], totals := .zero, day := 1
    freePages := List.finRange 96, jobs := Vector.replicate 32 none, queues := Vector.replicate 3 []
    printers := Vector.ofFn fun k =>
      { state := if settings.enables[k] then .idle else .off, fault := none, job := none, position := none
        pendingByte := none, frame := none, refusals := 0, backoff := none, inhibit := none
        clockLow := s.printers[k].clockLow, dropping := false, train := none } }

theorem coldBase_eq : ({ s with powered := true } : State).coldBase = s.coldState := by
  unfold State.coldBase State.commonStart
  rw [imageAfterSave_eq]
  rfl

end

/-- Settles O60: a cold start takes every piece of the state to its cold value. -/
theorem coldStartEmptiesTheState : Obligations.ColdStartEmptiesTheState := by
  refine fun s => ⟨fun dark invalid => ?_, fun taking called => ?_⟩
  · exact congrArg Host.Outcome.next ((powerOn_cold dark invalid).trans coldBase_eq)
  · have powered : s.powered = true := (Bool.and_eq_true_iff.mp taking).1
    have same : { s with powered := true } = s := by rw [← powered]
    have started : calledStart .cold s = s.coldState :=
      calc calledStart .cold s = s.coldBase := (calledStart_of_called called).trans (coldStart_eq_base s)
        _ = ({ s with powered := true } : State).coldBase := by rw [same]
        _ = s.coldState := coldBase_eq
    exact congrArg Host.Outcome.next ((whileTaking_of_taking taking).trans started)

end Sys2Proof.Machine
end

section
/-! SUPPORT. The warm start (1.9, 2.10, 8.9, 9.6, 11.5): what it makes of the jobs and queues, and what it keeps. -/

namespace Sys2Proof.Machine

/-! ### One job (R151) -/

/-- What a warm start makes of a job. -/
def Job.warmed (j : Job) : Option Job :=
  if j.state = .printing ∨ j.state = .stalled ∨ j.state = .halted then
    match j.endPending with
    | none => some { j with state := .queued, sent := 0, stall := none }
    | some e =>
      if j.owner = .composer then none
      else some { j with
        state := .done, stall := none
        doneStatus := some (match e with
          | .cancelled => .cancelled
          | .underrun => .underrun) }
  else some { j with stall := none }

/-- A job with its stall timer stopped. -/
def Job.unstalled (j : Job) : Job := { j with stall := none }

section
variable {j : Job}

theorem Job.warmed_unstalled (j : Job) : j.unstalled.warmed = j.warmed := rfl

theorem Job.warmed_of_unstarted (unstarted : ¬ (j.state = .printing ∨ j.state = .stalled ∨ j.state = .halted))
    (still : j.stall = none) : j.warmed = some j := by
  rw [Job.warmed, if_neg unstarted, ← still]

section
variable (started : j.state = .printing ∨ j.state = .stalled ∨ j.state = .halted)
include started

theorem Job.warmed_of_unended (pending : j.endPending = none) : j.warmed = some j.requeued := by
  cases j
  subst pending
  exact if_pos started

theorem Job.warmed_of_composer {e : PendingEnd} (pending : j.endPending = some e) (owner : j.owner = .composer) :
    j.warmed = none := by
  cases j
  subst pending owner
  exact if_pos started

theorem Job.warmed_of_port {e : PendingEnd} {q : Port} (pending : j.endPending = some e) (owner : j.owner = .port q) :
    j.warmed = some (j.ended e.status) := by
  cases j
  subst pending owner
  refine (if_pos started).trans ?_
  cases e <;> rfl

end

theorem Job.unstarted_of_queued (queued : j.state = .queued) :
    ¬ (j.state = .printing ∨ j.state = .stalled ∨ j.state = .halted) := by
  simp [queued]

theorem Job.unstarted_of_unqueued (unqueued : j.state.queues = false) :
    ¬ (j.state = .printing ∨ j.state = .stalled ∨ j.state = .halted) := by
  rintro (state | state | state) <;> rw [state] at unqueued <;> cases unqueued

end

/-! ### One queue (R151) -/

/-- The order of jobs and queues that a warm start finds once the stall timers have stopped. -/
structure WarmReady (b : State) : Prop where
  queues : QueueLaw b
  still : ∀ (jn : JobNo) (j : Job), b.jobs[jn] = some j → j.stall = none
  unended : ∀ (jn : JobNo) (j : Job), b.jobs[jn] = some j → j.state = .queued → j.endPending = none

/-- A queue without the jobs whose copy was to be ended. -/
def State.keptQueue (b : State) (k : Printer) : List JobNo :=
  b.queues[k].filter fun jn => !(b.jobs[jn].any fun j => j.endPending.isSome)

/-- The heads of the queues in `done` have been judged. -/
structure Warmed (b : State) (done : List Printer) (t : State) : Prop where
  queues : ∀ k : Printer, t.queues[k] = if k ∈ done then b.keptQueue k else b.queues[k]
  jobs : ∀ jn : JobNo, t.jobs[jn] = b.jobs[jn].bind fun j => if j.printer ∈ done then j.warmed else some j
  frame : t = { b with queues := t.queues, jobs := t.jobs, freePages := t.freePages }

section
variable {b t : State} {p : Printer} {jn : JobNo} {j : Job} {rest : List JobNo} {done : List Printer}

theorem Warmed.start (b : State) : Warmed b [] b where
  queues _ := rfl
  jobs jn := by cases b.jobs[jn] <;> rfl
  frame := rfl

/-- A job of a printer that is not the head of its queue stays as it is. -/
theorem WarmReady.warmed_of_other (ready : WarmReady b) (job : b.jobs[jn] = some j) (printer : j.printer = p)
    (behind : jn ∈ b.queues[p] → jn ∈ b.queues[p].tail) : j.warmed = some j := by
  subst printer
  obtain ⟨-, -, joined, order⟩ := ready.queues
  refine Job.warmed_of_unstarted ?_ (ready.still jn j job)
  cases queues : j.state.queues with
  | false => exact Job.unstarted_of_unqueued queues
  | true => exact Job.unstarted_of_queued (order _ jn j (behind (joined jn j job queues)) job)

/-- What is kept of a queue that is not empty. -/
theorem WarmReady.keptQueue_of_head (ready : WarmReady b) (queue : b.queues[p] = jn :: rest) (job : b.jobs[jn] = some j) :
    b.keptQueue p = if j.endPending.isSome then rest else jn :: rest := by
  obtain ⟨-, stands, -, order⟩ := ready.queues
  have tail : rest.filter (fun k => !(b.jobs[k].any fun j => j.endPending.isSome)) = rest := by
    refine List.filter_eq_self.mpr fun k member => ?_
    obtain ⟨x, record, -⟩ := stands p k (by rw [queue]; exact List.mem_cons_of_mem _ member)
    have queued := order p k x (by rw [queue]; exact member) record
    rw [record, Option.any_some, ready.unended k x record queued]
    rfl
  rw [State.keptQueue, queue]
  cases pending : j.endPending with
  | none => rw [List.filter_cons_of_pos (by rw [job, Option.any_some, pending]; rfl), tail]; rfl
  | some e => rw [List.filter_cons_of_neg (by rw [job, Option.any_some, pending]; simp), tail]; rfl

theorem warmHead_of_none (empty : t.headJob p = none) : t.warmHead p = t := by
  rw [State.warmHead, empty]

/-- The head of a queue becomes what a warm start makes of it, and leaves where it is ended. -/
theorem warmHead_of_head (head : t.headJob p = some (jn, j)) (still : j.stall = none)
    (unended : ¬ (j.state = .printing ∨ j.state = .stalled ∨ j.state = .halted) → j.endPending = none) :
    t.warmHead p = { t with
      jobs := t.jobs.set jn j.warmed
      queues := if j.endPending.isSome then t.queues.set p (t.queues[p].filter fun k => k != jn) else t.queues
      freePages := (t.warmHead p).freePages } := by
  have job : t.jobs[jn] = some j := (headJob_eq_some.mp head).2
  unfold State.warmHead
  rw [head]
  dsimp only
  by_cases started : j.state = .printing ∨ j.state = .stalled ∨ j.state = .halted
  · rw [if_pos started]
    cases pending : j.endPending with
    | none =>
      rw [Job.warmed_of_unended started pending]
      rfl
    | some e =>
      have left : (t.leaveQueue p jn).jobs[jn] = some j := job
      cases owner : j.owner with
      | composer =>
        dsimp only
        rw [endJob_of_composer left owner, Job.warmed_of_composer started pending owner]
        rfl
      | port q =>
        dsimp only
        rw [endJob_of_port left owner, Job.warmed_of_port started pending owner]
        rfl
  · rw [if_neg started, Job.warmed_of_unstarted started still, unended started]
    have same : t.jobs.set jn (some j) = t.jobs := by rw [← job, set_self]
    rw [same]
    rfl

/-- Judging the head of one more queue. -/
theorem Warmed.warmHead (ready : WarmReady b) (before : Warmed b done t) (fresh : p ∉ done) :
    Warmed b (p :: done) (t.warmHead p) := by
  obtain ⟨nodup, stands, -, -⟩ := ready.queues
  have queue : t.queues[p] = b.queues[p] := (before.queues p).trans (if_neg fresh)
  have others {k : JobNo} {x : Job} (elsewhere : x.printer ≠ p ∨ x.warmed = some x) :
      (if x.printer ∈ p :: done then x.warmed else some x) = if x.printer ∈ done then x.warmed else some x := by
    rcases elsewhere with elsewhere | same
    · simp only [List.mem_cons, elsewhere, false_or]
    · rw [same, ite_self, ite_self]
  cases heads : b.queues[p] with
  | nil =>
    have empty : t.headJob p = none := by rw [State.headJob, queue, heads]
    rw [warmHead_of_none empty]
    refine ⟨fun k => ?_, fun jn => ?_, before.frame⟩
    · rw [before.queues k]
      by_cases here : k = p
      · subst here
        rw [if_neg fresh, if_pos List.mem_cons_self, State.keptQueue, heads]
        rfl
      · simp only [List.mem_cons, here, false_or]
    · rw [before.jobs jn]
      cases job : b.jobs[jn] with
      | none => rfl
      | some x =>
        refine (others (k := jn) ?_).symm
        by_cases here : x.printer = p
        · exact .inr (ready.warmed_of_other job here fun member => by rw [heads] at member; cases member)
        · exact .inl here
  | cons jn rest =>
    obtain ⟨j, job, printer, queues⟩ := stands p jn (by rw [heads]; exact List.mem_cons_self)
    have kept : t.jobs[jn] = some j := by
      rw [before.jobs jn, job, Option.bind_some, printer, if_neg fresh]
    have head : t.headJob p = some (jn, j) := headJob_eq_some.mpr ⟨⟨rest, queue.trans heads⟩, kept⟩
    have unended : ¬ (j.state = .printing ∨ j.state = .stalled ∨ j.state = .halted) → j.endPending = none := by
      intro unstarted
      refine ready.unended jn j job ?_
      cases state : j.state with
      | queued => rfl
      | printing | stalled | halted => exact absurd state (by simp_all)
      | writing | done => rw [state] at queues; cases queues
    have absent : rest.filter (fun k => k != jn) = rest := by
      refine List.filter_eq_self.mpr fun k member => ?_
      have distinct := nodup p
      rw [heads] at distinct
      simpa using fun same : k = jn => (List.nodup_cons.mp distinct).1 (same ▸ member)
    rw [warmHead_of_head head (ready.still jn j job) unended]
    refine ⟨fun k => ?_, fun k => ?_, ?_⟩
    · have after : (if j.endPending.isSome then t.queues.set p (t.queues[p].filter fun k => k != jn) else t.queues)[k] =
          if p = k then b.keptQueue p else t.queues[k] := by
        rw [ready.keptQueue_of_head heads job]
        cases j.endPending with
        | none =>
          by_cases here : p = k
          · subst here
            rw [if_pos rfl]
            exact queue.trans heads
          · rw [if_neg here]
            rfl
        | some e =>
          refine (getElem_set_fin _ _ _ _).trans ?_
          rw [queue, heads, List.filter_cons_of_neg (by simp), absent]
          rfl
      rw [after, before.queues k]
      by_cases here : p = k
      · subst here
        rw [if_pos rfl, if_pos List.mem_cons_self]
      · simp only [if_neg here, List.mem_cons, Ne.symm here, false_or]
    · refine (getElem_set_fin _ _ _ _).trans ?_
      by_cases here : jn = k
      · subst here
        rw [if_pos rfl, job, Option.bind_some, printer, if_pos List.mem_cons_self]
      · rw [if_neg here, before.jobs k]
        cases record : b.jobs[k] with
        | none => rfl
        | some x =>
          refine (others (k := k) ?_).symm
          by_cases itsPrinter : x.printer = p
          · refine .inr (ready.warmed_of_other record itsPrinter fun member => ?_)
            rw [heads] at member ⊢
            exact (List.mem_cons.mp member).resolve_left (Ne.symm here)
          · exact .inl itsPrinter
    · rw [before.frame]

end

/-! ### The heads offered (R139) -/

/-- Apart from the jobs and the engines, `t` is `s`. -/
def SendsFrame (s t : State) : Prop := t = { s with jobs := t.jobs, printers := t.printers }

section
variable {s t u : State}

theorem SendsFrame.trans (first : SendsFrame s t) (second : SendsFrame t u) : SendsFrame s u :=
  Eq.trans second (congrArg (fun v => { v with jobs := u.jobs, printers := u.printers }) first)

theorem beginFrame_sends (s : State) (p : Printer) : SendsFrame s (s.beginFrame p) := by
  unfold State.beginFrame
  dsimp only
  split
  · split <;> rfl
  · rfl

theorem nextPart_sends (s : State) (p : Printer) (jn : JobNo) : SendsFrame s (s.nextPart p jn) := by
  unfold State.nextPart
  split
  · rfl
  · split
    · rfl
    · split
      · rfl
      · split <;> rfl

theorem beginCopy_sends (s : State) (p : Printer) (jn : JobNo) : SendsFrame s (s.beginCopy p jn) := by
  unfold State.beginCopy
  split
  · rfl
  · refine SendsFrame.trans ?_ (beginFrame_sends _ p)
    split
    · rfl
    · refine SendsFrame.trans ?_ (nextPart_sends _ p jn)
      rfl

theorem offer_sends (s : State) (p : Printer) : SendsFrame s (s.offer p) := by
  unfold State.offer
  split
  · rfl
  · split
    · refine SendsFrame.trans ?_ (beginCopy_sends _ p _)
      rfl
    · rfl

theorem offerAll_sends (s : State) : SendsFrame s s.offerAll := by
  have offers (ps : List Printer) : ∀ s : State, SendsFrame s (ps.foldl State.offer s) := by
    induction ps with
    | nil => exact fun _ => rfl
    | cons p ps ih => exact fun s => (offer_sends s p).trans (ih (s.offer p))
  exact offers _ s

end

/-! ### The warm start as a whole (R186) -/

/-- What stands after a warm start. -/
def WarmStarted (s u : State) : Prop :=
  let image : SettingsImage := if s.save = none then s.image else { s.image with checkGood := false }
  let settings := if image.checkGood then image.content else factorySettings
  u.settings = settings ∧ u.image = image ∧ u.counter = s.numberWord ∧ u.numberWord = s.numberWord ∧
  u.save = none ∧ u.pendingStart = none ∧ u.requestEngine = none ∧ u.pointer = 3 ∧ u.clock = s.clock ∧
  (∀ p : Port, u.ports[p] =
    { role := settings.roles[p], receiver := .hunt, request := none, output := [], latched := 1
      startData := some ⟨.warm, !image.checkGood⟩, mask := 0x07FF, badFrames := 0 }) ∧
  (∀ c : Chan, u.channels[c] =
    { state := .noSignal, lastReading := none, ref := 0, run := 0, errorCount := 0, freshness := none
      receiver := .idle, capture := none
      beams := s.channels[c].beams.map fun b => (⟨b.1.raw, b.1.raw, none⟩, ⟨b.2.raw, b.2.raw, none⟩) }) ∧
  (∀ i : Slot, u.slots[i] = s.slots[i].bind fun t =>
    if t.state = .opening then none
    else if t.state = .atWindow then some { t with marker := none, window := none, state := .weighed }
    else some { t with marker := none }) ∧
  (u.staged = s.staged ∧ u.tally = s.tally ∧ u.journal = s.journal ∧ u.totals = s.totals ∧ u.day = s.day ∧
    u.markerValid = s.markerValid ∧ u.pageMem = s.pageMem ∧ u.boldMarks = s.boldMarks ∧ u.pending = s.pending) ∧
  ∃ v : State, u = v.offerAll ∧
    (∀ k : Printer, v.printers[k] =
      { state := if settings.enables[k] then .idle else .off, fault := none, job := none, position := none
        pendingByte := none, frame := none, refusals := 0, backoff := none, inhibit := none
        clockLow := s.printers[k].clockLow, dropping := false, train := none }) ∧
    (∀ k : Printer, v.queues[k] = s.queues[k].filter fun jn =>
      !(s.jobs[jn].any fun j => j.endPending.isSome)) ∧
    ∀ jn : JobNo, v.jobs[jn] = s.jobs[jn].bind fun j =>
      if j.state = .printing ∨ j.state = .stalled ∨ j.state = .halted then
        match j.endPending with
        | none => some { j with state := .queued, sent := 0, stall := none }
        | some e =>
          if j.owner = .composer then none
          else some { j with
            state := .done, stall := none
            doneStatus := some (match e with
              | .cancelled => .cancelled
              | .underrun => .underrun) }
      else some { j with stall := none }

section
variable {s : State}

theorem warmBase_job (s : State) (jn : JobNo) : s.warmBase.jobs[jn] = s.jobs[jn].map Job.unstalled :=
  getElem_mapEntries _ _ _

theorem warmBase_queues (s : State) : s.warmBase.queues = s.queues := rfl

/-- Stopping the stall timers keeps the order of the queues. -/
theorem warmReady_of_unstalled {b : State} (queues : b.queues = s.queues)
    (unstalled : ∀ jn : JobNo, b.jobs[jn] = s.jobs[jn].map Job.unstalled) (jobs : JobLaw s) (law : QueueLaw s) :
    WarmReady b := by
  have record {jn : JobNo} {j : Job} (job : b.jobs[jn] = some j) : ∃ x, s.jobs[jn] = some x ∧ x.unstalled = j :=
    Option.map_eq_some_iff.mp ((unstalled jn).symm.trans job)
  obtain ⟨nodup, stands, joined, order⟩ := law
  simp only [← queues] at nodup stands joined order
  refine ⟨⟨nodup, fun p jn member => ?_, fun jn j job => ?_, fun p jn j tail job => ?_⟩, fun jn j job => ?_,
    fun jn j job queued => ?_⟩
  · obtain ⟨x, job, printer, queues⟩ := stands p jn member
    exact ⟨x.unstalled, by rw [unstalled, job]; rfl, printer, queues⟩
  · obtain ⟨x, before, rfl⟩ := record job
    exact joined jn x before
  · obtain ⟨x, before, rfl⟩ := record job
    exact order p jn x tail before
  · obtain ⟨x, -, rfl⟩ := record job
    rfl
  · obtain ⟨x, before, rfl⟩ := record job
    obtain ⟨-, -, -, -, -, -, -, -, pending, -⟩ := jobs jn x before
    cases ended : x.endPending with
    | none => exact ended
    | some e =>
      have began := pending (by rw [ended]; rfl)
      have queued : x.state = .queued := queued
      simp [queued] at began

/-- The state with every queue's head judged, before the queues are offered. -/
def State.warmJudged (s : State) : State := (List.finRange 3).foldl State.warmHead s.warmBase

theorem warmJudged_warmed (jobs : JobLaw s) (queues : QueueLaw s) : Warmed s.warmBase [2, 1, 0] s.warmJudged := by
  have ready := warmReady_of_unstalled (warmBase_queues s) (warmBase_job s) jobs queues
  exact (((Warmed.start _).warmHead ready (by decide)).warmHead ready (by decide)).warmHead ready (by decide)

theorem mem_printers (k : Printer) : k ∈ ([2, 1, 0] : List Printer) := by
  revert k
  decide

theorem warmSlot_eq (x : Option Ticket) : warmSlot x = x.bind fun t =>
    if t.state = .opening then none
    else if t.state = .atWindow then some { t with marker := none, window := none, state := .weighed }
    else some { t with marker := none } := by
  cases x with
  | none => rfl
  | some t =>
    rw [Option.bind_some, warmSlot]
    cases state : t.state <;> simp

/-- Judged heads and offers leave all but jobs, queues, pages and engines as the base of the start has them. -/
theorem warmStart_frame {b w u : State}
    (judged : w = { b with queues := w.queues, jobs := w.jobs, freePages := w.freePages }) (offered : SendsFrame w u) :
    u = { b with queues := u.queues, jobs := u.jobs, freePages := u.freePages, printers := u.printers } := by
  have moved : u = { w with jobs := u.jobs, printers := u.printers } := offered
  have queues : u.queues = w.queues := by rw [moved]
  have pages : u.freePages = w.freePages := by rw [moved]
  rw [queues, pages]
  exact moved.trans (congrArg (fun v => { v with jobs := u.jobs, printers := u.printers }) judged)

theorem keptQueue_of_unstalled {b : State} (queues : b.queues = s.queues)
    (unstalled : ∀ jn : JobNo, b.jobs[jn] = s.jobs[jn].map Job.unstalled) (k : Printer) :
    b.keptQueue k = s.queues[k].filter fun jn => !(s.jobs[jn].any fun j => j.endPending.isSome) := by
  rw [State.keptQueue, queues]
  refine List.filter_congr fun jn _ => ?_
  rw [unstalled]
  cases s.jobs[jn] <;> rfl

theorem warmStart_started (jobs : JobLaw s) (queues : QueueLaw s) : WarmStarted s s.warmStart := by
  have judged := warmJudged_warmed jobs queues
  have engines : s.warmJudged.printers = s.warmBase.printers := by rw [judged.frame]
  have offered : s.warmStart = s.warmJudged.offerAll := rfl
  have frame := warmStart_frame judged.frame (offerAll_sends s.warmJudged)
  rw [← offered] at frame
  obtain ⟨queues', jobs', pages', printers', started⟩ : ∃ queues jobs pages printers, s.warmStart =
      { s.warmBase with queues := queues, jobs := jobs, freePages := pages, printers := printers } :=
    ⟨_, _, _, _, frame⟩
  unfold WarmStarted
  rw [← imageAfterSave_eq]
  rw [started] at offered ⊢
  refine ⟨rfl, rfl, rfl, rfl, rfl, rfl, rfl, rfl, rfl, fun p => ?_, fun c => ?_, fun i => ?_,
    ⟨rfl, rfl, rfl, rfl, rfl, rfl, rfl, rfl, rfl⟩, s.warmJudged, offered, fun k => ?_, fun k => ?_, fun jn => ?_⟩
  · exact Vector.getElem_ofFn p.isLt
  · exact getElem_mapEntries _ _ c
  · exact (getElem_mapEntries _ _ i).trans (warmSlot_eq _)
  · rw [engines]
    exact getElem_mapEntries _ _ k
  · rw [judged.queues k, if_pos (mem_printers k)]
    exact keptQueue_of_unstalled (warmBase_queues s) (warmBase_job s) k
  · rw [judged.jobs jn, warmBase_job]
    cases s.jobs[jn] with
    | none => rfl
    | some j => exact if_pos (mem_printers j.printer)

/-- Supply and RESET stand after a warm start as they stood before it. -/
theorem warmStart_supply (jobs : JobLaw s) (queues : QueueLaw s) :
    s.warmStart.powered = s.powered ∧ s.warmStart.resetDriven = s.resetDriven := by
  have judged := warmJudged_warmed jobs queues
  have frame : s.warmStart = _ := warmStart_frame judged.frame (offerAll_sends s.warmJudged)
  exact ⟨(congrArg State.powered frame).trans rfl, (congrArg State.resetDriven frame).trans rfl⟩

end

/-- Settles O59: a warm start loads the stores, restarts channels, ports and engines, judges the started heads, and
retains the rest. -/
theorem warmStartKeepsRetainedState : Obligations.WarmStartKeepsRetainedState := by
  intro s law
  obtain ⟨-, jobs, queues, -⟩ := law
  refine ⟨fun dark valid => ?_, fun powered free => ?_, fun taking called => ?_⟩
  · have supply := warmStart_supply (s := { s with powered := true }) jobs queues
    exact ⟨_, congrArg Host.Outcome.next (powerOn_warm dark valid),
      warmStart_started (s := { s with powered := true }) jobs queues, supply⟩
  · have supply := warmStart_supply (s := { s with resetDriven := true }) jobs queues
    have driven : resetLine s = ({ s with resetDriven := true } : State).warmStart := by
      rw [resetLine, if_neg (ne_true_of_eq_false free), if_pos powered]
    exact ⟨_, congrArg Host.Outcome.next driven, warmStart_started (s := { s with resetDriven := true }) jobs queues,
      supply.1.trans powered, supply.2⟩
  · obtain ⟨power, reset⟩ := warmStart_supply jobs queues
    have started : whileTaking (calledStart .warm) s = s.warmStart :=
      (whileTaking_of_taking taking).trans (calledStart_of_called called)
    refine ⟨_, congrArg Host.Outcome.next started, warmStart_started jobs queues, ?_⟩
    rw [State.taking, power, reset]
    exact taking

end Sys2Proof.Machine
end

section
/-! SUPPORT. The scale channels event by event (1.3 to 1.5, 1.7): what a byte, a timer or a reading makes of the
channel's record, and of a capture in flight. -/

namespace Sys2Proof.Machine

section
variable {s : State} {c : Chan} {b : Byte} {held : List Byte} {x : Channel}

/-! ### The receiver (R3, R4) -/

theorem scaleByte_of_idle (idle : s.channels[c].receiver = .idle) : scaleByte c b s =
    if b = 0x02 then { s with channels := s.channels.set c { s.channels[c] with receiver := .assembling [] } }
    else s := by
  simp only [scaleByte, idle]
  rfl

section
variable (assembling : s.channels[c].receiver = .assembling held)
include assembling

theorem scaleByte_of_held (other : b ≠ 0x02) (short : held.length < 11) : scaleByte c b s =
    { s with channels := s.channels.set c { s.channels[c] with receiver := .assembling (held ++ [b]) } } := by
  simp only [scaleByte, assembling]
  exact (if_neg other).trans (if_pos short)

/-- A start mark within a message, or a last byte that leaves it not good, makes it a bad one (R3, R4). -/
theorem scaleByte_of_breaks (breaks : b = 0x02 ∨ (11 ≤ held.length ∧ judgeMessage held b = none)) :
    scaleByte c b s = badMessage c
      (s.setChannel c { s.channels[c] with receiver := if b = 0x02 then .assembling [] else .idle }) := by
  simp only [scaleByte, assembling]
  by_cases start : b = 0x02
  · rw [if_pos start]
    exact if_pos start
  · obtain ⟨long, bad⟩ := breaks.resolve_left start
    rw [if_neg start, bad]
    exact (if_neg start).trans (if_neg (not_lt.mpr long))

theorem scaleGap_of_assembling :
    scaleGap c s = badMessage c (s.setChannel c { s.channels[c] with receiver := .idle }) := by
  simp only [scaleGap, assembling]

end

/-- The byte that completes a good message. -/
theorem scaleByte_of_good {status : Status} {weight : Int} (good : GoodMessageAt s c b status weight) :
    scaleByte c b s = goodMessage c status weight (s.setChannel c { s.channels[c] with receiver := .idle }) := by
  obtain ⟨-, last, held, assembling, length, judged⟩ := good
  have other : b ≠ Config.startMark := by rw [last]; decide
  simp only [scaleByte, assembling, judged]
  exact (if_neg other).trans (if_neg (by rw [length]; decide))

/-! ### Bad messages and the signal lost (R5, R9) -/

/-- The channel with its signal lost (R5, R9). -/
def Channel.silenced (x : Channel) (next : ChannelState) : Channel :=
  { x with state := next, run := 0, freshness := none }

/-- The channel with one bad message more (R5). -/
def Channel.counted (x : Channel) : Channel := { x with errorCount := min 255 (x.errorCount + 1) }

theorem leaveSignal_setChannel (next : ChannelState) : leaveSignal c next (s.setChannel c x) =
    endCapture c .scaleFault (s.moveChannel c (x.silenced next) true) := by
  unfold leaveSignal State.moveChannel
  dsimp only
  rw [State.setChannel_get_self, State.setChannel_setChannel]
  rfl

theorem badMessage_below (kept : x.state = .fault ∨
    min 255 (x.errorCount + 1) < s.settings.channels[c].errorThreshold) :
    badMessage c (s.setChannel c x) = s.setChannel c x.counted := by
  unfold badMessage
  dsimp only
  rw [State.setChannel_get_self, State.setChannel_setChannel]
  refine if_neg fun ⟨reached, heard⟩ => ?_
  rcases kept with fault | below
  · exact heard fault
  · exact absurd reached (not_le.mpr below)

theorem badMessage_reached (heard : x.state ≠ .fault)
    (reached : s.settings.channels[c].errorThreshold ≤ min 255 (x.errorCount + 1)) :
    badMessage c (s.setChannel c x) =
      endCapture c .scaleFault (s.moveChannel c (x.counted.silenced .fault) true) := by
  rw [← leaveSignal_setChannel]
  unfold badMessage
  dsimp only
  rw [State.setChannel_get_self, State.setChannel_setChannel]
  exact if_pos ⟨reached, heard⟩

theorem freshnessEnd_of_running (fresh : s.channels[c].freshness ≠ none)
    (heard : s.channels[c].state = .moving ∨ s.channels[c].state = .stable ∨ s.channels[c].state = .over) :
    freshnessEnd c s = endCapture c .scaleFault (s.moveChannel c ((s.channels[c]).silenced .noSignal) true) := by
  rw [← leaveSignal_setChannel, State.setChannel_self]
  exact if_pos ⟨Option.isSome_iff_ne_none.mpr fresh, heard⟩

/-! ### The end of a capture (R17, R33 to R35) -/

theorem endCapture_of_none {res : CaptureResult} {lost : Bool} (free : x.capture = none) :
    endCapture c res (s.moveChannel c x lost) = s.moveChannel c x lost := by
  unfold endCapture
  rw [State.moveChannel_get, if_pos rfl, free]

/-- A capture that ends is acted on at the ticket that holds its marker. -/
theorem endCapture_of_captureFor {i : Slot} {t : Ticket} {m : Marker} {res : CaptureResult} {lost : Bool}
    (itsCapture : CaptureFor s c i t m) (same : x.capture = s.channels[c].capture) :
    endCapture c res (s.moveChannel c x lost) = actOnOutcome i t m res (s.moveChannel c x.uncaptured lost) := by
  obtain ⟨⟨cap, capture, rfl, kind⟩, slot, marker, rfl⟩ := itsCapture
  have moved : (s.moveChannel m.channel x.uncaptured lost).slots[cap.slot] = some t := by
    rw [State.moveChannel_eq]
    exact slot
  unfold endCapture
  rw [State.moveChannel_get, if_pos rfl, same, capture]
  dsimp only
  rw [State.moveChannel_setChannel, kind]
  exact captureOutcome_of_marker res moved marker

/-- A capture that fails leaves the ticket as it was, or its OPENING slot FREE, and answers the deferred request. -/
theorem actOnOutcome_failed {i : Slot} {t : Ticket} {m : Marker} {res : CaptureResult} (u : State)
    (fails : ∀ w, res ≠ .ok w) :
    actOnOutcome i t m res u = (u.setSlot i (afterFailure t m)).answerMarker m res.outcome [] := by
  unfold actOnOutcome afterFailure
  cases res with
  | ok w => exact absurd rfl (fails w)
  | scaleFault | belowMinimum | overload | beamBroken | notStable => cases m.purpose <;> rfl

/-- The port records with SCALE_FAULT latched where it is heard. -/
def faultHeard (s : State) : Vector StationPort 4 :=
  mapEntries (fun _ x => latchedIf (decide (x.role = .scale ∨ x.role = .office)) .scaleFault x) s.ports

theorem moveChannel_lost : s.moveChannel c x true = { s with channels := s.channels.set c x, ports := faultHeard s } := by
  refine State.ports_ext (s := { s with channels := s.channels.set c x }) (fun q => ?_) rfl rfl
  refine ((s.setChannel c x).scaleFault_get q).trans ?_
  have heard (r : Role) : (r == .scale || r == .office) = decide (r = .scale ∨ r = .office) := by cases r <;> rfl
  change _ = (faultHeard s)[q]
  rw [heard, faultHeard, getElem_mapEntries]
  rfl

/-! ### Readings (R6 to R8, R16) -/

theorem goodMessage_of_fault {status : Status} {weight : Int} (fault : x.state = .fault) :
    goodMessage c status weight (s.setChannel c x) = s.setChannel c x := by
  unfold goodMessage
  dsimp only
  rw [State.setChannel_get_self, if_pos fault]

section
variable {status : Status} {weight : Int} (heard : x.state ≠ .fault)
include heard

/-- A reading that does not complete a capture. -/
theorem goodMessage_waits
    (waits : x.capture = none ∨
      (x.takeReading s.settings.channels[c] status (roundWeight s.settings.channels[c].division weight)).state ≠ .stable ∨
      (x.takeReading s.settings.channels[c] status (roundWeight s.settings.channels[c].division weight)).beamsClear =
        false) :
    goodMessage c status weight (s.setChannel c x) = s.setChannel c
      (x.takeReading s.settings.channels[c] status (roundWeight s.settings.channels[c].division weight)) := by
  unfold goodMessage
  dsimp only
  rw [State.setChannel_get_self, if_neg heard, State.setChannel_setChannel]
  split
  · rename_i completes
    rcases waits with free | moving | blocked
    · exact endCapture_of_none (lost := false) (Channel.takeReading_capture.trans free)
    · exact absurd completes.1 moving
    · exact absurd completes.2 (ne_true_of_eq_false blocked)
  · rfl

/-- A reading that completes a capture, or fails it below the minimum (R16). -/
theorem goodMessage_completes
    (stable :
      (x.takeReading s.settings.channels[c] status (roundWeight s.settings.channels[c].division weight)).state = .stable)
    (clear :
      (x.takeReading s.settings.channels[c] status (roundWeight s.settings.channels[c].division weight)).beamsClear =
        true) :
    goodMessage c status weight (s.setChannel c x) = endCapture c
      (if (s.settings.channels[c].minimum * s.settings.channels[c].division : Nat) ≤
          roundWeight s.settings.channels[c].division weight then
        .ok (roundWeight s.settings.channels[c].division weight).toNat
      else .belowMinimum)
      (s.moveChannel c
        (x.takeReading s.settings.channels[c] status (roundWeight s.settings.channels[c].division weight)) false) := by
  unfold goodMessage
  dsimp only
  rw [State.setChannel_get_self, if_neg heard, State.setChannel_setChannel]
  exact if_pos ⟨stable, clear⟩

end

/-- Ref, run and state after a reading, written out (R7, R8). -/
theorem takeReading_eq (st : ChannelSettings) (status : Status) (w : Int) (x : Channel) :
    x.takeReading st status w =
      let taken := { x with freshness := some st.freshness, lastReading := some ⟨status, w⟩ }
      let run :=
        if status = .motion then 0
        else if (w - x.ref).natAbs ≤ st.motionBand * st.division then min 255 (x.run + 1)
        else 1
      let ref := if status = .stable ∧ (w - x.ref).natAbs ≤ st.motionBand * st.division then x.ref else w
      if (status = .stable ∨ status = .motion) ∧ 0 ≤ w ∧ w ≤ st.capacity then
        { taken with run := run, ref := ref, state := if st.stableCount ≤ run then .stable else .moving }
      else { taken with state := .over, run := 0 } := by
  have range : readingInRange st status w = true ↔
      (status = .stable ∨ status = .motion) ∧ 0 ≤ w ∧ w ≤ st.capacity := by
    simp [readingInRange, and_assoc]
  unfold Channel.takeReading
  dsimp only
  by_cases inRange : (status = .stable ∨ status = .motion) ∧ 0 ≤ w ∧ w ≤ st.capacity
  · rw [if_pos (range.mpr inRange), if_pos inRange]
    obtain ⟨rfl | rfl, -⟩ := inRange
    · simp only [stabilize, if_true, true_and, reduceCtorEq, if_false]
      split <;> rfl
    · simp only [stabilize, reduceCtorEq, if_false, if_true, false_and]
  · rw [if_neg (mt range.mp inRange), if_neg inRange]

end

/-- Settles O28: a byte that completes no message moves the receiver, and a reading that ends no capture moves ref, run
and state. -/
theorem readingsMoveTheChannel : Obligations.ReadingsMoveTheChannel := by
  refine ⟨fun s c b taking => ⟨fun idle => ?_, fun held assembling => ⟨fun other short => ?_, fun breaks kept => ?_⟩⟩,
    fun s c b status weight good => ?_⟩
  · exact congrArg Host.Outcome.next ((whileTaking_of_taking taking).trans (scaleByte_of_idle idle))
  · exact congrArg Host.Outcome.next
      ((whileTaking_of_taking taking).trans (scaleByte_of_held assembling other short))
  · refine congrArg Host.Outcome.next ((whileTaking_of_taking taking).trans ?_)
    rw [scaleByte_of_breaks assembling breaks]
    exact badMessage_below (x := { s.channels[c] with receiver := _ }) kept
  · intro ch st w taken run ref ch' waits
    obtain ⟨taking, -⟩ := id good
    refine congrArg Host.Outcome.next ((whileTaking_of_taking taking).trans ((scaleByte_of_good good).trans ?_))
    by_cases fault : ch.state = .fault
    · have unmoved : ch' = { ch with receiver := .idle } := if_pos fault
      rw [unmoved]
      exact goodMessage_of_fault (x := { s.channels[c] with receiver := .idle }) fault
    · have moved : ch' = ({ ch with receiver := .idle } : Channel).takeReading st status w :=
        (if_neg fault).trans (takeReading_eq st status w { ch with receiver := .idle }).symm
      rw [moved] at waits ⊢
      exact goodMessage_waits (x := { s.channels[c] with receiver := .idle }) fault (waits.resolve_left fault)

end Sys2Proof.Machine
end

section
/-! SUPPORT. Captures that fail, and the timers of a channel (1.3, 1.5, 1.7, 2.6). -/

namespace Sys2Proof.Machine

section
variable {s : State} {c : Chan} {i : Slot} {t : Ticket} {m : Marker} {x : Channel}

/-- A failed capture: its record deleted, the ticket unmarked or its slot FREE, and the deferred request answered. -/
def captureFailed (c : Chan) (i : Slot) (t : Ticket) (m : Marker) (x : Channel) (o : OutcomeCode) (u : State) : State :=
  { u with
    channels := u.channels.set c { x with capture := none }
    slots := u.slots.set i (afterFailure t m)
    ports := u.ports.set m.port (answeredPort u.ports[m.port] ⟨m.tag, m.purpose.code, o, []⟩) }

theorem captureFailed_kept {res : CaptureResult} (u : State) (fails : ∀ w, res ≠ .ok w) :
    actOnOutcome i t m res (u.moveChannel c x.uncaptured false) = captureFailed c i t m x res.outcome u :=
  actOnOutcome_failed _ fails

theorem captureFailed_lost :
    actOnOutcome i t m .scaleFault (s.moveChannel c x.uncaptured true) =
      captureFailed c i t m x .scaleFault { s with ports := faultHeard s } := by
  rw [actOnOutcome_failed _ (by simp), moveChannel_lost]
  rfl

section
variable (itsCapture : CaptureFor s c i t m)
include itsCapture

/-- A capture that fails as its channel loses the signal. -/
theorem endCapture_lost (same : x.capture = s.channels[c].capture) :
    endCapture c .scaleFault (s.moveChannel c x true) =
      captureFailed c i t m x .scaleFault { s with ports := faultHeard s } :=
  (endCapture_of_captureFor itsCapture same).trans captureFailed_lost

theorem windowEnd_fails : windowEnd c s = captureFailed c i t m s.channels[c]
    (if s.channels[c].state = .over then .overload
      else if s.channels[c].beamsClear then .notStable else .beamBroken) s := by
  have ends := endCapture_of_captureFor (x := s.channels[c]) (lost := false) (res := windowResult s.channels[c]) itsCapture rfl
  have still : s.moveChannel c s.channels[c] false = s := State.setChannel_self s c
  rw [still] at ends
  have outcome : (windowResult s.channels[c]).outcome = if s.channels[c].state = .over then .overload
      else if s.channels[c].beamsClear then .notStable else .beamBroken := by
    unfold windowResult
    split_ifs <;> rfl
  rw [← outcome]
  exact ends.trans (captureFailed_kept s fun w ok => nomatch windowResult_ne_ok _ w ok)

end

theorem windowEnd_of_none (free : s.channels[c].capture = none) : windowEnd c s = s := by
  have ends := endCapture_of_none (s := s) (c := c) (lost := false) (res := windowResult s.channels[c]) free
  have still : s.moveChannel c s.channels[c] false = s := State.setChannel_self s c
  rwa [still] at ends

/-- The end of no capture as the signal is lost. -/
theorem endCapture_lost_of_none (free : x.capture = none) :
    endCapture c .scaleFault (s.moveChannel c x true) =
      { s with channels := s.channels.set c x, ports := faultHeard s } :=
  (endCapture_of_none free).trans moveChannel_lost

end

/-- A reading that would complete a capture but lies below the minimum fails it (R16). -/
theorem goodMessage_below {s : State} {c : Chan} {i : Slot} {t : Ticket} {m : Marker} {x ch : Channel} {status : Status}
    {weight w : Int} (itsCapture : CaptureFor s c i t m) (same : x.capture = s.channels[c].capture)
    (heard : x.state ≠ .fault) (rounded : w = roundWeight s.settings.channels[c].division weight)
    (taken : ch = x.takeReading s.settings.channels[c] status w) (stable : ch.state = .stable)
    (clear : ch.beamsClear = true)
    (light : w < (s.settings.channels[c].minimum * s.settings.channels[c].division : Nat)) :
    goodMessage c status weight (s.setChannel c x) = captureFailed c i t m ch .belowMinimum s := by
  subst rounded taken
  rw [goodMessage_completes heard stable clear, if_neg (not_le.mpr light),
    endCapture_of_captureFor itsCapture (Channel.takeReading_capture.trans same)]
  exact captureFailed_kept s fun w ok => nomatch ok

/-- Settles O30: a capture in flight fails below the minimum, at its window's end and with the signal, and the
channel's timers run out with none in flight. -/
theorem capturesFailAndTimersExpire : Obligations.CapturesFailAndTimersExpire := by
  refine ⟨fun s c i t m itsCapture => ?_, fun s c taking free => ?_⟩
  · refine ⟨fun taking => ?_, fun taking fresh heard => ?_, fun taking held assembling heard reached => ?_,
      fun b breaks heard reached => ?_, fun b status weight good heard => ?_⟩
    · exact congrArg Host.Outcome.next ((whileTaking_of_taking taking).trans (windowEnd_fails itsCapture))
    · refine congrArg Host.Outcome.next ((whileTaking_of_taking taking).trans ?_)
      rw [freshnessEnd_of_running fresh heard]
      exact endCapture_lost itsCapture (by rfl)
    · refine congrArg Host.Outcome.next ((whileTaking_of_taking taking).trans ?_)
      exact (scaleGap_of_assembling assembling).trans
        ((badMessage_reached (x := { s.channels[c] with receiver := .idle }) heard reached).trans
          (endCapture_lost itsCapture (by rfl)))
    · obtain ⟨taking, held, assembling, ends⟩ := breaks
      refine congrArg Host.Outcome.next ((whileTaking_of_taking taking).trans ?_)
      exact (scaleByte_of_breaks assembling ends).trans ((badMessage_reached
        (x := { s.channels[c] with receiver := if b = 0x02 then .assembling [] else .idle }) heard reached).trans
          (endCapture_lost itsCapture (by rfl)))
    · intro st w ch stable clear light
      obtain ⟨taking, -⟩ := id good
      refine congrArg Host.Outcome.next ((whileTaking_of_taking taking).trans ((scaleByte_of_good good).trans ?_))
      exact goodMessage_below (x := { s.channels[c] with receiver := .idle }) (w := w) (ch := ch) itsCapture rfl heard rfl rfl
        stable clear light
  · refine ⟨fun held assembling => ?_, fun b breaks heard reached => ?_, fun fresh heard => ?_, ?_⟩
    · refine congrArg Host.Outcome.next ((whileTaking_of_taking taking).trans ?_)
      rw [scaleGap_of_assembling assembling]
      split
      · rename_i reached
        rw [badMessage_reached (x := { s.channels[c] with receiver := .idle }) reached.2 reached.1]
        exact endCapture_lost_of_none free
      · rename_i below
        refine badMessage_below (x := { s.channels[c] with receiver := .idle }) ?_
        by_cases fault : s.channels[c].state = .fault
        · exact .inl fault
        · exact .inr (not_le.mp fun reached => below ⟨reached, fault⟩)
    · obtain ⟨-, held, assembling, ends⟩ := breaks
      refine congrArg Host.Outcome.next ((whileTaking_of_taking taking).trans ?_)
      exact (scaleByte_of_breaks assembling ends).trans ((badMessage_reached
        (x := { s.channels[c] with receiver := if b = 0x02 then .assembling [] else .idle }) heard reached).trans
          (endCapture_lost_of_none free))
    · refine congrArg Host.Outcome.next ((whileTaking_of_taking taking).trans ?_)
      rw [freshnessEnd_of_running fresh heard]
      exact endCapture_lost_of_none free
    · exact congrArg Host.Outcome.next ((whileTaking_of_taking taking).trans (windowEnd_of_none free))

end Sys2Proof.Machine
end

section
/-! SUPPORT. Captures that complete (1.7, 2.4, 3.2, 3.4, 3.5): what a reading records. -/

namespace Sys2Proof.Machine

section
variable {s : State} {c : Chan} {i : Slot} {t : Ticket} {m : Marker} {x ch : Channel} {status : Status} {weight w : Int}

/-- A reading that completes a capture hands its weight to the ticket that holds the marker (R16, R33). -/
theorem goodMessage_records (itsCapture : CaptureFor s c i t m) (same : x.capture = s.channels[c].capture)
    (heard : x.state ≠ .fault) (rounded : w = roundWeight s.settings.channels[c].division weight)
    (taken : ch = x.takeReading s.settings.channels[c] status w) (stable : ch.state = .stable)
    (clear : ch.beamsClear = true)
    (enough : (s.settings.channels[c].minimum * s.settings.channels[c].division : Nat) ≤ w) :
    goodMessage c status weight (s.setChannel c x) = actOnOutcome i t m (.ok w.toNat) (s.setChannel c ch.uncaptured) := by
  subst rounded taken
  rw [goodMessage_completes heard stable clear, if_pos enough]
  exact endCapture_of_captureFor (lost := false) itsCapture (Channel.takeReading_capture.trans same)

variable (u : State) {v : Nat}

/-- A gross that finds a number issues it (R30, R34, R50). -/
theorem actOnOutcome_gross {n : Nat} (gross : m.purpose = .gross) (counter : u.counter = .valid n) :
    actOnOutcome i t m (.ok v) u =
      ((u.writeCounter (.after n)).setSlot i (some (t.grossed n m.channel v u.seconds))).answerMarker m .ok
        (enc4 n ++ enc4 v) := by
  unfold actOnOutcome
  rw [gross]
  dsimp only
  rw [counter]

theorem actOnOutcome_unnumbered (gross : m.purpose = .gross) (counter : u.counter = .invalid ∨ u.counter = .exhausted) :
    actOnOutcome i t m (.ok v) u = (u.setSlot i none).answerMarker m .noNumber [] := by
  unfold actOnOutcome
  rw [gross]
  dsimp only
  rcases counter with counter | counter <;> rw [counter]

theorem actOnOutcome_dump {g : GradeIx} {final : Bool} (dump : m.purpose = .dump g final) :
    actOnOutcome i t m (.ok v) u =
      (u.putTicket i (t.dumped u.settings g final m.channel v u.seconds)
        ((t.dumped u.settings g final m.channel v u.seconds).state == .weighed)).answerMarker m .ok
        (weighingResponse (t.dumped u.settings g final m.channel v u.seconds)) := by
  unfold actOnOutcome
  rw [dump]

theorem actOnOutcome_bin {g : GradeIx} {k : Container} (bin : m.purpose = .bin g k) :
    actOnOutcome i t m (.ok v) u =
      (u.putTicket i (t.binned u.settings g k m.channel v u.seconds)
        ((t.binned u.settings g k m.channel v u.seconds).state == .weighed)).answerMarker m .ok
        (weighingResponse (t.binned u.settings g k m.channel v u.seconds)) := by
  unfold actOnOutcome
  rw [bin]

end

/-! ### The weighing that is recorded (R46, R47, R52, R57) -/

/-- A ticket with one weighing and one line recorded, its list of lines ended or not. -/
def Ticket.recorded (t : Ticket) (weighing : Weighing) (line : Line) (ends : Bool) : Ticket :=
  { t with
    marker := none, state := if ends then .weighed else t.state, weighings := t.weighings ++ [weighing]
    lines := t.lines ++ [line]
    total := min ((t.lines ++ [line]).map fun l => l.amount).sum 9999999999
    totalClamped := decide (9999999999 < ((t.lines ++ [line]).map fun l => l.amount).sum) }

section
variable {t : Ticket} {st : Settings} {g : GradeIx} {c : Chan} {time : Option Nat}

theorem lines_end_eq (n : Nat) : (n + 1 == Config.maxLines) = decide (n = 7) := by
  rw [Bool.eq_iff_iff, beq_iff_eq, decide_eq_true_iff, Config.maxLines]
  omega

theorem dumped_eq {final ends : Bool} {last : Weighing} {w : Nat} (its : ends = (final || decide (t.lines.length = 7)))
    (weighed : t.weighings.getLast? = some last) :
    t.dumped st g final c w time = t.recorded
      ⟨t.weighings.length + 1, if ends then .tare else .dump, c, w, time, none⟩
      (newLine st g ((last.weight : Int) - w)) ends := by
  have before : lastWeight t.weighings = last.weight := by rw [lastWeight, weighed]; rfl
  rw [Ticket.dumped, before, lines_end_eq, ← its]
  rfl

theorem binned_eq {ends : Bool} {k : Container} {w : Nat} (its : ends = decide (t.lines.length = 7)) :
    t.binned st g k c w time = t.recorded ⟨t.weighings.length + 1, .bin, c, w, time, some k⟩
      (newLine st g ((w : Int) - tareOf st k)) ends := by
  rw [Ticket.binned, lines_end_eq, ← its]
  rfl

theorem weighingResponse_recorded (t : Ticket) (weighing : Weighing) (line : Line) (ends : Bool) :
    weighingResponse (t.recorded weighing line ends) =
      enc4 (t.number.getD 0) ++ weighing.enc ++ line.enc ++ (t.recorded weighing line ends).state.enc ++
        enc5 (t.recorded weighing line ends).total ++ encFlag (t.recorded weighing line ends).totalClamped := by
  have weighings : (t.recorded weighing line ends).weighings.getLast? = some weighing := List.getLast?_concat
  have lines : (t.recorded weighing line ends).lines.getLast? = some line := List.getLast?_concat
  rw [weighingResponse, weighings, lines]
  rfl

theorem tareOf_cast (st : Settings) (k : Container) :
    (tareOf st k : Int) = if k = 0 then 0 else (st.tares[k] : Int) := by
  unfold tareOf
  split <;> rfl

end

/-! ### What the ports hear (R28, R33) -/

section
variable {s : State} {c : Chan} {i : Slot} {t : Ticket} {m : Marker} {y : Channel} {b : Bool} {o : OutcomeCode}
  {d : List Byte}

theorem putTicket_get (s : State) (i : Slot) (t : Ticket) (b : Bool) (q : Port) :
    (s.putTicket i t b).ports[q] = latchedIf (b && decide (s.ports[q].role = .payout)) .ticketReady s.ports[q] := by
  cases b with
  | false => rfl
  | true => exact putTicket_weighed_get q

theorem answerMarker_get (u : State) (q : Port) : (u.answerMarker m o d).ports[q] =
    if m.port = q then answeredPort u.ports[m.port] ⟨m.tag, m.purpose.code, o, d⟩ else u.ports[q] :=
  u.respond_get m.port q _

/-- What a recorded ticket leaves of the state and of the ports. -/
theorem recorded_frame (t' : Ticket) :
    ((s.setChannel c y).putTicket i t' b).answerMarker m o d =
      { s with
        channels := s.channels.set c y, slots := s.slots.set i (some t')
        ports := (((s.setChannel c y).putTicket i t' b).answerMarker m o d).ports } := by
  cases b <;> rfl

end

/-- A completing reading of a dump or a bin is recorded as one weighing and one line (R46, R47, R52, R57). -/
theorem actOnOutcome_recorded {i : Slot} {t : Ticket} {m : Marker} {g : GradeIx} {net w : Int} {ends : Bool}
    {kind : WeighingKind} {container : Option Container} (u : State) (positive : 0 ≤ w)
    (its : (∃ final, m.purpose = .dump g final ∧ ends = (final || decide (t.lines.length = 7)) ∧
        (∃ last, t.weighings.getLast? = some last ∧ net = (last.weight : Int) - w) ∧
        kind = (if ends then .tare else .dump) ∧ container = none) ∨
      (∃ k, m.purpose = .bin g k ∧ ends = decide (t.lines.length = 7) ∧
        net = w - (if k = 0 then 0 else (u.settings.tares[k] : Int)) ∧ kind = .bin ∧ container = some k)) :
    let t' := t.recorded ⟨t.weighings.length + 1, kind, m.channel, w.toNat, u.seconds, container⟩
      (newLine u.settings g net) ends
    actOnOutcome i t m (.ok w.toNat) u =
      (u.putTicket i t' (t'.state == .weighed)).answerMarker m .ok (weighingResponse t') := by
  have weight : (w.toNat : Int) = w := Int.toNat_of_nonneg positive
  intro t'
  rcases its with ⟨final, dump, ending, ⟨last, weighed, rfl⟩, rfl, rfl⟩ | ⟨k, bin, ending, rfl, rfl, rfl⟩
  · have same : t.dumped u.settings g final m.channel w.toNat u.seconds = t' := by
      rw [dumped_eq ending weighed, weight]
    rw [actOnOutcome_dump u dump, same]
  · have same : t.binned u.settings g k m.channel w.toNat u.seconds = t' := by
      rw [binned_eq ending, weight, tareOf_cast]
    rw [actOnOutcome_bin u bin, same]

/-- Settles O29: a reading that completes a capture issues a number with the gross, or records a dump or a bin. -/
theorem capturesComplete : Obligations.CapturesComplete := by
  refine ⟨?_, ?_⟩
  · intro s c b status weight i t m good itsCapture gross heard st w ch stable clear enough
    obtain ⟨taking, -⟩ := id good
    have recorded : exec (.scaleByteReceived c b) s =
        .next (actOnOutcome i t m (.ok w.toNat) (s.setChannel c ch.uncaptured)) :=
      congrArg Host.Outcome.next ((whileTaking_of_taking taking).trans ((scaleByte_of_good good).trans
        (goodMessage_records (x := { s.channels[c] with receiver := .idle }) (w := w) (ch := ch) itsCapture rfl heard rfl
          rfl stable clear enough)))
    obtain ⟨-, -, -, rfl⟩ := itsCapture
    refine ⟨fun n counter => ?_, fun counter => ?_⟩
    · rw [recorded, actOnOutcome_gross (s.setChannel m.channel ch.uncaptured) gross counter, State.answerMarker, gross]
      rfl
    · rw [recorded, actOnOutcome_unnumbered (s.setChannel m.channel ch.uncaptured) gross counter, State.answerMarker, gross]
      rfl
  · intro s c b status weight i t m g net ends kind container good itsCapture heard st w ch its stable clear enough
    obtain ⟨taking, -⟩ := id good
    have recorded : exec (.scaleByteReceived c b) s =
        .next (actOnOutcome i t m (.ok w.toNat) (s.setChannel c ch.uncaptured)) :=
      congrArg Host.Outcome.next ((whileTaking_of_taking taking).trans ((scaleByte_of_good good).trans
        (goodMessage_records (x := { s.channels[c] with receiver := .idle }) (w := w) (ch := ch) itsCapture rfl heard rfl
          rfl stable clear enough)))
    obtain ⟨-, -, -, rfl⟩ := itsCapture
    have positive : 0 ≤ w := le_trans (Int.natCast_nonneg _) enough
    rw [actOnOutcome_recorded (s.setChannel m.channel ch.uncaptured) positive its, weighingResponse_recorded] at recorded
    intro weighing line sum t' latched
    have judged (x : StationPort) : ((t'.state == .weighed) && decide (x.role = .payout)) =
        decide (t'.state = .weighed ∧ x.role = .payout) := by
      rw [beq_eq_decide, Bool.decide_and]
    refine ⟨_, recorded, recorded_frame t', fun q other => ?_, ?_⟩
    · rw [answerMarker_get, if_neg (Ne.symm other), putTicket_get]
      exact congrArg (latchedIf · .ticketReady s.ports[q]) (judged _)
    · rw [answerMarker_get, if_pos rfl, putTicket_get]
      exact congrArg (fun k => answeredPort (latchedIf k .ticketReady s.ports[m.port]) _) (judged _)

end Sys2Proof.Machine
end

section

/-! SUPPORT. A good scale message byte by byte (1.3, 10.9.5): the fields it spells, what they are judged to be, and
the bytes held one after another. -/

namespace Sys2Proof.Machine

/-! ### The characters of a message -/

/-- The hexadecimal character of a digit below 16 (10.9.5). -/
def hexByte (n : Nat) : Byte := BitVec.ofNat 8 (if n < 10 then 0x30 + n else 0x37 + n)

/-- The seven decimal digits of a weight, leading zeros included (10.9.5). -/
def weightDigits (w : Nat) : List Byte := (List.range 7).map fun k => BitVec.ofNat 8 (0x30 + w / 10 ^ (6 - k) % 10)

def statusLetter (st : Fin 5) : Byte := [(0x53 : Byte), 0x4D, 0x4F, 0x55, 0x45][st]

def letterStatus (st : Fin 5) : Status := [Status.stable, .motion, .overload, .underload, .error][st]

def signByte (negative : Bool) : Byte := if negative then 0x2D else 0x2B

theorem statusOf_letter : ∀ st, statusOf (statusLetter st) = some (letterStatus st) := by decide

theorem signOf_signByte : ∀ negative, signOf (signByte negative) = some negative := by decide

theorem hexValue_hexByte {n : Nat} (small : n < 16) : hexValue (hexByte n) = some n := by
  have all : ∀ k : Fin 16, hexValue (hexByte k.val) = some k.val := by decide
  exact all ⟨n, small⟩

theorem digitValue_digit {d : Nat} (small : d < 10) : digitValue (BitVec.ofNat 8 (0x30 + d)) = some d := by
  have all : ∀ k : Fin 10, digitValue (BitVec.ofNat 8 (0x30 + k.val)) = some k.val := by decide
  exact all ⟨d, small⟩

theorem hexByte_ne_start {n : Nat} (small : n < 16) : hexByte n ≠ 0x02 := by
  have all : ∀ k : Fin 16, hexByte k.val ≠ 0x02 := by decide
  exact all ⟨n, small⟩

theorem digit_ne_start {d : Nat} (small : d < 10) : BitVec.ofNat 8 (0x30 + d) ≠ 0x02 := by
  have all : ∀ k : Fin 10, BitVec.ofNat 8 (0x30 + k.val) ≠ 0x02 := by decide
  exact all ⟨d, small⟩

theorem weightDigits_length (w : Nat) : (weightDigits w).length = 7 := by simp [weightDigits]

theorem decimalValue_weightDigits {w : Nat} (fits : w < 10000000) : decimalValue (weightDigits w) = some w := by
  have digit (k : Nat) := digitValue_digit (Nat.mod_lt (w / 10 ^ k) (by decide : 0 < 10))
  have unrolled : weightDigits w = [6, 5, 4, 3, 2, 1, 0].map fun k => BitVec.ofNat 8 (0x30 + w / 10 ^ k % 10) := rfl
  simp only [decimalValue, unrolled, List.map_cons, List.map_nil, List.foldl_cons, List.foldl_nil, Option.bind_some,
    digit, Option.map_some, Option.some.injEq]
  omega

/-! ### The message -/

/-- The nine bytes of a message that its check covers (R4). -/
def messageFields (st : Fin 5) (negative : Bool) (w : Nat) : List Byte :=
  [statusLetter st, signByte negative] ++ weightDigits w

def fieldSum (fields : List Byte) : Nat := (fields.map fun b => b.toNat).sum % 256

/-- The eleven bytes between the marks (R4). -/
def messageBody (st : Fin 5) (negative : Bool) (w : Nat) : List Byte :=
  messageFields st negative w ++
    [hexByte (fieldSum (messageFields st negative w) / 16), hexByte (fieldSum (messageFields st negative w) % 16)]

theorem fieldSum_lt (fields : List Byte) : fieldSum fields < 256 := Nat.mod_lt _ (by decide)

theorem messageBody_length (st : Fin 5) (negative : Bool) (w : Nat) : (messageBody st negative w).length = 11 := by
  simp [messageBody, messageFields, weightDigits_length]

theorem messageBody_ne_start {st : Fin 5} {negative : Bool} {w : Nat} : ∀ b ∈ messageBody st negative w, b ≠ 0x02 := by
  have letters : ∀ st, statusLetter st ≠ 0x02 := by decide
  have signs : ∀ negative, signByte negative ≠ 0x02 := by decide
  have sum := fieldSum_lt (messageFields st negative w)
  intro b listed
  rcases List.mem_append.mp listed with field | check
  · rcases List.mem_append.mp field with start | digit
    · rcases List.mem_pair.mp start with rfl | rfl
      · exact letters st
      · exact signs negative
    · obtain ⟨k, -, rfl⟩ := List.mem_map.mp digit
      exact digit_ne_start (Nat.mod_lt _ (by decide))
  · rcases List.mem_pair.mp check with rfl | rfl
    · exact hexByte_ne_start (by omega)
    · exact hexByte_ne_start (by omega)

theorem byteSum_toNat (fields : List Byte) : (byteSum fields).toNat = fieldSum fields := by
  have folded : ∀ (bytes : List Byte) (start : Byte),
      (bytes.foldl (· + ·) start).toNat = (start.toNat + (bytes.map fun b => b.toNat).sum) % 256 := by
    intro bytes
    induction bytes with
    | nil => intro start; simpa using (Nat.mod_eq_of_lt start.isLt).symm
    | cons b rest ih =>
      intro start
      rw [List.foldl_cons, ih, List.map_cons, List.sum_cons, BitVec.toNat_add]
      omega
  rw [byteSum, folded, fieldSum]
  simp

/-- A message whose parts stand for a status, a sign, a weight and its check is good (R4). -/
theorem judgeMessage_of_parts {a b hi lo : Byte} {rest : List Byte} {status : Status} {negative : Bool} {w h l : Nat}
    (letter : statusOf a = some status) (sign : signOf b = some negative) (digits : decimalValue (rest.take 7) = some w)
    (last : rest.drop 7 = [hi, lo]) (high : hexValue hi = some h) (low : hexValue lo = some l)
    (check : h * 16 + l = (byteSum ((a :: b :: rest).take 9)).toNat) :
    judgeMessage (a :: b :: rest) 0x0D = some (status, if negative then -(w : Int) else w) := by
  simp only [judgeMessage, letter, sign, digits, last, high, low]
  exact if_pos ⟨rfl, check⟩

theorem judgeMessage_messageBody {st : Fin 5} {negative : Bool} {w : Nat} (fits : w < 10000000) :
    judgeMessage (messageBody st negative w) 0x0D =
      some (letterStatus st, if negative then -(w : Int) else w) := by
  have sum := fieldSum_lt (messageFields st negative w)
  have check : fieldSum (messageFields st negative w) / 16 * 16 + fieldSum (messageFields st negative w) % 16 =
      (byteSum (messageFields st negative w)).toNat := by
    rw [byteSum_toNat]
    omega
  exact judgeMessage_of_parts (statusOf_letter st) (signOf_signByte negative) (decimalValue_weightDigits fits) rfl
    (hexValue_hexByte (by omega)) (hexValue_hexByte (by omega)) check

/-! ### Byte by byte -/

/-- One byte more at channel `c`, after the bytes so far. -/
def hearByte (c : Chan) (o : Option State) (b : Byte) : Option State :=
  match o with
  | some u => match exec (.scaleByteReceived c b) u with
    | .next u' => some u'
    | _ => none
  | none => none

variable {s : State} {c : Chan}

theorem hearByte_of_taking (taking : s.taking = true) (b : Byte) : hearByte c (some s) b = some (scaleByte c b s) := by
  have taken : exec (.scaleByteReceived c b) s = .next (scaleByte c b s) :=
    congrArg Host.Outcome.next (whileTaking_of_taking taking)
  rw [hearByte, taken]

theorem hears_held (taking : s.taking = true) (x : Channel) (bytes held : List Byte)
    (other : ∀ b ∈ bytes, b ≠ 0x02) (room : held.length + bytes.length ≤ 11) :
    bytes.foldl (hearByte c) (some (s.setChannel c { x with receiver := .assembling held })) =
      some (s.setChannel c { x with receiver := .assembling (held ++ bytes) }) := by
  induction bytes generalizing held with
  | nil => rw [List.foldl_nil, List.append_nil]
  | cons b rest ih =>
    rw [List.length_cons] at room
    have heldOne : scaleByte c b (s.setChannel c { x with receiver := .assembling held }) =
        s.setChannel c { x with receiver := .assembling (held ++ [b]) } := by
      rw [scaleByte_of_held (held := held) (congrArg Channel.receiver (State.setChannel_get_self ..))
        (other b (List.mem_cons_self ..)) (by omega)]
      rw [State.setChannel_get_self]
      exact State.setChannel_setChannel ..
    have taken : (s.setChannel c { x with receiver := .assembling held }).taking = true := taking
    rw [List.foldl_cons, hearByte_of_taking taken, heldOne,
      ih (held ++ [b]) (fun b' listed => other b' (List.mem_cons_of_mem _ listed))
        (by rw [List.length_append, List.length_singleton]; omega), List.append_assoc]
    rfl

theorem receiver_idle {x : Channel} {held : List Byte} (idle : x.receiver = .idle) :
    { { x with receiver := .assembling held } with receiver := .idle } = x := by
  rw [← idle]

/-- Settles O27: the thirteen bytes of a good message end in the reading it spells. -/
theorem scaleMessagesDecode : Obligations.ScaleMessagesDecode := by
  intro c st negative w fits letter status digits fields hex sum weight
  have judged : judgeMessage (messageBody st negative w) 0x0D = some (status, weight) :=
    judgeMessage_messageBody fits
  refine ⟨judged, fun s taking idle heard free => ?_⟩
  change ([0x02] ++ fields ++ [hex (sum / 16), hex (sum % 16), 0x0D]).foldl (hearByte c) (some s) = _
  have bytes : [0x02] ++ fields ++ [hex (sum / 16), hex (sum % 16), 0x0D] =
      0x02 :: (messageBody st negative w ++ [0x0D]) := rfl
  have started : scaleByte c 0x02 s = s.setChannel c { s.channels[c] with receiver := .assembling [] } :=
    (scaleByte_of_idle idle).trans (if_pos rfl)
  have all : (messageBody st negative w).foldl (hearByte c)
      (some (s.setChannel c { s.channels[c] with receiver := .assembling [] })) =
      some (s.setChannel c { s.channels[c] with receiver := .assembling (messageBody st negative w) }) :=
    hears_held taking _ _ [] messageBody_ne_start (by rw [messageBody_length]; decide)
  have good : GoodMessageAt (s.setChannel c { s.channels[c] with receiver := .assembling (messageBody st negative w) })
      c 0x0D status weight :=
    ⟨taking, rfl, _, congrArg Channel.receiver (State.setChannel_get_self ..), messageBody_length st negative w, judged⟩
  have taken : (s.setChannel c { s.channels[c] with receiver := .assembling (messageBody st negative w) }).taking =
      true := taking
  rw [bytes, List.foldl_cons, hearByte_of_taking taking, started, List.foldl_append, all, List.foldl_cons,
    List.foldl_nil, hearByte_of_taking taken, scaleByte_of_good good, State.setChannel_get_self,
    State.setChannel_setChannel, receiver_idle idle, goodMessage_waits heard (Or.inl free)]
  rfl

end Sys2Proof.Machine
end

section

/-! SUPPORT. An accepted PAY as one event (R94, R95): the books, the receipt and the drawer, and what the seller's
tally entry becomes. -/

namespace Sys2Proof.Machine

section
variable {s : State} {p : Port} {i : Slot} {t : Ticket} {m : Method} {printer : Printer} {jn : JobNo} {n : Nat}

theorem kickDrawer_actsOnSpool (k : Printer) : ActsOnSpool (·.kickDrawer k) := by
  intro u s same
  have settings : (withSpool u s).settings = s.settings := same
  have engine : (withSpool u s).printers[k] = s.printers[k] := rfl
  dsimp only [State.kickDrawer]
  rw [settings, engine]
  cases s.printers[k].train <;> rfl

/-! ### The event (R94, R95) -/

/-- The spool after the receipt of a payment, and for CASH the drawer's kick (R95, R163). -/
def State.receipted (s : State) (printer : Printer) (jn : JobNo) (m : Method) (record : CloseRecord) : State :=
  let spooled := s.handOver jn printer s.settings.receiptCopies false record
  if m = .cash then spooled.kickDrawer printer else spooled

theorem receipted_withSpool (u s : State) (record : CloseRecord) (same : u.settings = s.settings) :
    (withSpool u s).receipted printer jn m record = withSpool u (s.receipted printer jn m record) := by
  have settings : (withSpool u s).settings = s.settings := same
  unfold State.receipted
  rw [settings]
  split
  · exact ((kickDrawer_actsOnSpool printer).comp (handOver_actsOnSpool jn printer _ false record)) u s same
  · exact handOver_actsOnSpool jn printer _ false record u s same

/-- The books of a payment, and the ports where TOTAL_SATURATED is latched (R94, R110). -/
theorem payBooks_spec (record : CloseRecord) :
    ∃ ports, payBooks i t m record s = { s with
        tally := (s.tallied t m).tally
        totals := s.totals.addPayment m (paidFigures m t.total s.settings.cashStep).1
          (paidFigures m t.total s.settings.cashStep).2 t.lines
        journal := s.journal ++ [.close record], slots := s.slots.set i none, ports := ports } ∧
      ∀ q : Port, ports[q] = latchedIf (newlyMarked s.totals (s.totals.addPayment m
          (paidFigures m t.total s.settings.cashStep).1 (paidFigures m t.total s.settings.cashStep).2 t.lines) &&
        decide (s.ports[q].role = .office)) .totalSaturated s.ports[q] := by
  obtain ⟨ports, frame, latched⟩ := setTotals_spec (s.tallied t m) ((s.tallied t m).totals.addPayment m
    (paidFigures m t.total s.settings.cashStep).1 (paidFigures m t.total s.settings.cashStep).2 t.lines)
  unfold payBooks
  dsimp only
  rw [frame]
  rw [State.tallied_eq] at latched ⊢
  exact ⟨ports, rfl, latched⟩

theorem payEffects_books (p : Port) (i : Slot) (t : Ticket) (m : Method) (printer : Printer) (jn : JobNo) (s : State) :
    payEffects p i t m printer jn s =
      withSpool (payBooks i t m (paidRecord s t p m) s) (s.receipted printer jn m (paidRecord s t p m)) := by
  rw [payEffects_eq]
  obtain ⟨ports, books, -⟩ := payBooks_spec (s := s) (i := i) (t := t) (m := m) (paidRecord s t p m)
  rw [books]
  exact receipted_withSpool { s with
        tally := (s.tallied t m).tally
        totals := s.totals.addPayment m (paidFigures m t.total s.settings.cashStep).1
          (paidFigures m t.total s.settings.cashStep).2 t.lines
        journal := s.journal ++ [.close (paidRecord s t p m)], slots := s.slots.set i none, ports := ports } s _ rfl

/-! ### The seller's entry (R94) -/

theorem tallied_of_unpaid (h : m ≠ .cash ∨ t.seller = none) : s.tallied t m = s := by
  unfold State.tallied
  split
  · rename_i id seller
    rcases h with other | unknown
    · exact absurd rfl other
    · rw [unknown] at seller
      cases seller
  · rfl

theorem tallyPayment_of_way {id : Text} {c : Nat} {w : Fin 4} (way : s.tallyWay id = some w) :
    s.tallyPayment id c n = s.setTally (tallyBucket id) w
      { seller := id, cashToday := s.tallyOf id + c
        payouts := min 255 (((s.tallyEntry id).map fun e => e.payouts).getD 0 + 1), lastTicket := n } := by
  obtain ⟨e, entry, -⟩ := tallyWay_some way
  have found : s.tallyEntry id = some e := by rw [State.tallyEntry, way, Option.bind_some, entry]
  simp only [State.tallyPayment, State.tallyOf, way, found, Option.map_some, Option.getD_some]

theorem tallyPayment_of_empty {id : Text} {c : Nat} {w : Fin 4} (way : s.tallyWay id = none)
    (empty : s.emptyWay id = some w) : s.tallyPayment id c n = s.setTally (tallyBucket id) w
      { seller := id, cashToday := s.tallyOf id + c
        payouts := min 255 (((s.tallyEntry id).map fun e => e.payouts).getD 0 + 1), lastTicket := n } := by
  have unfound : s.tallyEntry id = none := by rw [State.tallyEntry, way, Option.bind_none]
  simp only [State.tallyPayment, State.tallyOf, way, unfound, empty, Option.map_some, Option.map_none, Option.getD_none]

/-- A seller's payment takes the way that names the seller, or else the lowest empty one. -/
theorem tallyPayment_entry {id : Text} {c : Nat} (room : s.tallyWay id ≠ none ∨ s.emptyWay id ≠ none) :
    ∃ w, (s.tallyWay id = some w ∨ (s.tallyWay id = none ∧ s.emptyWay id = some w)) ∧
      s.tallyPayment id c n = s.setTally (tallyBucket id) w
        { seller := id, cashToday := s.tallyOf id + c
          payouts := min 255 (((s.tallyEntry id).map fun e => e.payouts).getD 0 + 1), lastTicket := n } := by
  cases way : s.tallyWay id with
  | some w => exact ⟨w, Or.inl rfl, tallyPayment_of_way way⟩
  | none =>
    obtain ⟨w, empty⟩ := Option.ne_none_iff_exists'.mp (room.resolve_left (· way))
    exact ⟨w, Or.inr ⟨rfl, empty⟩, tallyPayment_of_empty way empty⟩

theorem tallied_of_seller {id : Text} (cash : m = .cash) (seller : t.seller = some id) :
    s.tallied t m = s.tallyPayment id (paidFigures m t.total s.settings.cashStep).1 (t.number.getD 0) := by
  subst cash
  simp only [State.tallied, seller]

/-! ### The acceptance (R91 to R93) -/

theorem payRefusal_eq_none (window : t.state = .atWindow) (own : (t.window.any fun w => w.holder != p) = false)
    (priced : (t.lines.any fun l => l.unpriced) = false) (whole : t.totalClamped = false)
    (known : t.seller = none → t.total ≤ s.settings.anonThreshold ∧ (t.lines.any fun l => l.restricted) = false) :
    payRefusal s p t = none := by
  rw [payRefusal_eq, if_neg (by simp [own]), if_neg (not_not.mpr window), if_neg (by simp [priced]),
    if_neg (by simp [whole]), if_neg]
  rintro ⟨unknown, above | restricted⟩
  · exact absurd (known unknown).1 (Nat.not_le.mpr above)
  · exact absurd (known unknown).2 (ne_false_of_eq_true restricted)

theorem cashRefusal_eq_none (free : (t.lines.any fun l => l.restricted) = false) (limit : s.settings.cashLimit ≠ 0)
    (seller : ∀ id, t.seller = some id → (s.tallyWay id ≠ none ∨ s.emptyWay id ≠ none) ∧
      s.tallyOf id + cashAmount t.total s.settings.cashStep ≤ s.settings.cashLimit) : cashRefusal s t = none := by
  rw [cashRefusal_eq, if_neg (ne_true_of_eq_false free), if_neg limit, if_neg, if_neg]
  · rw [Option.any_eq_true]
    rintro ⟨id, itsSeller, above⟩
    exact absurd (seller id itsSeller).2 (Nat.not_le.mpr (of_decide_eq_true above))
  · rw [Option.any_eq_true]
    rintro ⟨id, itsSeller, full⟩
    rw [Bool.and_eq_true, Option.isNone_iff_eq_none, Option.isNone_iff_eq_none] at full
    obtain ⟨unfound, filled⟩ := full
    exact (seller id itsSeller).1.elim (· unfound) (· filled)

theorem settle_accepted {r : Req} (room : s.journal.length < 128)
    (named : s.settings.printersOf[r.port][(0 : Fin 4)] = some printer)
    (place : s.roomFor false (paidRecord s t r.port m) = some jn) :
    settle r i t m s = answer r .ok (payResponse s t m jn) (payEffects r.port i t m printer jn s) := by
  have entry : s.printerOf r.port 0 = some printer := named
  rw [settle, if_neg (mt journalFull_iff.mp (Nat.not_le.mpr room)), entry]
  simp only [paidRecord] at place
  simp only [place]

theorem payResponse_eq (s : State) (t : Ticket) (m : Method) (jn : JobNo) :
    payResponse s t m jn =
      enc4 (t.number.getD 0) ++ m.enc ++ enc5 (paidFigures m t.total s.settings.cashStep).1 ++
        enc5 (paidFigures m t.total s.settings.cashStep).2 ++ enc1 jn.val ++
        encOpt (fun c => enc5 c ++ enc5 (s.settings.cashLimit - c))
          (if decide (m = .cash) then t.seller.map fun id => s.tallyOf id + (paidFigures m t.total s.settings.cashStep).1
            else none) := by
  cases m <;> rfl

end

/-- Settles O36: an accepted PAY settles tally, totals, journal, slot, receipt and drawer in one event. -/
theorem paySettlesInOneEvent : Obligations.PaySettlesInOneEvent := by
  intro s p tag n m i t printer jn hn granted ticket cash paid rounding record window own priced whole known cashed room
    named pages lowest spooled totals
  obtain ⟨-, -, -, number, -⟩ := id ticket
  have figures : paidFigures m t.total s.settings.cashStep = (paid, rounding) := paidFigures_eq m _ _
  have records : paidRecord s t p m = record := by
    rw [paidRecord, figures, closeRecordOf, number]
    rfl
  have judged : pay ⟨p, tag, 0x32, enc4 n ++ m.enc⟩ s = answer ⟨p, tag, 0x32, enc4 n ++ m.enc⟩ .ok
      (payResponse s t m jn) (payEffects p i t m printer jn s) := by
    refine (pay_of_form hn rfl).trans ((onTicket_of_ticketAt _ _ ticket).trans ((payOn_judged
      (payRefusal_eq_none window own priced whole known) fun itsCash => ?_).trans (settle_accepted room named ?_)))
    · obtain ⟨free, limit, seller⟩ := cashed (decide_eq_true itsCash)
      refine cashRefusal_eq_none free limit fun id itsSeller => ?_
      have paidCash : paid = cashAmount t.total s.settings.cashStep := if_pos (decide_eq_true itsCash)
      rw [← paidCash]
      exact seller id itsSeller
    · rw [records]
      exact roomFor_of_lowest pages lowest
  obtain ⟨ports, books, latched⟩ := payBooks_spec (s := s) (i := i) (t := t) (m := m) record
  have effects := payEffects_books p i t m printer jn s
  rw [records, books] at effects
  rw [figures] at effects latched
  rw [effects, payResponse_eq, number, figures] at judged
  obtain ⟨u, next, apart, answered⟩ := answers_after pay_served granted judged latched rfl
  have spool : s.receipted printer jn m record = if cash then spooled.kickDrawer printer else spooled := by
    unfold State.receipted
    split
    · exact (if_pos (decide_eq_true ‹_›)).symm
    · exact (if_neg (by simpa [cash])).symm
  rw [spool] at apart
  have tally : u.tally = (s.tallied t m).tally := by rw [apart]; rfl
  refine ⟨u, next, ?_, answered, fun id itsCash seller => ?_, fun unpaid => ?_⟩
  · rw [tally]
    exact apart
  · obtain ⟨-, -, seller'⟩ := cashed itsCash
    obtain ⟨w, way, entry⟩ := tallyPayment_entry (n := n) (c := paid) (seller' id seller).1
    rw [tally, tallied_of_seller (of_decide_eq_true itsCash) seller, figures, number]
    exact ⟨w, way, congrArg State.tally entry⟩
  · rw [tally, tallied_of_unpaid (unpaid.imp_left fun other => of_decide_eq_false other)]

end Sys2Proof.Machine
end

section

/-! SUPPORT. The composer's figures and the layout of a line (R120 to R125): a figure read back, and a line cut into
cells, each with its own fields. -/

namespace Sys2Proof.Machine

/-! ### Figures (R120) -/

theorem digit_toNat {d : Nat} (small : d < 10) : (BitVec.ofNat 8 (0x30 + d)).toNat = 0x30 + d :=
  Nat.mod_eq_of_lt (by omega)

/-- Digits read from the last one on spell the number. -/
theorem foldr_digitsFromLast {fuel n : Nat} (fits : n < 10 ^ fuel) :
    (digitsFromLast fuel n).foldr (fun b v => 10 * v + (b.toNat - 0x30)) 0 = n := by
  induction fuel generalizing n with
  | zero => exact (Nat.lt_one_iff.mp fits).symm
  | succ fuel ih =>
    have last := digit_toNat (Nat.mod_lt n (by decide : 0 < 10))
    rw [digitsFromLast, List.foldr_cons, last]
    split
    · rw [List.foldr_nil]
      omega
    · rw [ih (by rw [pow_succ] at fits; omega)]
      omega

theorem digitsFromLast_digits {fuel n : Nat} : ∀ b ∈ digitsFromLast fuel n, 0x30 ≤ b.toNat ∧ b.toNat ≤ 0x39 := by
  induction fuel generalizing n with
  | zero => exact fun b listed => absurd listed List.not_mem_nil
  | succ fuel ih =>
    intro b listed
    rw [digitsFromLast] at listed
    have last := Nat.mod_lt n (by decide : 0 < 10)
    rcases List.mem_cons.mp listed with rfl | rest
    · rw [digit_toNat last]
      omega
    · split at rest
      · exact absurd rest List.not_mem_nil
      · exact ih b rest

theorem decimal_readsAs {n : Nat} (fits : n < 10 ^ 20) : ReadsAs (decimal n) n := by
  refine ⟨fun b listed => digitsFromLast_digits b (List.mem_reverse.mp listed), ?_⟩
  rw [decimal, List.foldl_reverse]
  exact foldr_digitsFromLast fits

theorem decimal_ne_nil (n : Nat) : decimal n ≠ [] := by
  rw [decimal, Ne, List.reverse_eq_nil_iff, digitsFromLast]
  exact List.cons_ne_nil _ _

theorem digitsFromLast_getLast {fuel n : Nat} (fits : n < 10 ^ fuel) (positive : 0 < n) :
    (digitsFromLast fuel n).getLast? ≠ some 0x30 := by
  induction fuel generalizing n with
  | zero => exact absurd fits (Nat.not_lt.mpr positive)
  | succ fuel ih =>
    rw [digitsFromLast]
    split
    · intro zero
      rw [List.getLast?_singleton] at zero
      have value := congrArg BitVec.toNat (Option.some.inj zero)
      rw [digit_toNat (Nat.mod_lt n (by decide))] at value
      have literal : (0x30 : Byte).toNat = 0x30 := rfl
      omega
    · have later := ih (n := n / 10) (by rw [pow_succ] at fits; omega) (by omega)
      cases rest : digitsFromLast fuel (n / 10) with
      | nil =>
        exfalso
        cases fuel with
        | zero => rw [pow_succ, pow_zero] at fits; omega
        | succ fuel => exact absurd rest (List.cons_ne_nil _ _)
      | cons b bs =>
        rw [List.getLast?_cons_cons, ← rest]
        exact later

theorem decimal_head {n : Nat} (fits : n < 10 ^ 20) (large : 9 < n) : (decimal n).head? ≠ some 0x30 := by
  rw [decimal, List.head?_reverse]
  exact digitsFromLast_getLast fits (by omega)

theorem digitsFromLast_length_le {fuel n digits : Nat} (fits : n < 10 ^ (digits + 1)) :
    (digitsFromLast fuel n).length ≤ digits + 1 := by
  induction fuel generalizing n digits with
  | zero => exact Nat.zero_le _
  | succ fuel ih =>
    rw [digitsFromLast, List.length_cons]
    split
    · exact Nat.succ_le_succ (Nat.zero_le _)
    · cases digits with
      | zero => rw [pow_succ, pow_zero] at fits; omega
      | succ digits => exact Nat.succ_le_succ (ih (by rw [pow_succ] at fits; omega))

theorem decimal_length_le {n digits : Nat} (fits : n < 10 ^ (digits + 1)) : (decimal n).length ≤ digits + 1 := by
  rw [decimal, List.length_reverse]
  exact digitsFromLast_length_le fits

theorem zeroPadded_length (w n : Nat) : (zeroPadded w n).length = w := by
  induction w with
  | zero => rfl
  | succ w ih => rw [zeroPadded, List.length_cons, ih]

theorem foldl_zeroPadded (w n v : Nat) :
    (zeroPadded w n).foldl (fun v b => 10 * v + (b.toNat - 0x30)) v = 10 ^ w * v + n % 10 ^ w := by
  induction w generalizing v with
  | zero => simp [zeroPadded, Nat.mod_one]
  | succ w ih =>
    rw [zeroPadded, List.foldl_cons, ih, digit_toNat (Nat.mod_lt _ (by decide)), Nat.add_sub_cancel_left,
      pow_succ, Nat.mod_mul]
    ring

theorem zeroPadded_digits {w n : Nat} : ∀ b ∈ zeroPadded w n, 0x30 ≤ b.toNat ∧ b.toNat ≤ 0x39 := by
  induction w with
  | zero => exact fun b listed => absurd listed List.not_mem_nil
  | succ w ih =>
    intro b listed
    have digit := Nat.mod_lt (n / 10 ^ w) (by decide : 0 < 10)
    rcases List.mem_cons.mp listed with rfl | rest
    · rw [digit_toNat digit]
      omega
    · exact ih b rest

theorem zeroPadded_readsAs (w n : Nat) : ReadsAs (zeroPadded w n) (n % 10 ^ w) := by
  refine ⟨zeroPadded_digits, ?_⟩
  rw [foldl_zeroPadded, Nat.mul_zero, Nat.zero_add]

theorem weightText_length {w digits : Nat} (fits : w / 10 < 10 ^ (digits + 1)) :
    (weightText w).length ≤ digits + 3 := by
  rw [weightText, List.length_append, List.length_append, zeroPadded_length]
  exact Nat.add_le_add_right (Nat.add_le_add_right (decimal_length_le fits) 1) 1

theorem priceText_length {p digits : Nat} (fits : p / 1000 < 10 ^ (digits + 1)) :
    (priceText p).length ≤ digits + 5 := by
  rw [priceText, List.length_append, List.length_append, zeroPadded_length]
  exact Nat.add_le_add_right (Nat.add_le_add_right (decimal_length_le fits) 1) 3

theorem amountText_length {a digits : Nat} (fits : a / 100 < 10 ^ (digits + 1)) :
    (amountText a).length ≤ digits + 4 := by
  rw [amountText, List.length_append, List.length_append, zeroPadded_length]
  exact Nat.add_le_add_right (Nat.add_le_add_right (decimal_length_le fits) 1) 2

theorem optTimeText_length (time : Option Nat) : (optTimeText time).length = 8 := by
  cases time with
  | none => decide
  | some t =>
    simp only [optTimeText, timeText, List.length_append, zeroPadded_length]
    decide

/-! ### Cells of a line (R120, R121) -/

/-- The character that fields give a column: the first one that covers it, and a space where none does (7.4). -/
def fieldChar (fields : List (Nat × Text)) (column : Nat) : Byte :=
  (fields.findSome? fun f => if f.1 ≤ column then f.2[column - f.1]? else none).getD 0x20

/-- A stretch of `w` columns from column `a` on that holds its fields and spaces, the fields lying within it. -/
structure Cell (a w : Nat) (text : Text) (fields : List (Nat × Text)) : Prop where
  length : text.length = w
  within : ∀ f ∈ fields, a ≤ f.1 ∧ f.1 + f.2.length ≤ a + w
  reads : ∀ k, k < w → text[k]? = some (fieldChar fields (a + k))

theorem fieldChar_append_left {fs gs : List (Nat × Text)} {column : Nat} (after : ∀ g ∈ gs, column < g.1) :
    fieldChar (fs ++ gs) column = fieldChar fs column := by
  have none_after : gs.findSome? (fun g => if g.1 ≤ column then g.2[column - g.1]? else none) = none :=
    List.findSome?_eq_none_iff.mpr fun g listed => if_neg (Nat.not_le.mpr (after g listed))
  rw [fieldChar, List.findSome?_append, none_after, Option.or_none]
  rfl

theorem fieldChar_append_right {fs gs : List (Nat × Text)} {column : Nat}
    (before : ∀ f ∈ fs, f.1 + f.2.length ≤ column) : fieldChar (fs ++ gs) column = fieldChar gs column := by
  have none_before : fs.findSome? (fun f => if f.1 ≤ column then f.2[column - f.1]? else none) = none := by
    refine List.findSome?_eq_none_iff.mpr fun f listed => ?_
    have past := before f listed
    rw [ite_eq_right_iff]
    exact fun _ => List.getElem?_eq_none (by omega)
  rw [fieldChar, List.findSome?_append, none_before, Option.none_or]
  rfl

namespace Cell

variable {a w v : Nat} {text later : Text} {fs gs : List (Nat × Text)}

/-- Cells side by side. -/
theorem append (first : Cell a w text fs) (second : Cell (a + w) v later gs) :
    Cell a (w + v) (text ++ later) (fs ++ gs) := by
  obtain ⟨itsLength, itsWithin, itsReads⟩ := first
  obtain ⟨laterLength, laterWithin, laterReads⟩ := second
  refine ⟨by rw [List.length_append, itsLength, laterLength], fun f listed => ?_, fun k inside => ?_⟩
  · rcases List.mem_append.mp listed with here | there
    · have bounds := itsWithin f here
      omega
    · have bounds := laterWithin f there
      omega
  · by_cases here : k < w
    · rw [List.getElem?_append_left (by omega), itsReads k here, fieldChar_append_left]
      intro g listed
      have bounds := laterWithin g listed
      omega
    · rw [List.getElem?_append_right (by omega), itsLength, laterReads (k - w) (by omega), fieldChar_append_right]
      · congr 2
        omega
      · intro f listed
        have bounds := itsWithin f listed
        omega

theorem blank (a w : Nat) : Cell a w (blanks w) [] :=
  ⟨List.length_replicate, fun _ listed => absurd listed List.not_mem_nil, fun _ inside =>
    List.getElem?_replicate_of_lt inside⟩

/-- A text that fills its cell. -/
theorem whole (text : Text) : Cell a text.length text [(a, text)] := by
  refine ⟨rfl, fun f listed => ?_, fun k inside => ?_⟩
  · rw [List.mem_singleton.mp listed]
    exact ⟨le_rfl, le_rfl⟩
  · have covered : a ≤ a + k := Nat.le_add_right a k
    simp only [fieldChar, List.findSome?_cons, covered, if_true, Nat.add_sub_cancel_left,
      List.getElem?_eq_getElem inside, Option.getD_some]

theorem exactly (w : Nat) (length : text.length = w) : Cell a w text [(a, text)] := length ▸ whole text

theorem cast (same : w = v) (cell : Cell a w text fs) : Cell a v text fs := same ▸ cell

theorem leftField_eq (fits : text.length ≤ w) : leftField w text = text ++ blanks (w - text.length) := by
  rw [leftField, List.take_append, List.take_of_length_le fits, List.take_replicate, Nat.min_eq_left (Nat.sub_le ..)]
  rfl

theorem rightField_eq (fits : text.length ≤ w) : rightField w text = blanks (w - text.length) ++ text := by
  rw [rightField, List.drop_append_of_le_length (by rw [List.length_replicate]; exact fits), List.drop_replicate]
  rfl

/-- A text left-aligned in its cell (R121). -/
theorem left (w : Nat) (fits : text.length ≤ w) : Cell a w (leftField w text) [(a, text)] := by
  rw [leftField_eq fits]
  exact ((whole text).append (blank _ _)).cast (by omega)

/-- A figure right-aligned in its cell (R120). -/
theorem right {column : Nat} (w : Nat) (fits : text.length ≤ w) (ends : column + 1 = a + w) :
    Cell a w (rightField w text) [endsAt column text] := by
  have start : endsAt column text = (a + (w - text.length), text) := by
    rw [endsAt, ends, Nat.add_sub_assoc fits]
  rw [rightField_eq fits, start]
  exact ((blank a _).append (whole text)).cast (by omega)

/-- A line of one cell is laid out as its fields say (7.4). -/
theorem laidOut (cell : Cell 1 32 text fs) : LaidOut text fs := by
  obtain ⟨length, -, reads⟩ := cell
  refine ⟨length, fun k inside => ?_⟩
  rw [reads k inside, Nat.add_comm 1 k]
  rfl

end Cell

end Sys2Proof.Machine
end

section

/-! SUPPORT. The lines of a document (R117 to R125): each kind's layout, and a document's lines, their number and
their order. -/

namespace Sys2Proof.Machine

/-! ### Layouts -/

theorem weightText_fits {w : Nat} (most : w ≤ 1000000) : (weightText w).length ≤ 8 := by
  exact weightText_length (digits := 5) (by omega)

theorem amountText_fits {a : Nat} (most : a ≤ 9999999999) : (amountText a).length ≤ 11 :=
  amountText_length (digits := 7) (by omega)

theorem netText_fits {n : Int} (most : n.natAbs ≤ 1000000) : (netText n).length ≤ 9 := by
  have digits := weightText_fits most
  rw [netText, List.length_append]
  split
  · rw [List.length_singleton]
    omega
  · rw [List.length_nil]
    omega

theorem centred_laidOut {x : Text} (fits : x.length ≤ 32) : LaidOut (centred x) [((32 - x.length) / 2 + 1, x)] := by
  rw [centred, Cell.leftField_eq (by rw [List.length_append, blanks, List.length_replicate]; omega), Nat.add_comm]
  exact ((((Cell.blank 1 _).append (Cell.whole x)).append (Cell.blank _ _)).cast
    (by rw [List.length_append, blanks, List.length_replicate]; omega)).laidOut

theorem duplicateLine_laidOut : LaidOut duplicateLine [(8, ascii "*** DUPLICATE ***")] :=
  centred_laidOut (by decide)

theorem separatorLine_laidOut : LaidOut separatorLine [(1, List.replicate 32 0x2D)] :=
  (Cell.exactly 32 (by decide)).laidOut

theorem sellerLine_laidOut {id : Text} (fits : id.length ≤ 16) :
    LaidOut (sellerLine id) [(1, ascii "SELLER"), (8, id)] :=
  ((Cell.left 7 (by decide)).append (Cell.left 16 fits) |>.append (Cell.blank _ 9)).laidOut

theorem plateLine_laidOut {plate : Text} (fits : plate.length ≤ 10) :
    LaidOut (plateLine plate) [(1, ascii "PLATE"), (8, plate)] :=
  ((Cell.left 7 (by decide)).append (Cell.left 10 fits) |>.append (Cell.blank _ 15)).laidOut

theorem kindText_length : ∀ k, (kindText k).length ≤ 6 := by
  intro k
  cases k <;> decide

theorem ticketLine_laidOut {r : CloseRecord} (number : r.number ≤ 99999999) (day : r.day ≤ 65535) :
    LaidOut (ticketLine r)
      [(1, ascii "TICKET"), endsAt 15 (decimal r.number), (17, kindText r.kind), (24, ascii "DAY"),
        endsAt 32 (decimal r.day)] :=
  ((Cell.left 7 (by decide)).append (Cell.right 8 (decimal_length_le (digits := 7) (by omega)) rfl)
    |>.append (Cell.blank _ 1) |>.append (Cell.left 6 (kindText_length _)) |>.append (Cell.blank _ 1)
    |>.append (Cell.exactly 3 (by decide)) |>.append (Cell.blank _ 1)
    |>.append (Cell.right 5 (decimal_length_le (digits := 4) (by omega)) rfl)).laidOut

/-- The date column: the clock's text, or hyphens with the clock unset (R122). -/
def dateText : Option ClockReading → Text
  | some c => c.date
  | none => List.replicate 8 hyphen

theorem dateTimeLine_laidOut {r : CloseRecord} (length : (dateText r.closeTime).length = 8) :
    LaidOut (dateTimeLine r)
      [(1, dateText r.closeTime), (13, ascii "SP" ++ zeroPadded 1 r.closingPort.val),
        (25, optTimeText (r.closeTime.map fun c => c.seconds))] :=
  ((Cell.left 8 length.le).append (Cell.blank _ 4)
    |>.append (Cell.left 3 (by rw [List.length_append, zeroPadded_length]; decide)) |>.append (Cell.blank _ 9)
    |>.append (Cell.left 8 (optTimeText_length _).le)).laidOut

theorem totalLine_laidOut {r : CloseRecord} (total : r.total ≤ 9999999999) :
    LaidOut (totalLine r)
      [(1, ascii "TOTAL"), (7, if r.totalClamped then ascii "CLAMPED" else []), endsAt 32 (amountText r.total)] :=
  ((Cell.left 6 (by decide)).append (Cell.left 15 (by split <;> decide))
    |>.append (Cell.right 11 (amountText_fits total) rfl)).laidOut

theorem weighingKindText_length : ∀ k, (weighingKindText k).length ≤ 6 := by
  intro k
  cases k <;> decide

theorem weighingPlace_length (w : Weighing) : (weighingPlace w).length ≤ 4 := by
  unfold weighingPlace
  split <;> rw [List.length_append, zeroPadded_length] <;> decide

theorem weighingLine_laidOut {w : Weighing} (most : w.weight ≤ 1000000) :
    LaidOut (weighingLine w)
      [(1, zeroPadded 1 w.seq), (3, weighingKindText w.kind), (9, weighingPlace w), endsAt 20 (weightText w.weight),
        (22, ascii "KG"), (25, optTimeText w.time)] :=
  ((Cell.left 2 (by rw [zeroPadded_length]; decide)).append (Cell.left 6 (weighingKindText_length _))
    |>.append (Cell.left 4 (weighingPlace_length w)) |>.append (Cell.right 8 (weightText_fits most) rfl)
    |>.append (Cell.blank _ 1) |>.append (Cell.exactly 2 (by decide)) |>.append (Cell.blank _ 1)
    |>.append (Cell.left 8 (optTimeText_length _).le)).laidOut

/-- A mark of one character, printed where it is set. -/
theorem Cell.mark {a : Nat} (b : Bool) {x : Text} (length : x.length = 1) :
    Cell a 1 (if b then x else blanks 1) [(a, if b then x else [])] := by
  cases b with
  | true => exact Cell.exactly 1 length
  | false => exact Cell.left (text := []) 1 (Nat.zero_le 1)

theorem lineA_laidOut {st : Settings} {l : Line} {index : Nat} (name : st.active[l.grade].name.length = 12)
    (net : l.net.natAbs ≤ 1000000) :
    LaidOut (lineA st index l)
      [(1, zeroPadded 1 index), (3, zeroPadded 2 l.grade.number), (6, st.active[l.grade].name), endsAt 27 (netText l.net),
        (29, ascii "KG"), (32, if l.restricted then ascii "R" else [])] :=
  ((Cell.left 2 (by rw [zeroPadded_length]; decide)).append (Cell.exactly 2 (zeroPadded_length _ _))
    |>.append (Cell.blank _ 1) |>.append (Cell.left 13 (by omega)) |>.append (Cell.right 9 (netText_fits net) rfl)
    |>.append (Cell.blank _ 1) |>.append (Cell.exactly 2 (by decide)) |>.append (Cell.blank _ 1)
    |>.append (Cell.mark _ (by decide))).laidOut

theorem deductionLine_laidOut {l : Line} (auto : l.autoDed ≤ 500000) (manual : l.manualDed ≤ 999999) :
    LaidOut (deductionLine l)
      [(1, if l.dedClamped then ascii "*" else []), (3, ascii "LESS"), (8, ascii "AUTO"),
        endsAt 20 (weightText l.autoDed), (22, ascii "MAN"), endsAt 32 (weightText l.manualDed)] :=
  ((Cell.mark _ (by decide)).append (Cell.blank _ 1) |>.append (Cell.left 5 (by decide))
    |>.append (Cell.left 5 (by decide)) |>.append (Cell.right 8 (weightText_fits (by omega)) rfl)
    |>.append (Cell.blank _ 1) |>.append (Cell.left 4 (by decide))
    |>.append (Cell.right 7 (weightText_length (digits := 4) (by omega)) rfl)).laidOut

/-- The price column: the price, or hyphens on an unpriced line (R124). -/
def pricedText : Option Nat → Text
  | some p => priceText p
  | none => List.replicate 7 hyphen

theorem pricedText_length {price : Option Nat} (most : price.getD 0 ≤ 999999) : (pricedText price).length ≤ 7 := by
  cases price with
  | none => decide
  | some p =>
    have bound : p ≤ 999999 := most
    exact priceText_length (digits := 2) (by omega)

theorem lineB_laidOut {l : Line} (payable : l.payable ≤ 1000000) (price : l.price.getD 0 ≤ 999999) (amount : l.amount ≤ 9999999999) :
    LaidOut (lineB l)
      [endsAt 10 (weightText l.payable), (12, ascii "X"), endsAt 20 (pricedText l.price), endsAt 32 (amountText l.amount)] :=
  ((Cell.blank _ 2).append (Cell.right 8 (weightText_fits payable) rfl) |>.append (Cell.blank _ 1)
    |>.append (Cell.exactly 1 (by decide)) |>.append (Cell.blank _ 1) |>.append (Cell.right 7 (pricedText_length price) rfl)
    |>.append (Cell.blank _ 1) |>.append (Cell.right 11 (amountText_fits amount) rfl)).laidOut

theorem methodText_length : ∀ m, (methodText m).length ≤ 16 := by
  intro m
  cases m <;> decide

theorem paidLine_laidOut {m : Method} {paid rounding : Nat} (most : paid ≤ 9999999999) :
    LaidOut (outcomeLine (.paid m paid rounding)) [(1, ascii "PAID"), (6, methodText m), endsAt 32 (amountText paid)] :=
  ((Cell.left 5 (by decide)).append (Cell.left 16 (methodText_length m))
    |>.append (Cell.right 11 (amountText_fits most) rfl)).laidOut

theorem voidLine_laidOut {reason : Nat} (most : reason ≤ 15) : LaidOut (outcomeLine (.voided reason))
    [(1, ascii "VOID"), (6, ascii "REASON"), endsAt 14 (decimal reason)] :=
  ((Cell.left 5 (by decide)).append (Cell.left 7 (by decide))
    |>.append (Cell.right 2 (decimal_length_le (digits := 1) (by omega)) rfl) |>.append (Cell.blank _ 18)).laidOut

theorem roundingLine_laidOut {rounding : Nat} (most : rounding ≤ 9999999999) :
    LaidOut (leftField 21 (ascii "ROUNDING") ++ rightField 11 (amountText rounding))
      [(1, ascii "ROUNDING"), endsAt 32 (amountText rounding)] :=
  ((Cell.left 21 (by decide)).append (Cell.right 11 (amountText_fits most) rfl)).laidOut

/-! ### Every line has 32 characters (R117) -/

theorem leftField_length (w : Nat) (t : Text) : (leftField w t).length = w := by
  rw [leftField, List.length_take, List.length_append, List.length_replicate]
  omega

theorem rightField_length (w : Nat) (t : Text) : (rightField w t).length = w := by
  rw [rightField, List.length_drop, List.length_append, List.length_replicate, Nat.add_sub_cancel]

theorem blanks_length (n : Nat) : (blanks n).length = n := List.length_replicate

section
variable (st : Settings) (r : CloseRecord)

theorem centred_length (t : Text) : (centred t).length = 32 := leftField_length _ _

theorem ticketLine_length : (ticketLine r).length = 32 := by
  simp only [ticketLine, List.length_append, leftField_length, rightField_length, blanks_length]
  rfl

theorem dateTimeLine_length : (dateTimeLine r).length = 32 := by
  simp only [dateTimeLine, List.length_append, leftField_length, blanks_length]

theorem sellerLine_length (id : Text) : (sellerLine id).length = 32 := by
  simp only [sellerLine, List.length_append, leftField_length, blanks_length]

theorem plateLine_length (plate : Text) : (plateLine plate).length = 32 := by
  simp only [plateLine, List.length_append, leftField_length, blanks_length]

theorem weighingLine_length (w : Weighing) : (weighingLine w).length = 32 := by
  simp only [weighingLine, List.length_append, leftField_length, rightField_length, blanks_length]
  rfl

theorem lineA_length (index : Nat) (l : Line) : (lineA st index l).length = 32 := by
  have marked : (if l.restricted then ascii "R" else blanks 1).length = 1 := by split <;> rfl
  simp only [lineA, List.length_append, leftField_length, rightField_length, blanks_length, zeroPadded_length, marked]
  rfl

theorem deductionLine_length (l : Line) : (deductionLine l).length = 32 := by
  have marked : (if l.dedClamped then ascii "*" else blanks 1).length = 1 := by split <;> rfl
  simp only [deductionLine, List.length_append, leftField_length, rightField_length, blanks_length, marked]

theorem lineB_length (l : Line) : (lineB l).length = 32 := by
  simp only [lineB, List.length_append, rightField_length, blanks_length]
  rfl

theorem totalLine_length : (totalLine r).length = 32 := by
  simp only [totalLine, List.length_append, leftField_length, rightField_length]

theorem outcomeLine_length (c : Closing) : (outcomeLine c).length = 32 := by
  cases c <;> simp only [outcomeLine, List.length_append, leftField_length, rightField_length, blanks_length]

theorem roundingLines_length (c : Closing) : ∀ t ∈ roundingLines c, t.length = 32 := by
  intro t listed
  cases c with
  | paid m a q =>
    rw [roundingLines] at listed
    split at listed
    · rw [List.mem_singleton.mp listed, List.length_append, leftField_length, rightField_length]
    · exact absurd listed List.not_mem_nil
  | voided k => exact absurd listed List.not_mem_nil

theorem ticketLineText_length (index : Nat) (l : Line) : ∀ t ∈ ticketLineText st index l, t.length = 32 := by
  intro t listed
  rw [ticketLineText, List.mem_append, List.mem_append, List.mem_singleton, List.mem_singleton] at listed
  rcases listed with (rfl | deduction) | rfl
  · exact lineA_length st index l
  · split at deduction
    · rw [List.mem_singleton.mp deduction]
      exact deductionLine_length l
    · exact absurd deduction List.not_mem_nil
  · exact lineB_length l

/-! ### The order of a document's lines (R118) -/

theorem textsPresent_eq {n : Nat} (v : Vector (Option Text) n) :
    textsPresent v = (List.finRange n).filterMap fun i => v[i] := by
  have listed : v.toList = (List.finRange n).map fun i => v[i] := by
    refine List.ext_getElem (by simp) fun k _ _ => ?_
    simp
  rw [textsPresent, listed, List.filterMap_map]
  rfl

theorem linesFrom_eq (k : Nat) (ls : List Line) :
    linesFrom st (k + 1) ls = (ls.zipIdx k).flatMap fun x => ticketLineText st (x.2 + 1) x.1 := by
  induction ls generalizing k with
  | nil => rfl
  | cons l ls ih => rw [linesFrom, ih, List.zipIdx_cons, List.flatMap_cons]

/-- The number of lines that ticket lines take: two each, and one for every deduction (R119). -/
theorem linesFrom_count (k : Nat) (ls : List Line) :
    (linesFrom st k ls).length = 2 * ls.length + (ls.filter fun l => 0 < l.autoDed + l.manualDed).length := by
  induction ls generalizing k with
  | nil => rfl
  | cons l ls ih =>
    rw [linesFrom, List.length_append, ih, ticketLineText, List.length_append, List.length_append, List.filter_cons,
      List.length_cons]
    split_ifs <;> simp_all <;> omega

theorem linesFrom_length (k : Nat) (ls : List Line) : ∀ t ∈ linesFrom st k ls, t.length = 32 := by
  induction ls generalizing k with
  | nil => exact fun t listed => absurd listed List.not_mem_nil
  | cons l ls ih =>
    intro t listed
    rcases List.mem_append.mp listed with here | later
    · exact ticketLineText_length st k l t here
    · exact ih (k + 1) t later

/-- The lines before the TOTAL line (R118). -/
def linesAbove (duplicate : Bool) : List Text :=
  (textsPresent st.headers).map centred ++ (if duplicate then [duplicateLine] else []) ++
    [ticketLine r, dateTimeLine r] ++ (r.seller.map sellerLine).toList ++ (r.plate.map plateLine).toList ++
    r.weighings.map weighingLine ++ linesFrom st 1 r.lines ++ [separatorLine]

/-- The lines after the TOTAL line (R118). -/
def linesBelow : List Text :=
  [outcomeLine r.closing] ++ roundingLines r.closing ++ (textsPresent st.footers).map centred

variable (duplicate : Bool)

theorem documentLines_eq : documentLines st duplicate r =
    (linesAbove st r duplicate).map (fun t => (t, false)) ++ [(totalLine r, true)] ++
      (linesBelow st r).map fun t => (t, false) := rfl

theorem documentLines_texts : (documentLines st duplicate r).map (fun x => x.1) =
    linesAbove st r duplicate ++ [totalLine r] ++ linesBelow st r := by
  simp [documentLines_eq, Function.comp_def]

theorem documentLines_bold : ((documentLines st duplicate r).filter fun x => x.2) = [(totalLine r, true)] := by
  have plain (ls : List Text) : (ls.map fun t => (t, false)).filter (fun x => x.2) = [] := by
    rw [List.filter_eq_nil_iff]
    intro x listed
    obtain ⟨t, -, rfl⟩ := List.mem_map.mp listed
    exact Bool.false_ne_true
  rw [documentLines_eq, List.filter_append, List.filter_append, plain, plain]
  rfl

theorem linesAbove_length : ∀ t ∈ linesAbove st r duplicate, t.length = 32 := by
  have centredText (ls : List Text) : ∀ t ∈ ls.map centred, t.length = 32 := by
    intro t listed
    obtain ⟨x, -, rfl⟩ := List.mem_map.mp listed
    exact centred_length x
  intro t listed
  simp only [linesAbove, List.mem_append, or_assoc] at listed
  rcases listed with header | dup | first | seller | plate | weighing | line | rule
  · exact centredText _ t header
  · split at dup
    · rw [List.mem_singleton.mp dup]
      exact centred_length _
    · exact absurd dup List.not_mem_nil
  · rcases List.mem_pair.mp first with rfl | rfl
    · exact ticketLine_length r
    · exact dateTimeLine_length r
  · obtain ⟨id, -, rfl⟩ := Option.map_eq_some_iff.mp (Option.mem_toList.mp seller)
    exact sellerLine_length id
  · obtain ⟨x, -, rfl⟩ := Option.map_eq_some_iff.mp (Option.mem_toList.mp plate)
    exact plateLine_length x
  · obtain ⟨w, -, rfl⟩ := List.mem_map.mp weighing
    exact weighingLine_length w
  · exact linesFrom_length st 1 r.lines t line
  · rw [List.mem_singleton.mp rule]
    rfl

theorem linesBelow_length : ∀ t ∈ linesBelow st r, t.length = 32 := by
  intro t listed
  simp only [linesBelow, List.mem_append, or_assoc] at listed
  rcases listed with outcome | rounding | footer
  · rw [List.mem_singleton.mp outcome]
    exact outcomeLine_length r.closing
  · exact roundingLines_length r.closing t rounding
  · obtain ⟨x, -, rfl⟩ := List.mem_map.mp footer
    exact centred_length x

theorem documentLines_length {x : Text × Bool} (listed : x ∈ documentLines st duplicate r) : x.1.length = 32 := by
  have text : x.1 ∈ (documentLines st duplicate r).map (fun x => x.1) := List.mem_map_of_mem listed
  rw [documentLines_texts, List.mem_append, List.mem_append, List.mem_singleton] at text
  rcases text with (above | total) | below
  · exact linesAbove_length st r duplicate _ above
  · rw [total]
    exact totalLine_length r
  · exact linesBelow_length st r _ below

/-- A document has the lines its count says (R119). -/
theorem documentLines_count : (documentLines st duplicate r).length = lineCount st duplicate r := by
  have twice : (if duplicate then [duplicateLine] else []).length = duplicate.toNat := by cases duplicate <;> rfl
  have seller : (r.seller.map sellerLine).toList.length = r.seller.isSome.toNat := by cases r.seller <;> rfl
  have plate : (r.plate.map plateLine).toList.length = r.plate.isSome.toNat := by cases r.plate <;> rfl
  have texts : (documentLines st duplicate r).length = ((documentLines st duplicate r).map (fun x => x.1)).length :=
    (List.length_map _).symm
  rw [texts, documentLines_texts]
  simp only [linesAbove, linesBelow, lineCount, List.length_append, List.length_map, List.length_cons, List.length_nil,
    twice, seller, plate, linesFrom_count]
  omega

/-- How many ROUNDING lines a record has: one where it is PAID with a rounding above 0 (R118). -/
def roundingCount : Closing → Nat
  | .paid _ _ q => (decide (0 < q)).toNat
  | .voided _ => 0

theorem roundingLines_count (c : Closing) : (roundingLines c).length = roundingCount c := by
  cases c with
  | paid m a q =>
    by_cases some_rounding : 0 < q
    · simp [roundingLines, roundingCount, some_rounding]
    · simp [roundingLines, roundingCount, some_rounding]
  | voided k => rfl

end

end Sys2Proof.Machine
end

section

/-! SUPPORT. The hand-over of a document to the spool (R126, R133): its lines stand in the pages taken for it. -/

namespace Sys2Proof.Machine

section
variable (s : State) (jn : JobNo) (k : Printer) (copies : Nat) (duplicate : Bool) (r : CloseRecord)

/-- The job record that a document takes (R126). -/
def documentJob : Job :=
  { composerJob k r.number (lineCount s.settings duplicate r) copies with
    pages := s.freePages.take (pagesNeeded (lineCount s.settings duplicate r)) }

/-- The pages and the number taken for a document (R133). -/
def State.roomTaken : State :=
  s.allocate jn (pagesNeeded (lineCount s.settings duplicate r))
    (composerJob k r.number (lineCount s.settings duplicate r) copies)

/-- The lines of a document written into the pages taken for it (R126). -/
def State.documentWritten : State :=
  (s.roomTaken jn k copies duplicate r).writeLines (documentJob s k copies duplicate r) 0
    (documentLines s.settings duplicate r)

/-- The state in which a document has been handed over, its queue not yet offered to the engine. -/
def State.spooled : State := (s.documentWritten jn k copies duplicate r).joinQueue k jn

theorem handOver_offers :
    s.handOver jn k copies duplicate r = (s.spooled jn k copies duplicate r).offer k := by
  have job : (s.roomTaken jn k copies duplicate r).jobs[jn] = some (documentJob s k copies duplicate r) :=
    State.setJob_get_self ..
  rw [State.roomTaken] at job
  rw [handOver_eq, State.placeDocument, job]
  rfl

theorem spooled_frame : s.spooled jn k copies duplicate r = { s with
    pageMem := (s.spooled jn k copies duplicate r).pageMem
    boldMarks := (s.spooled jn k copies duplicate r).boldMarks
    freePages := s.freePages.drop (pagesNeeded (lineCount s.settings duplicate r))
    jobs := s.jobs.set jn (some (documentJob s k copies duplicate r)), queues := s.queues.set k (s.queues[k] ++ [jn]) } := by
  obtain ⟨pageMem, boldMarks, written⟩ := writeLines_frame (s.roomTaken jn k copies duplicate r)
    (documentJob s k copies duplicate r) 0 (documentLines s.settings duplicate r)
  unfold State.spooled State.documentWritten
  rw [written]
  rfl

theorem storedLine_joinQueue (j : Job) (n : Nat) : (s.joinQueue k jn).storedLine j n = s.storedLine j n := rfl

theorem joinQueue_memories :
    (s.joinQueue k jn).pageMem = s.pageMem ∧ (s.joinQueue k jn).boldMarks = s.boldMarks := ⟨rfl, rfl⟩

theorem roomTaken_lawful (law : MemoryLaw s) : MemoryLaw (s.roomTaken jn k copies duplicate r) := law

variable {s jn k copies duplicate r} (law : MemoryLaw s)
include law

theorem spooled_pageMem_avoided {a : Nat}
    (avoids : ∀ n, n < lineCount s.settings duplicate r → (documentJob s k copies duplicate r).slotAvoids n a) :
    memRead (s.spooled jn k copies duplicate r).pageMem a = memRead s.pageMem a := by
  have kept := writeLines_pageMem_avoided (j := documentJob s k copies duplicate r) (n := 0)
    (documentLines s.settings duplicate r) (roomTaken_lawful s jn k copies duplicate r law)
    fun n inside => by
      rw [documentLines_count] at inside
      rw [Nat.zero_add]
      exact avoids n inside
  rw [State.spooled, (joinQueue_memories _ _ _).1]
  exact kept

theorem spooled_boldMarks_avoided {a : Nat}
    (avoids : ∀ n, n < lineCount s.settings duplicate r → (documentJob s k copies duplicate r).markAvoids n a) :
    memRead (s.spooled jn k copies duplicate r).boldMarks a = memRead s.boldMarks a := by
  have kept := writeLines_boldMarks_avoided (j := documentJob s k copies duplicate r) (n := 0)
    (documentLines s.settings duplicate r) (roomTaken_lawful s jn k copies duplicate r law)
    fun n inside => by
      rw [documentLines_count] at inside
      rw [Nat.zero_add]
      exact avoids n inside
  rw [State.spooled, (joinQueue_memories _ _ _).2]
  exact kept

theorem spooled_storedLine (pages : PageLaw s)
    (room : pagesNeeded (lineCount s.settings duplicate r) ≤ s.freePages.length) {n : Nat}
    (inside : n < lineCount s.settings duplicate r) :
    (documentLines s.settings duplicate r)[n]? =
      some ((s.spooled jn k copies duplicate r).storedLine (documentJob s k copies duplicate r) n) := by
  obtain ⟨rising, -⟩ := pages
  have nodup : (documentJob s k copies duplicate r).pages.Nodup :=
    (rising.imp fun below => ne_of_lt below).sublist (List.take_sublist _ _)
  have taken : (documentJob s k copies duplicate r).pages.length = pagesNeeded (lineCount s.settings duplicate r) := by
    rw [documentJob, List.length_take, Nat.min_eq_left room]
  have holds : 0 + (documentLines s.settings duplicate r).length ≤ (documentJob s k copies duplicate r).capacity := by
    have needed : pagesNeeded (lineCount s.settings duplicate r) = (lineCount s.settings duplicate r + 7) / 8 := rfl
    rw [Job.capacity, taken, needed, documentLines_count, Config.slotsPerPage]
    omega
  have listed : n < (documentLines s.settings duplicate r).length := by rwa [documentLines_count]
  have line := List.getElem?_eq_getElem listed
  have stored := storedLine_writeLines (roomTaken_lawful s jn k copies duplicate r law) nodup holds line
  have full : fillLine (documentLines s.settings duplicate r)[n].1 = (documentLines s.settings duplicate r)[n].1 := by
    have length := documentLines_length s.settings r duplicate (List.getElem_mem listed)
    rw [fillLine_of_short length.le, length, Nat.sub_self, List.replicate_zero, List.append_nil]
  rw [full, Nat.zero_add] at stored
  rw [line, State.spooled, storedLine_joinQueue]
  exact congrArg some stored.symm

end

/-- Settles O42: a document's lines, their figures, layouts and order, and their hand-over to the spool. -/
theorem composerHandsOverTheDocument : Obligations.ComposerHandsOverTheDocument := by
  refine ⟨?_, ?_, ?_, ?_⟩
  · intro st duplicate r count
    have counted : lineCount st duplicate r = count := by
      rw [lineCount, roundingLines_count]
      rfl
    refine ⟨(documentLines_count st r duplicate).trans counted, counted, rfl,
      fun x listed => documentLines_length st r duplicate listed, documentLines_bold st r duplicate, ?_⟩
    rw [documentLines_texts, linesAbove, linesBelow, linesFrom_eq, textsPresent_eq, textsPresent_eq, Option.toList_map,
      Option.toList_map]
    simp only [List.append_assoc, List.cons_append, List.nil_append]
    rfl
  · exact ⟨fun n fits => ⟨decimal_readsAs fits, decimal_ne_nil n, decimal_head fits⟩,
      fun w n => ⟨zeroPadded_readsAs w n, zeroPadded_length w n⟩, fun w => rfl,
      fun n => by rw [netText]; split <;> rfl, fun p => rfl, fun a => rfl, fun n => ⟨rfl, rfl⟩⟩
  · refine ⟨fun x fits => centred_laidOut fits, duplicateLine_laidOut, separatorLine_laidOut,
      fun id fits => sellerLine_laidOut fits, fun plate fits => plateLine_laidOut fits, fun r => ⟨?_, ?_, ?_, ?_⟩,
      fun w most => ?_, fun st l index name net => lineA_laidOut name net,
      fun l auto manual => deductionLine_laidOut auto manual, fun l payable price amount => ?_,
      fun m paid rounding reason paidMost roundingMost reasonMost => ⟨?_, voidLine_laidOut reasonMost, rfl, ?_, ?_⟩⟩
    · exact fun number day => ticketLine_laidOut number day
    · intro c closeTime length
      have line := dateTimeLine_laidOut (r := r) (by rw [closeTime]; exact length)
      rw [closeTime] at line
      exact line
    · intro closeTime
      have line := dateTimeLine_laidOut (r := r) (by rw [closeTime]; rfl)
      rw [closeTime] at line
      exact line
    · exact fun total => totalLine_laidOut total
    · exact weighingLine_laidOut most
    · exact lineB_laidOut payable price amount
    · exact paidLine_laidOut paidMost
    · rintro rfl
      rfl
    · exact fun some_rounding => ⟨_, if_pos some_rounding, roundingLine_laidOut roundingMost⟩
  · intro s jn k copies duplicate r law pages free lines needed job room
    exact ⟨_, handOver_offers s jn k copies duplicate r, spooled_frame s jn k copies duplicate r,
      fun n inside => spooled_storedLine law pages room inside, fun a avoids => spooled_pageMem_avoided law fun n inside page slot => avoids n page slot inside,
      fun a avoids => spooled_boldMarks_avoided law fun n inside page slot => avoids n page slot inside⟩

end Sys2Proof.Machine
end

section

/-! SUPPORT. A job sent whole (R153, R158, R159): the frames a printer takes one after another, part by part, line by
line and copy by copy. -/

namespace Sys2Proof.Machine

/-! ### The bits of a frame (R153) -/

theorem count_foldl_xor (bits : List Bool) (p : Bool) :
    (bits.count true + (bits.foldl (fun p x => p ^^ x) p).toNat) % 2 = p.toNat := by
  induction bits generalizing p with
  | nil => cases p <;> rfl
  | cons x rest ih =>
    have later := ih (p ^^ x)
    rw [List.foldl_cons, List.count_cons]
    cases p <;> cases x <;> simp_all <;> omega

theorem frameBits_odd (b : LinkByte) : (((frameBits b).drop 1).take 10).count true % 2 = 1 := by
  have kept : ((frameBits b).drop 1).take 10 = ((List.range 8).map fun i => b.data.getLsbD i) ++ [b.control, parityBit b] :=
    rfl
  have odd := count_foldl_xor ((List.range 8).map fun i => b.data.getLsbD i) (!b.control)
  rw [kept, List.count_append]
  unfold parityBit
  generalize (List.map (fun i => b.data.getLsbD i) (List.range 8)).foldl (fun p x => p ^^ x) (!b.control) = parity at odd ⊢
  cases control : b.control <;> cases parity <;> simp_all <;> omega

theorem frameBits_data (b : LinkByte) {i : Nat} (inside : i < 8) : (frameBits b)[i + 1]? = some (b.data.getLsbD i) := by
  have listed : ((List.range 8).map fun i => b.data.getLsbD i)[i]? = some (b.data.getLsbD i) := by
    rw [List.getElem?_map, List.getElem?_range inside, Option.map_some]
  have length : ((List.range 8).map fun i => b.data.getLsbD i).length = 8 := by rw [List.length_map, List.length_range]
  rw [frameBits, List.append_assoc, List.singleton_append, List.getElem?_cons_succ,
    List.getElem?_append_left (by omega), listed]

/-! ### Frames taken one after another -/

/-- The printer takes these bytes, frame by frame, and the state that follows. -/
inductive Takes (k : Printer) : State → List LinkByte → State → Prop
  | refl (s : State) : Takes k s [] s
  | step {s t u : State} {b : LinkByte} {bs : List LinkByte} : exec (.printerFrameEnd k .accepted) s = .next t →
      (s.printers[k]).pendingByte = some b → Takes k t bs u → Takes k s (b :: bs) u

section
variable {k : Printer} {s t u : State} {as bs : List LinkByte}

theorem Takes.acceptedRun (taken : Takes k s bs t) : acceptedRun k bs.length s = (bs, t) := by
  induction taken with
  | refl s => rfl
  | step next pending _ ih =>
    rw [List.length_cons, Machine.acceptedRun, next, pending]
    dsimp only
    rw [ih]
    rfl

theorem Takes.trans (first : Takes k s as t) (second : Takes k t bs u) : Takes k s (as ++ bs) u := by
  induction first with
  | refl s => exact second
  | step next pending _ ih => exact .step next pending (ih second)

end

/-! ### The engine at work on a job -/

/-- The job as its engine sends it: PRINTING, at this copy, with so many lines of it sent. -/
def Job.onCopy (j : Job) (copy sent : Nat) : Job := { j with state := .printing, currentCopy := copy, sent := sent }

/-- State `s` with job `jn` and the engine of printer `k` as the sending leaves them. -/
def State.engaged (s : State) (k : Printer) (jn : JobNo) (j : Job) (e : Engine) : State :=
  (s.setJob jn (some j)).setEngine k e

/-- The engine has byte `n` of a part of job `jn` on the link. -/
structure Engine.Sends (e : Engine) (jn : JobNo) (part : CopyPart) (n : Nat) (b : LinkByte) : Prop where
  state : e.state = .sending
  job : e.job = some jn
  position : e.position = some ⟨part, n⟩
  pending : e.pendingByte = some b
  framed : e.frame ≠ none
  unbacked : e.backoff = none
  released : e.clockLow = false
  keeps : e.dropping = false

/-- The engine of job `jn` stands between two bytes, the clock line high. -/
structure Engine.Between (e : Engine) (jn : JobNo) : Prop where
  awaits : e.awaitsByte
  job : e.job = some jn
  released : e.clockLow = false
  keeps : e.dropping = false

section
variable {e : Engine} {jn : JobNo} {part : CopyPart} {n : Nat} {b : LinkByte}

theorem Engine.Between.sends (between : e.Between jn) (s : State) (part : CopyPart) (n : Nat) (b : LinkByte) :
    (sendsByte s e ⟨part, n⟩ b).Sends jn part n b := by
  obtain ⟨⟨-, -, unbacked⟩, job, released, keeps⟩ := between
  have sends : sendsByte s e ⟨part, n⟩ b =
      { e with state := .sending, position := some ⟨part, n⟩, pendingByte := some b, frame := some 1 } :=
    if_neg (by rw [released]; exact Bool.false_ne_true)
  rw [sends]
  exact ⟨rfl, job, rfl, rfl, nofun, unbacked, released, keeps⟩

theorem Engine.Sends.accepted (sends : e.Sends jn part n b) : e.accepted.Between jn :=
  ⟨⟨sends.state, rfl, sends.unbacked⟩, sends.job, sends.released, sends.keeps⟩

end

section
variable {s : State} {k : Printer} {jn : JobNo} {j : Job} {e : Engine} {part : CopyPart} {n copy : Nat} {b : LinkByte}

theorem engaged_engine (s : State) (k : Printer) (jn : JobNo) (j : Job) (e : Engine) :
    (s.engaged k jn j e).printers[k] = e := State.setEngine_get_self ..

theorem engaged_job (s : State) (k : Printer) (jn : JobNo) (j : Job) (e : Engine) :
    (s.engaged k jn j e).jobs[jn] = some j := State.setJob_get_self s jn (some j)

theorem engaged_setEngine (e' : Engine) : (s.engaged k jn j e).setEngine k e' = s.engaged k jn j e' :=
  State.setEngine_setEngine ..

theorem engaged_setJob (j' : Job) : (s.engaged k jn j e).setJob jn (some j') = s.engaged k jn j' e := by
  simp only [State.engaged, State.setJob, State.setEngine, Vector.set_set]

theorem engaged_accepted (taking : s.taking = true) (sends : e.Sends jn part n b) :
    exec (.printerFrameEnd k .accepted) (s.engaged k jn j e) = .next ((s.engaged k jn j e).byteAccepted k) := by
  have running : (s.engaged k jn j e).taking = true := taking
  refine congrArg Host.Outcome.next ((whileTaking_of_taking running).trans (frameEnd_accepted ?_ ?_))
  · rw [engaged_engine]
    exact sends.framed
  · rw [engaged_engine]
    exact sends.keeps

/-- The bytes of a part from byte `n` on are taken, and the part has been sent. -/
theorem part_taken_from (taking : s.taking = true) {rest : List LinkByte} (sends : e.Sends jn part n b)
    (bytes : (s.partBytes j part).drop n = b :: rest) :
    ∃ e', e'.Between jn ∧ Takes k (s.engaged k jn j e) (b :: rest) ((s.engaged k jn j e').partSent k jn part) := by
  have next := engaged_accepted (j := j) (k := k) taking sends
  have pending : ((s.engaged k jn j e).printers[k]).pendingByte = some b := by
    rw [engaged_engine]
    exact sends.pending
  have held : ((s.engaged k jn j e).printers[k]).job = some jn := by rw [engaged_engine]; exact sends.job
  have position : ((s.engaged k jn j e).printers[k]).position = some ⟨part, n⟩ := by
    rw [engaged_engine]
    exact sends.position
  induction rest generalizing e n b with
  | nil =>
    have length : (s.partBytes j part).length = n + 1 := by
      have counted := congrArg List.length bytes
      rw [List.length_drop, List.length_singleton] at counted
      omega
    have last := byteAccepted_last held (engaged_job s k jn j e) position length
    rw [engaged_engine, engaged_setEngine] at last
    rw [last] at next
    exact ⟨e.accepted, sends.accepted, .step next pending (.refl _)⟩
  | cons b' rest ih =>
    have following : (s.partBytes j part).drop (n + 1) = b' :: rest := by
      rw [← List.drop_drop, bytes]
      rfl
    have byte : (s.partBytes j part)[n + 1]? = some b' := by
      rw [← List.head?_drop, following]
      rfl
    have moved := byteAccepted_within held (engaged_job s k jn j e) position
      (by rw [engaged_engine]; exact sends.accepted.awaits) byte
    rw [engaged_engine, engaged_setEngine] at moved
    rw [moved] at next
    have later : (sendsByte (s.engaged k jn j e) e.accepted ⟨part, n + 1⟩ b').Sends jn part (n + 1) b' :=
      sends.accepted.sends _ _ _ _
    obtain ⟨e', between, taken⟩ := ih later following (engaged_accepted taking later)
      (by rw [engaged_engine]; exact later.pending) (by rw [engaged_engine]; exact later.job)
      (by rw [engaged_engine]; exact later.position)
    exact ⟨e', between, .step next pending taken⟩

theorem part_taken (taking : s.taking = true) (sends : e.Sends jn part 0 b)
    (first : (s.partBytes j part).head? = some b) :
    ∃ e', e'.Between jn ∧
      Takes k (s.engaged k jn j e) (s.partBytes j part) ((s.engaged k jn j e').partSent k jn part) := by
  obtain ⟨rest, bytes⟩ := List.head?_eq_some_iff.mp first
  rw [bytes]
  exact part_taken_from taking sends bytes

end

end Sys2Proof.Machine
end

section

/-! SUPPORT. A job sent whole (R158, R159), continued: its lines and CUT, its copies, and the queue after the last of
them. -/

namespace Sys2Proof.Machine

section
variable {s : State} {k : Printer} {jn : JobNo} {j : Job} {e : Engine} {part : CopyPart} {sent copy : Nat}

/-! ### Lines and CUT -/

/-- The bytes from line `first` on, `count` lines and CUT (R158). -/
def lineStream (s : State) (j : Job) (first count : Nat) : List LinkByte :=
  ((List.range' first count).flatMap fun n => storedLineBytes (s.storedLine j n)) ++ [controlCode Config.codeCut]

theorem lineStream_succ (s : State) (j : Job) (first count : Nat) :
    lineStream s j first (count + 1) = storedLineBytes (s.storedLine j first) ++ lineStream s j (first + 1) count := by
  rw [lineStream, List.range'_succ, List.flatMap_cons, List.append_assoc]
  rfl

/-- The engine between two bytes enters a part, and its first byte is on the link. -/
theorem engaged_line (between : e.Between jn) (unended : j.endPending = none) (unsent : sent < j.written) :
    ∃ e' b, e'.Sends jn (.stored sent) 0 b ∧ (storedLineBytes (s.storedLine j sent)).head? = some b ∧
      ((s.engaged k jn (j.onCopy copy sent) e).nextPart k jn).beginFrame k = s.engaged k jn (j.onCopy copy sent) e' := by
  obtain ⟨b, first, entered⟩ := line_beginFrame (s := s.engaged k jn (j.onCopy copy sent) e) (p := k)
    (by rw [engaged_engine]; exact between.awaits) (engaged_job ..) unended unsent
  rw [engaged_engine, engaged_setEngine] at entered
  exact ⟨_, b, between.sends _ _ _ _, first, entered⟩

theorem engaged_cut (between : e.Between jn) (closed : j.closed = true) :
    ∃ e', e'.Sends jn .cut 0 (controlCode Config.codeCut) ∧
      ((s.engaged k jn (j.onCopy copy j.written) e).nextPart k jn).beginFrame k =
        s.engaged k jn (j.onCopy copy j.written) e' := by
  have entered := cut_beginFrame (s := s.engaged k jn (j.onCopy copy j.written) e) (p := k)
    (by rw [engaged_engine]; exact between.awaits) (engaged_job ..) (.inr ⟨le_rfl, closed⟩)
  rw [engaged_engine, engaged_setEngine] at entered
  exact ⟨_, between.sends _ _ _ _, entered⟩

theorem lines_taken (taking : s.taking = true) (closed : j.closed = true) (unended : j.endPending = none)
    (count : Nat) (all : sent + count = j.written) (between : e.Between jn) :
    ∃ e', e'.Between jn ∧
      Takes k (((s.engaged k jn (j.onCopy copy sent) e).nextPart k jn).beginFrame k) (lineStream s j sent count)
        ((s.engaged k jn (j.onCopy copy j.written) e').copyEnd k jn) := by
  induction count generalizing sent e with
  | zero =>
    obtain rfl : sent = j.written := all
    obtain ⟨x, sends, entered⟩ := engaged_cut (s := s) (k := k) (copy := copy) between closed
    obtain ⟨e', after, taken⟩ := part_taken (s := s) (k := k) (j := j.onCopy copy j.written) taking sends rfl
    rw [entered]
    exact ⟨e', after, taken⟩
  | succ count ih =>
    obtain ⟨x, b, sends, first, entered⟩ := engaged_line (s := s) (k := k) (copy := copy) between unended
      (show sent < j.written by omega)
    obtain ⟨y, after, taken⟩ := part_taken (s := s) (k := k) (j := j.onCopy copy sent) taking sends first
    rw [partSent_goesOn (part := .stored sent) (engaged_job s k jn (j.onCopy copy sent) y) nofun, engaged_setJob] at taken
    obtain ⟨e', last, rest⟩ := ih (sent := sent + 1) (by omega) after
    rw [entered, lineStream_succ]
    exact ⟨e', last, taken.trans rest⟩

/-! ### Copies -/

theorem copyStream_eq (s : State) (j : Job) (copy sent : Nat) : copyStream s j copy =
    (if 1 < j.copies then copyMarkerBytes (j.onCopy copy sent) else []) ++ lineStream s j 0 j.written := by
  rw [copyStream, lineStream, List.append_assoc, List.range_eq_range']
  rfl

/-- One copy of a job is taken, from its beginning to its accepted CUT. -/
theorem copy_taken (taking : s.taking = true) (closed : j.closed = true) (unended : j.endPending = none)
    (between : e.Between jn) :
    ∃ e', e'.Between jn ∧
      Takes k ((s.engaged k jn (j.onCopy copy sent) e).beginCopy k jn) (copyStream s j copy)
        ((s.engaged k jn (j.onCopy copy j.written) e').copyEnd k jn) := by
  rw [copyStream_eq s j copy 0]
  by_cases several : 1 < j.copies
  · rw [if_pos several]
    obtain ⟨b, first, begun⟩ := beginCopy_marked (s := s.engaged k jn (j.onCopy copy sent) e) (p := k)
      (by rw [engaged_engine]; exact between.awaits) (engaged_job ..) several
    rw [engaged_setJob, engaged_engine, engaged_setEngine] at begun
    obtain ⟨x, after, marked⟩ := part_taken (s := s) (k := k) (j := j.onCopy copy 0) taking
      (between.sends _ .copyMarker 0 b) first
    rw [partSent_goesOn (part := .copyMarker) (engaged_job s k jn (j.onCopy copy 0) x) nofun, engaged_setJob] at marked
    obtain ⟨e', last, rest⟩ := lines_taken (s := s) (k := k) (sent := 0) (copy := copy) taking closed unended j.written
      (Nat.zero_add _) after
    rw [begun]
    exact ⟨e', last, marked.trans rest⟩
  · rw [if_neg several, List.nil_append, beginCopy_single (engaged_job s k jn (j.onCopy copy sent) e) several, engaged_setJob]
    exact lines_taken taking closed unended j.written (Nat.zero_add _) between

theorem copies_taken (taking : s.taking = true) (closed : j.closed = true) (unended : j.endPending = none)
    (more : Nat) (all : copy + more = j.copies) (between : e.Between jn) :
    ∃ e', Takes k ((s.engaged k jn (j.onCopy copy sent) e).beginCopy k jn)
        ((List.range' copy (more + 1)).flatMap (copyStream s j))
        (((((s.engaged k jn (j.onCopy j.copies j.written) e').leaveQueue k jn).endJob jn .printed true).restEngine k)) := by
  induction more generalizing copy sent e with
  | zero =>
    obtain rfl : copy = j.copies := all
    obtain ⟨e', -, taken⟩ := copy_taken (s := s) (k := k) (copy := j.copies) (sent := sent) taking closed unended between
    have printed : (j.onCopy j.copies j.written).endStatus = .printed := by
      simp only [Job.endStatus, Job.onCopy, unended]
    rw [copyEnd_of_last (engaged_job s k jn (j.onCopy j.copies j.written) e') (.inr le_rfl), printed] at taken
    refine ⟨e', ?_⟩
    rw [List.range'_one, List.flatMap_singleton]
    exact taken
  | succ more ih =>
    obtain ⟨x, after, taken⟩ := copy_taken (s := s) (k := k) (copy := copy) (sent := sent) taking closed unended between
    rw [copyEnd_of_more (engaged_job s k jn (j.onCopy copy j.written) x) unended (show copy < j.copies by omega), engaged_setJob] at taken
    obtain ⟨e', rest⟩ := ih (copy := copy + 1) (sent := 0) (by omega) after
    refine ⟨e', ?_⟩
    rw [List.range'_succ, List.flatMap_cons]
    exact taken.trans rest

/-! ### The queue at the end -/

theorem endJob_queues (job : s.jobs[jn] = some j) (d : DoneStatus) (latch : Bool) :
    (s.endJob jn d latch).queues = s.queues := by
  rw [endJob_frame job]

theorem restEngine_queues (s : State) (p : Printer) : (s.restEngine p).queues = s.queues := by
  rw [restEngine_eq, offer_sends]
  rfl

theorem finished_queue {rest : List JobNo} (queue : s.queues[k] = jn :: rest) (once : (s.queues[k]).Nodup) :
    ((((s.engaged k jn j e).leaveQueue k jn).endJob jn .printed true).restEngine k).queues[k] = rest := by
  have job : ((s.engaged k jn j e).leaveQueue k jn).jobs[jn] = some j := engaged_job s k jn j e
  have queues : ((((s.engaged k jn j e).leaveQueue k jn).endJob jn .printed true).restEngine k).queues =
      s.queues.set k ((s.queues[k]).filter fun x => x != jn) :=
    (restEngine_queues ..).trans (endJob_queues job _ _)
  rw [queues, getElem_set_fin, if_pos rfl, queue, List.filter_cons_of_neg (by simp), List.filter_eq_self]
  intro x listed
  rw [queue] at once
  exact bne_iff_ne.mpr fun same => (List.nodup_cons.mp once).1 (same ▸ listed)

theorem offer_engaged (head : s.headJob k = some (jn, j)) (idle : (s.printers[k]).state = .idle)
    (startable : j.startable = true) (copy : j.currentCopy = 1) :
    s.offer k = (s.engaged k jn (j.onCopy 1 j.sent) ((s.printers[k]).taking jn)).beginCopy k jn := by
  have printing : { j with state := .printing } = j.onCopy 1 j.sent := by
    rw [Job.onCopy, ← copy]
  rw [offer_of_ready head idle startable, printing]
  rfl

end

/-- Settles O52: a closed job arrives whole at a printer that accepts every frame, and the bits of a frame. -/
theorem printerTakesTheWholeJob : Obligations.PrinterTakesTheWholeJob := by
  refine ⟨?_, fun b => ⟨rfl, rfl, fun i inside => frameBits_data b inside, rfl, frameBits_odd b, rfl⟩, rfl, rfl, rfl, rfl⟩
  intro s k jn j taking _ law head idle rest released queued closed unended first copies written stream run
  obtain ⟨-, -, -, unframed, unbacked, -, keeps⟩ := rest
  obtain ⟨⟨later, queue⟩, -⟩ := headJob_eq_some.mp head
  obtain ⟨once, -⟩ := law
  have startable : j.startable = true := by simp [Job.startable, queued, closed]
  have between : ((s.printers[k]).taking jn).Between jn := ⟨⟨rfl, unframed, unbacked⟩, rfl, released, keeps⟩
  obtain ⟨e', taken⟩ := copies_taken (k := k) (copy := 1) (sent := j.sent) taking closed unended (j.copies - 1)
    (by omega) between
  have copied : (List.range' 1 (j.copies - 1 + 1)).flatMap (copyStream s j) = stream := by
    rw [Nat.sub_add_cancel copies, List.range'_eq_map_range, List.flatMap_map]
    simp only [stream, Nat.add_comm 1]
  rw [← offer_engaged head idle startable first, copied] at taken
  have ran : run = (stream, _) := taken.acceptedRun
  have left := finished_queue (j := j.onCopy j.copies j.written) (e := e') queue (once k)
  refine ⟨congrArg Prod.fst ran, ?_, ?_⟩
  · rw [ran, left]
    have distinct := once k
    rw [queue] at distinct
    exact (List.nodup_cons.mp distinct).1
  · rw [ran, left, queue]
    rfl

end Sys2Proof.Machine
end
